-- ==== Sys2Proof/Word.lean ====
section
/-! DEFINITION. Word.lean: the word types of the device and nothing else. A register is 32 bits and an instruction
word 64 bits (R5); a packet's granule is a byte (R8). -/

namespace Sys2Proof

/-- One byte. -/
abbrev Byte := BitVec 8

/-- A register word (R11). -/
abbrev Word := BitVec 32

/-- A core register, a global address, a Tempo count (R5, R60). -/
abbrev DWord := BitVec 64

end Sys2Proof
end

