-- ==== Sys2Proof/Operand.lean ====
section
/-! DEFINITION. Operand.lean: the types of the commands' operands: who sends a register access, completion statuses,
and (further down) packets and instruction formats. -/

namespace Sys2Proof

/-- A requester of register accesses (R14, R531). `vf n` is VF n + 1, which serves partition Pn (R477). -/
inductive Requester where
  | mgmt
  | pf
  | vf (n : Fin 8)
  | sideband
  deriving DecidableEq, Repr

/-- The completion statuses of R509. -/
inductive Status where
  | ok
  | okRetried
  | failedTimeout
  | fenced
  | targetResetting
  | uncorrectable
  | accessDenied
  | indeterminate
  | addressInvalid
  | noRoute
  | cancelled
  deriving DecidableEq, Repr

/-- The 4-bit code of a status (R509). -/
def Status.code : Status → Nat
  | .ok => 0
  | .okRetried => 1
  | .failedTimeout => 2
  | .fenced => 3
  | .targetResetting => 4
  | .uncorrectable => 5
  | .accessDenied => 6
  | .indeterminate => 7
  | .addressInvalid => 8
  | .noRoute => 9
  | .cancelled => 10

/-- The status of a 4-bit code; the reserved codes 0xB to 0xF name none (R509, R511). -/
def Status.ofCode : Nat → Option Status
  | 0 => some .ok
  | 1 => some .okRetried
  | 2 => some .failedTimeout
  | 3 => some .fenced
  | 4 => some .targetResetting
  | 5 => some .uncorrectable
  | 6 => some .accessDenied
  | 7 => some .indeterminate
  | 8 => some .addressInvalid
  | 9 => some .noRoute
  | 10 => some .cancelled
  | _ => none

/-- OK and OK_RETRIED are successes (R509). -/
def Status.success : Status → Bool
  | .ok => true
  | .okRetried => true
  | _ => false

/-! ## Core instructions (R159) -/

/-- The fields of a format-A instruction that its opcode leaves free: D, A, B, the reserved bits [35:32] and IMM. -/
structure FmtA where
  d : Fin 32
  a : Fin 32
  b : Fin 32
  rsv : BitVec 4
  imm : BitVec 32
  deriving DecidableEq, Repr

/-- Format T. -/
structure FmtT where
  eng : Fin 4
  bank : Fin 2
  acc : Bool
  drn : Bool
  rsv1 : BitVec 3
  desc : Fin 32
  aofs : Fin 32
  bofs : Fin 32
  oofs : Fin 32
  cbSlot : Fin 64
  grpOfs : Fin 2048
  rsv2 : BitVec 13
  deriving DecidableEq, Repr

/-- Format C. -/
structure FmtC where
  emask : Fin 16
  slot : Fin 64
  a : Fin 32
  rsv : BitVec 11
  imm : BitVec 32
  deriving DecidableEq, Repr

/-- Format V, without OP and FN. -/
structure FmtV where
  vd : Fin 32
  va : Fin 32
  vb : Fin 32
  vc : Fin 32
  fmt : Fin 32
  rnd : Fin 2
  sat : Bool
  s : Fin 32
  imm : BitVec 20
  deriving DecidableEq, Repr

/-- Format M. -/
structure FmtM where
  arrEn : Bool
  cmpEn : Bool
  rsv : BitVec 3
  a : Fin 32
  b : Fin 32
  c : Fin 32
  pkt : Fin 16
  dg : Bool
  sg : Bool
  arrive : Fin 65536
  complete : Fin 65536
  deriving DecidableEq, Repr

/-- What the error-correcting code finds in the words that an access reads (R191, R225, R226, R230): nothing; an error in the
cells that it corrects; in DRAM, an error of one lane that it corrects; an error that it cannot correct, after the retry of R232;
or, in DRAM, one that shows the whole bank failed. -/
inductive Ecc where
  | clean
  | corrected
  | lane (v : Fin 18)
  | uncorrectable
  | bank
  deriving DecidableEq, Repr

/-- What the code finds, with the place: a byte of the scratchpad for a tile, else of the data that the access reads. -/
structure EccAt where
  ecc : Ecc
  place : Fin (2 ^ 28)
  deriving DecidableEq, Repr

/-- The fields of an instruction's word, and what the code finds in the memory that the instruction reads for it (R191). -/
structure Met (α ε : Type) where
  word : α
  found : ε
  deriving DecidableEq, Repr

/-- The end of a repair copy: its stack, and what the code found in the burst at stack offset 64 × `burst` (R226, R237). -/
structure EvacEnd where
  stack : Fin 8
  burst : Nat
  ecc : Ecc
  deriving DecidableEq, Repr

/-! ## Packets (R291 to R297) -/

/-- A packet: its class, operation and header fields, and its payload bytes. The `ctr` of a control packet and the
`arrive` of a data packet lie in one field here; `badClass` is a CLASS of 0b00 or 0b11 and `resv` a reserved header bit
that is not 0, which R298 makes malformed. -/
structure Pkt where
  data : Bool
  op : Nat
  len : Nat
  epoch : Nat
  hop : Nat
  status : Nat
  srcSite : Nat
  srcNode : Nat
  mgrp : Nat
  arrEn : Bool
  cmpReq : Bool
  dst : Nat
  tag : Nat
  seq : Nat
  ctr : Nat
  complete : Nat
  badClass : Bool
  resv : Bool
  payload : List Byte
  deriving DecidableEq, Repr

/-- A circuit: lane and wavelength (R251). -/
structure Circuit where
  lane : Fin 64
  lambda : Fin 64
  deriving DecidableEq, Repr

/-- How a packet reaches a packet engine: over a circuit of the Canvas from a site, with the Veryen port it entered the
module by, if any; or through the Veryen port of the engine's own site on a wavelength (R300, R304). -/
inductive Via where
  | canvas (src : Fin 16) (circ : Circuit) (ingress : Option (Fin 16))
  | veryen (lambda : Fin 18)
  deriving DecidableEq, Repr

/-- A packet that arrives: the engine's site, the way, whether one symbol had to be corrected (R255), what the ECC finds
where the packet reads memory, and the packet. -/
structure Arrival where
  site : Fin 16
  via : Via
  fec : Bool
  ecc : Ecc
  pkt : Pkt
  deriving DecidableEq, Repr

/-- A link (R300): an ordered pair of sites, or a Veryen port. -/
inductive Link where
  | canvas (src dst : Fin 16)
  | veryen (port : Fin 16)
  deriving DecidableEq, Repr

/-- What a request timeout falls due for (R212, R348): a request's tag slot at a site, or the accesses that wait for a
line of a cluster's cache. -/
inductive Due where
  | tag (site : Fin 16) (slot : Fin 4096)
  | fill (cluster : Fin 32) (line : Nat)
  deriving DecidableEq, Repr

/-- What a calibration slot measures of one item (R464, R466): the taps of its two passes, and the item's temperature in
m°C, signed. A ring has 19 taps (three heater codes, the swing in thousandths, three levels in thousandths of the eye,
twelve crosstalk bytes), a port wavelength 12, a memory lane 3; a sensor has 2 (offset, gain), in units of 0.01 °C and of
0.01 % (log entry 58, DEDUCED). -/
structure Measured where
  p1 : List (BitVec 20)
  p2 : List (BitVec 20)
  temp : BitVec 20
  deriving DecidableEq, Repr

end Sys2Proof
end

