-- ==== Sys2Proof/Syntax.lean ====
section
/-! DEFINITION. Syntax.lean: the commands of the block, one constructor for each row of the opcode table, with the
row's operands. An operand is what the outside world, or the unit that acts, settles at the moment of the command; all
else a command needs is state. -/

namespace Sys2Proof

/-- The commands (opcode_table.json). -/
inductive Instr where
  /-- `REGISTER_WRITE` (R13). A write to a register that has no row of its own is stored, ignored, set or cleared
      according to its access type after the access checks. -/
  | registerWrite (req : Requester) (ofs : Fin (2 ^ 28)) (bytes : Fin 65) (poisoned : Bool) (v : BitVec 32)
  /-- `READ_LO_LATCH` (R14). A read of a _LO register returns bits [31:0] and latches bits [63:32] into _HI for
      that requester. -/
  | readLoLatch (req : Requester) (ofs : Fin (2 ^ 28)) (bytes : Fin 65)
  /-- `WRITE_HI_HOLD` (R15). A write to a _HI register stores its value in the requester's holding register for
      the pair. -/
  | writeHiHold (req : Requester) (ofs : Fin (2 ^ 28)) (v : BitVec 32)
  /-- `WRITE_LO_COMMIT` (R15). A write to a _LO register commits both halves of the pair in one step and empties
      the holding register. -/
  | writeLoCommit (req : Requester) (ofs : Fin (2 ^ 28)) (v : BitVec 32)
  /-- `CAPACITY_PUBLISH` (R46). At a tempo boundary the device publishes the capacity and site-summary changes
      collected during the tempo and advances GEN. -/
  | capacityPublish
  /-- `ROLE_WRITE` (R50). A write that changes TMP_CTRL.ROLE or FRAMED is refused while any sequencer is active,
      and is otherwise scheduled for the next boundary. -/
  | roleWrite (req : Requester) (v : BitVec 32)
  /-- `ROLE_APPLY` (R50). At the next tempo boundary the new role takes effect, and the device acquires the Tempo
      in that role while it keeps counting. -/
  | roleApply
  /-- `TEMPO_BOUNDARY` (R57). At each tempo boundary the count advances by 1, the beat restarts, and the frame bit
      of that tempo is sent. -/
  | tempoBoundary (mark : Option Bool)
  /-- `TEMPO_MARK` (R52). In the SOURCED role a received mark sets the tempo boundary and carries one frame bit.
      -/
  | tempoMark (bit : Bool)
  /-- `FRAME_RECEIVED` (R55). A decoded tempo frame is checked for its CRC, acquires or drops frame lock, and may
      replace the local count. -/
  | frameReceived
  /-- `REFERENCE_LOCK` (R63). The Canvas loops complete their lock on the reference in the chosen role, and the
      device reaches LOCKED or LOCAL. -/
  | referenceLock
  /-- `TEMPO_LOST` (R67). A reference out of range, missing edges or three missed marks declare the Tempo lost,
      and the device enters holdover. -/
  | tempoLost (marks : Bool)
  /-- `HOLDOVER_LIMIT` (R69). When TMP_HOLD_ELAPSED reaches TMP_HOLD_LIMIT, the device enters SUSPENDED and every
      sequencer stops issuing. -/
  | holdoverLimit
  /-- `SUSPEND_FOLLOW` (R70). A repeating module whose received frames carry SUSPEND suspends its own sequencers
      within one frame. -/
  | suspendFollow
  /-- `TEMPO_RETURN` (R71). When the input returns the device reacquires it and either slews back to it or adopts
      the received count with COUNT_JUMP. -/
  | tempoReturn (phase : Int) (beat : Fin 100)
  /-- `HOLDOVER_EXIT` (R71). When the slewed phase error falls below 100 ps, the device leaves holdover and raises
      HOLDOVER_EXIT. -/
  | holdoverExit (phase : Int)
  /-- `APPLY_EPOCH` (R58). A write of TMP_CTRL.APPLY_EPOCH is refused or accepted for application at the next
      frame start. -/
  | applyEpoch (req : Requester) (v : BitVec 32)
  /-- `EPOCH_APPLY` (R58). At the frame start the accepted count is checked again, applied and sent with
      EPOCH_NEW. -/
  | epochApply
  /-- `COUNT_LO_READ` (R60). A read of TMP_COUNT_LO samples the count, the beat and the core clock, and latches
      the upper half, the beat and the clock for the requester. -/
  | countLoRead (req : Requester)
  /-- `LOOP_HEAD` (R76). A loop head passes: an ARMED sequencer enters RUNNING, and MOV_ITER advances. -/
  | loopHead (site : Fin 16)
  /-- `WAKE_BOOKING` (R74). At the boundary that begins an entry's tempo, the sequencer places the governor
      request of each WAKE_CORE entry. -/
  | wakeBooking (site : Fin 16)
  /-- `MOVE_NOP` (R73). A NOP move entry issues with no action. -/
  | moveNop (site : Fin 16)
  /-- `MOVE_GRANT` (R260). A GRANT move entry issues a pinned grant, claiming the lane-table entry and rings or
      being refused. -/
  | moveGrant (site : Fin 16)
  /-- `MOVE_RELEASE` (R265). A RELEASE move entry issues a release of a circuit at its named boundary. -/
  | moveRelease (site : Fin 16)
  /-- `MOVE_COPY_START` (R341). A COPY_START move entry starts the descriptor of the site's copy table. -/
  | moveCopyStart (site : Fin 16)
  /-- `MOVE_WAKE_CORE` (R139). A WAKE_CORE move entry wakes cores in MOVE_WAIT or sets their wake-pending bit. -/
  | moveWakeCore (site : Fin 16)
  /-- `MOVE_SYNC_ADD` (R73). A SYNC_ADD move entry adds its operand to a sync object. -/
  | moveSyncAdd (site : Fin 16)
  /-- `MOVE_SYNC_SET` (R73). A SYNC_SET move entry sets a sync object to its operand. -/
  | moveSyncSet (site : Fin 16)
  /-- `MOVE_CAL_WINDOW` (R465). A CAL_WINDOW move entry opens a calibration window at its site. -/
  | moveCalWindow (site : Fin 16)
  /-- `MOVE_HALT` (R73). A HALT move entry issues, abandons the rest of the iteration, and takes the sequencer to
      STOPPED. -/
  | moveHalt (site : Fin 16)
  /-- `DEADLINE` (R80). A wait still unmet at its deadline raises DEADLINE and takes the sequencer to STALLED. -/
  | deadline (site : Fin 16)
  /-- `MOV_OVERRUN` (R81). A loop head that passes with entries of the previous iteration unissued raises OVERRUN.
      -/
  | movOverrun (site : Fin 16)
  /-- `ENTRY_ECC_ERROR` (R81). An entry read for issue with an uncorrectable ECC error stalls the sequencer with
      ERR 8 and LIST_INVALID. -/
  | entryEccError (site : Fin 16)
  /-- `MOV_FORCE` (R80). A write of MOV_CTRL.FORCE issues the stalled entry without its wait, unless the rule says
      it is ignored. -/
  | movForce (req : Requester) (site : Fin 16) (v : BitVec 32)
  /-- `START` (R82). A write of MOV_CTRL.START is refused or latches the list settings and enters CHECKING. -/
  | start (req : Requester) (site : Fin 16) (v : BitVec 32)
  /-- `LIST_CHECK_DONE` (R75). The start check ends: the sequencer enters ARMED, or returns to its prior state
      with the first breach recorded. -/
  | listCheckDone (site : Fin 16) (ue : Option (Fin 4096))
  /-- `STOP` (R84). A write of MOV_CTRL.STOP ends a check at once or schedules the stop for the next beat
      boundary. -/
  | stop (req : Requester) (site : Fin 16) (v : BitVec 32)
  /-- `STOP_APPLY` (R84). At the next beat boundary the remaining entries are abandoned, and the sequencer enters
      STOPPED. -/
  | stopApply (site : Fin 16)
  /-- `SWAP_ARM` (R85). A write of 1 to SWAP_ARM starts the check of the other list while the old list runs. -/
  | swapArm (req : Requester) (site : Fin 16) (v : BitVec 32)
  /-- `SWAP_DISARM` (R85). A write of 0 to SWAP_ARM while a swap is armed disarms it and ends its subscriptions.
      -/
  | swapDisarm (req : Requester) (site : Fin 16) (v : BitVec 32)
  /-- `SWAP_CHECK_DONE` (R85). The swap check ends: the swap stays armed, or SWAP_ARM clears with LIST_INVALID. -/
  | swapCheckDone (site : Fin 16) (ue : Option (Fin 4096))
  /-- `SWAP` (R85). At the first qualifying loop head with the old iteration complete, the new list runs from
      entry 0. -/
  | swap (site : Fin 16)
  /-- `MOVE_LOAD_DATA` (R86). A write of MOV_LOAD_DATA stores the next word of an entry by indirect load, or is
      refused with LOAD_CONFLICT. -/
  | moveLoadData (req : Requester) (site : Fin 16) (v : BitVec 32)
  /-- `COPY_LOAD_GO` (R86). A write of MOV_DMA_CTRL.GO starts a copy load of entries into move memory, or fails it
      at once. -/
  | copyLoadGo (req : Requester) (site : Fin 16) (v : BitVec 32)
  /-- `COPY_LOAD_COMPLETE` (R86). A copy load completes when every entry is written, or fails on timeout or a
      failure answer. -/
  | copyLoadComplete (site : Fin 16) (ecc : Ecc) (place : Fin (2 ^ 18))
  /-- `CODEBOOK_SLOT_WRITE` (R129). After prior tiles naming the slot pass decode, the decoder writes the codebook
      record and checks FORMAT and CHECK. -/
  | codebookSlotWrite (c : Fin 1280) (e : Ecc)
  /-- `PWR_REQ_ON` (R138). A write of COR_CTRL.PWR_REQ = ON requests power-up through the governor. -/
  | pwrReqOn (req : Requester) (c : Fin 1280) (v : BitVec 32)
  /-- `PWR_REQ_RETAIN` (R138). A write of COR_CTRL.PWR_REQ = RETAIN takes a halted core to RETAINED. -/
  | pwrReqRetain (req : Requester) (c : Fin 1280) (v : BitVec 32)
  /-- `PWR_REQ_OFF` (R138). A write of COR_CTRL.PWR_REQ = OFF power-gates the core. -/
  | pwrReqOff (req : Requester) (c : Fin 1280) (v : BitVec 32)
  /-- `CORE_TRANSITION_DONE` (R138). A core power transition completes after its time, and the core reaches its
      new state. -/
  | coreTransitionDone (c : Fin 1280)
  /-- `RUN` (R138). A write of COR_CTRL.RUN starts a HALTED core at COR_ENTRY. -/
  | run (req : Requester) (c : Fin 1280) (v : BitVec 32)
  /-- `COR_HALT` (R138). A write of COR_CTRL.HALT stops dispatch, cancels a pending SWAIT, and lets the queues run
      empty. -/
  | corHalt (req : Requester) (c : Fin 1280) (v : BitVec 32)
  /-- `CLR_FAULT` (R138). A write of COR_CTRL.CLR_FAULT takes a FAULTED core to HALTED. -/
  | clrFault (req : Requester) (c : Fin 1280) (v : BitVec 32)
  /-- `CORE_RESET` (R417). A write of COR_CTRL.RESET resets the core's dispatch, queues, registers and codebook
      slots after its items drain. -/
  | coreReset (req : Requester) (c : Fin 1280) (v : BitVec 32)
  /-- `CORE_HALTED` (R168). After dispatch stops, the core enters HALTED once its unit queues have run empty. -/
  | coreHalted (c : Fin 1280)
  /-- `FLIT_CRC_FAIL` (R147). A flit that fails its CRC is replayed up to 4 times, and after that the link is
      marked failed. -/
  | flitCrcFail (d : Fin 8) (g : Fin 3) (link : Fin 32) (ok : Bool) (tag : Fin 65536)
  /-- `RATIO_DECREASE` (R454). A thermal, governor or firmware decision lowers a die's clock ratio within 2 µs. -/
  | ratioDecrease (d : Fin 8)
  /-- `SPARE_SUBSTITUTION` (R414). At the first boundary at which the spare is HALTED and nothing of the failed
      core is in flight, the spare takes the logical ID. -/
  | spareSubstitution (c : Fin 1280) (ok : Bool)
  /-- `NOP` (R162). The NOP instruction does nothing. -/
  | nop (c : Fin 1280) (fn : Fin 128) (f : FmtA)
  /-- `ALU_ADD` (R163). ALU ADD writes sA + (sB + IMM). -/
  | aluAdd (c : Fin 1280) (f : FmtA)
  /-- `ALU_SUB` (R163). ALU SUB writes sA minus the second operand. -/
  | aluSub (c : Fin 1280) (f : FmtA)
  /-- `ALU_AND` (R163). ALU AND writes the bitwise AND. -/
  | aluAnd (c : Fin 1280) (f : FmtA)
  /-- `ALU_OR` (R163). ALU OR writes the bitwise OR. -/
  | aluOr (c : Fin 1280) (f : FmtA)
  /-- `ALU_XOR` (R163). ALU XOR writes the bitwise XOR. -/
  | aluXor (c : Fin 1280) (f : FmtA)
  /-- `ALU_SHL` (R163). ALU SHL shifts left by bits [5:0] of the second operand. -/
  | aluShl (c : Fin 1280) (f : FmtA)
  /-- `ALU_SHR` (R163). ALU SHR shifts right logically. -/
  | aluShr (c : Fin 1280) (f : FmtA)
  /-- `ALU_SRA` (R163). ALU SRA shifts right arithmetically. -/
  | aluSra (c : Fin 1280) (f : FmtA)
  /-- `ALU_SLT` (R163). ALU SLT writes 1 if less, signed. -/
  | aluSlt (c : Fin 1280) (f : FmtA)
  /-- `ALU_SLTU` (R163). ALU SLTU writes 1 if less, unsigned. -/
  | aluSltu (c : Fin 1280) (f : FmtA)
  /-- `ALU_MIN` (R163). ALU MIN writes the signed minimum. -/
  | aluMin (c : Fin 1280) (f : FmtA)
  /-- `ALU_MAX` (R163). ALU MAX writes the signed maximum. -/
  | aluMax (c : Fin 1280) (f : FmtA)
  /-- `ALU_MINU` (R163). ALU MINU writes the unsigned minimum. -/
  | aluMinu (c : Fin 1280) (f : FmtA)
  /-- `ALU_MAXU` (R163). ALU MAXU writes the unsigned maximum. -/
  | aluMaxu (c : Fin 1280) (f : FmtA)
  /-- `ALU_MUL` (R163). ALU MUL writes the low 64 bits of the product. -/
  | aluMul (c : Fin 1280) (f : FmtA)
  /-- `ALU_MULH` (R163). ALU MULH writes the high 64 bits of the signed product. -/
  | aluMulh (c : Fin 1280) (f : FmtA)
  /-- `ALU_MULHU` (R163). ALU MULHU writes the high 64 bits of the unsigned product. -/
  | aluMulhu (c : Fin 1280) (f : FmtA)
  /-- `MOVI` (R164). MOVI writes the sign-extended immediate. -/
  | movi (c : Fin 1280) (fn : Fin 128) (f : FmtA)
  /-- `MOVHI` (R164). MOVHI writes the low half of sA with IMM in the upper half. -/
  | movhi (c : Fin 1280) (fn : Fin 128) (f : FmtA)
  /-- `BR_EQ` (R165). BR EQ branches if sA equals sB. -/
  | brEq (c : Fin 1280) (f : FmtA)
  /-- `BR_NE` (R165). BR NE branches if sA differs from sB. -/
  | brNe (c : Fin 1280) (f : FmtA)
  /-- `BR_LT` (R165). BR LT branches if sA is less, signed. -/
  | brLt (c : Fin 1280) (f : FmtA)
  /-- `BR_GE` (R165). BR GE branches if sA is greater or equal, signed. -/
  | brGe (c : Fin 1280) (f : FmtA)
  /-- `BR_LTU` (R165). BR LTU branches if sA is less, unsigned. -/
  | brLtu (c : Fin 1280) (f : FmtA)
  /-- `BR_GEU` (R165). BR GEU branches if sA is greater or equal, unsigned. -/
  | brGeu (c : Fin 1280) (f : FmtA)
  /-- `JAL` (R165). JAL writes the return address and jumps relative to PC. -/
  | jal (c : Fin 1280) (fn : Fin 128) (f : FmtA)
  /-- `JR` (R165). JR writes the return address and jumps to sA + IMM, faulting MISALIGNED if unaligned. -/
  | jr (c : Fin 1280) (fn : Fin 128) (f : FmtA)
  /-- `CSR_READ` (R166). CSR READ writes the selected CSR to D. -/
  | csrRead (c : Fin 1280) (f : FmtA)
  /-- `CSR_WRITE` (R166). CSR WRITE stores sB into a writable CSR, or faults. -/
  | csrWrite (c : Fin 1280) (f : FmtA)
  /-- `CSR_CLEAR` (R166). CSR CLEAR returns the CSR and clears the bits set in sB. -/
  | csrClear (c : Fin 1280) (f : FmtA)
  /-- `HALT` (R168). The HALT instruction stops dispatch, cancels a pending SWAIT, and lets the core enter HALTED.
      -/
  | halt (c : Fin 1280) (fn : Fin 128) (f : FmtA)
  /-- `TRAP` (R168). TRAP faults at dispatch with SOFT_TRAP and records IMM [5:0] in DETAIL. -/
  | trap (c : Fin 1280) (fn : Fin 128) (f : FmtA)
  /-- `TMMA` (R172). TMMA runs one tile on an engine into a bank after the refusal checks of R173. -/
  | tmma (c : Fin 1280) (f : FmtT) (residue : Option (Fin 17)) (found : EccAt)
  /-- `TDRAIN` (R174). TDRAIN drains an accumulator bank to scratchpad under the descriptor's output fields. -/
  | tdrain (c : Fin 1280) (f : FmtT)
  /-- `TCBLD` (R175). TCBLD loads a codebook record into a slot of every engine in EMASK. -/
  | tcbld (c : Fin 1280) (f : FmtC)
  /-- `TILE_COMPLETE` (R176). A tile instruction retires when its last accumulation or drain is written. -/
  | tileComplete (c : Fin 1280) (e : Fin 4)
  /-- `VLD` (R177). VLD reads 64 elements, widens them to FP32 and writes them to VD. -/
  | vld (c : Fin 1280) (fn : Fin 64) (f : FmtV) (e : Ecc)
  /-- `VST` (R177). VST converts 64 lanes to FMT and writes them, with scales for block formats. -/
  | vst (c : Fin 1280) (fn : Fin 64) (f : Met FmtV Ecc)
  /-- `VADD` (R178). VARITH ADD adds VA and VB lane-wise. -/
  | vadd (c : Fin 1280) (f : FmtV)
  /-- `VSUB` (R178). VARITH SUB subtracts VB from VA. -/
  | vsub (c : Fin 1280) (f : FmtV)
  /-- `VMUL` (R178). VARITH MUL multiplies lane-wise. -/
  | vmul (c : Fin 1280) (f : FmtV)
  /-- `VFMA` (R178). VARITH FMA computes VA × VB + VC with one rounding. -/
  | vfma (c : Fin 1280) (f : FmtV)
  /-- `VMIN` (R178). VARITH MIN takes the lane-wise minimum. -/
  | vmin (c : Fin 1280) (f : FmtV)
  /-- `VMAX` (R178). VARITH MAX takes the lane-wise maximum. -/
  | vmax (c : Fin 1280) (f : FmtV)
  /-- `VABS` (R178). VARITH ABS takes the absolute value of VA. -/
  | vabs (c : Fin 1280) (f : FmtV)
  /-- `VNEG` (R178). VARITH NEG negates VA. -/
  | vneg (c : Fin 1280) (f : FmtV)
  /-- `VADDS` (R178). VARITH ADDS adds an FP32 scalar to every lane. -/
  | vadds (c : Fin 1280) (f : FmtV)
  /-- `VMULS` (R178). VARITH MULS multiplies every lane by an FP32 scalar. -/
  | vmuls (c : Fin 1280) (f : FmtV)
  /-- `VDIV` (R178). VFUNC DIV divides VA by VB. -/
  | vdiv (c : Fin 1280) (f : FmtV)
  /-- `VSQRT` (R178). VFUNC SQRT takes the square root of VA. -/
  | vsqrt (c : Fin 1280) (f : FmtV)
  /-- `VRCP` (R178). VFUNC RCP takes the reciprocal of VA. -/
  | vrcp (c : Fin 1280) (f : FmtV)
  /-- `VRSQRT` (R178). VFUNC RSQRT takes the reciprocal square root of VA. -/
  | vrsqrt (c : Fin 1280) (f : FmtV)
  /-- `VEXP2` (R178). VFUNC EXP2 computes 2 to the power of VA. -/
  | vexp2 (c : Fin 1280) (f : FmtV)
  /-- `VLOG2` (R178). VFUNC LOG2 computes the base-2 logarithm of VA. -/
  | vlog2 (c : Fin 1280) (f : FmtV)
  /-- `VEXP` (R178). VFUNC EXP computes e to the power of VA. -/
  | vexp (c : Fin 1280) (f : FmtV)
  /-- `VLOG` (R178). VFUNC LOG computes the natural logarithm of VA. -/
  | vlog (c : Fin 1280) (f : FmtV)
  /-- `VTANH` (R178). VFUNC TANH computes tanh of VA. -/
  | vtanh (c : Fin 1280) (f : FmtV)
  /-- `VSIGMOID` (R178). VFUNC SIGMOID computes the sigmoid of VA. -/
  | vsigmoid (c : Fin 1280) (f : FmtV)
  /-- `VCMP_EQ` (R178). VCMP EQ writes a lane mask of VA = VB. -/
  | vcmpEq (c : Fin 1280) (f : FmtV)
  /-- `VCMP_LT` (R178). VCMP LT writes a lane mask of VA < VB. -/
  | vcmpLt (c : Fin 1280) (f : FmtV)
  /-- `VCMP_LE` (R178). VCMP LE writes a lane mask of VA ≤ VB. -/
  | vcmpLe (c : Fin 1280) (f : FmtV)
  /-- `VCMP_NE` (R178). VCMP NE writes a lane mask of VA ≠ VB. -/
  | vcmpNe (c : Fin 1280) (f : FmtV)
  /-- `VSEL` (R178). VSEL selects VA or VB per lane by the bits of sS. -/
  | vsel (c : Fin 1280) (fn : Fin 64) (f : FmtV)
  /-- `VRED_SUM` (R178). VRED SUM sums the lanes of VA by the fixed tree. -/
  | vredSum (c : Fin 1280) (f : FmtV)
  /-- `VRED_MAX` (R178). VRED MAX takes the maximum across the lanes. -/
  | vredMax (c : Fin 1280) (f : FmtV)
  /-- `VRED_MIN` (R178). VRED MIN takes the minimum across the lanes. -/
  | vredMin (c : Fin 1280) (f : FmtV)
  /-- `VBCAST` (R178). VBCAST writes sS [31:0] to every lane of VD. -/
  | vbcast (c : Fin 1280) (fn : Fin 64) (f : FmtV)
  /-- `VCVT` (R178). VCVT converts each lane to FMT and writes back the FP32 value of the result. -/
  | vcvt (c : Fin 1280) (fn : Fin 64) (f : FmtV)
  /-- `LD` (R179). LD loads a value from a local address into D. -/
  | ld (c : Fin 1280) (fn : Fin 128) (f : FmtA) (e : Ecc)
  /-- `ST` (R179). ST stores sB to a local address. -/
  | st (c : Fin 1280) (fn : Fin 128) (f : Met FmtA Ecc)
  /-- `DCOPY` (R180). DCOPY checks its operands and copies sC bytes in data-class packets, holding a DMA
      descriptor until completion. -/
  | dcopy (c : Fin 1280) (f : Met FmtM EccAt)
  /-- `GLD` (R182). GLD loads from a global address, through the line cache or as a LOAD packet. -/
  | gld (c : Fin 1280) (fn : Fin 128) (f : FmtA)
  /-- `GST` (R182). GST stores to a global address, through the line cache or as a STORE packet. -/
  | gst (c : Fin 1280) (fn : Fin 128) (f : FmtA)
  /-- `SADD` (R183). SYNC SADD adds sB to a sync object. -/
  | sadd (c : Fin 1280) (f : FmtA)
  /-- `SSET` (R183). SYNC SSET sets a sync object to sB. -/
  | sset (c : Fin 1280) (f : FmtA)
  /-- `SREAD` (R183). SYNC SREAD reads a sync object into D. -/
  | sread (c : Fin 1280) (f : FmtA)
  /-- `SWAIT` (R184). SWAIT begins a wait on a sync object and subscribes to a remote object. -/
  | swait (c : Fin 1280) (fn : Fin 128) (f : FmtA)
  /-- `SWAIT_COMPLETE` (R184). A pending SWAIT ends with OK when its condition is met, or with a site-state
      status. -/
  | swaitComplete (c : Fin 1280)
  /-- `SWAIT_TIMEOUT` (R184). A SWAIT ends with FAILED_TIMEOUT at its timeout boundary. -/
  | swaitTimeout (c : Fin 1280)
  /-- `SWAIT_POLL` (R346). A SWAIT without a shadow reads its object by SYNC_READ every 64 core clocks. -/
  | swaitPoll (c : Fin 1280)
  /-- `ATOM_ADD64` (R185). ATOM ADD64 adds 64-bit at a global address and returns the old value. -/
  | atomAdd64 (c : Fin 1280) (f : FmtA)
  /-- `ATOM_ADD32` (R185). ATOM ADD32 adds 32-bit and returns the old value. -/
  | atomAdd32 (c : Fin 1280) (f : FmtA)
  /-- `ATOM_FADD32` (R185). ATOM FADD32 adds FP32 under RNE. -/
  | atomFadd32 (c : Fin 1280) (f : FmtA)
  /-- `ATOM_SWAP64` (R185). ATOM SWAP64 exchanges 64 bits. -/
  | atomSwap64 (c : Fin 1280) (f : FmtA)
  /-- `ATOM_CAS64` (R185). ATOM CAS64 writes sB if memory equals sD. -/
  | atomCas64 (c : Fin 1280) (f : FmtA)
  /-- `ATOM_AND64` (R185). ATOM AND64 ANDs 64 bits. -/
  | atomAnd64 (c : Fin 1280) (f : FmtA)
  /-- `ATOM_OR64` (R185). ATOM OR64 ORs 64 bits. -/
  | atomOr64 (c : Fin 1280) (f : FmtA)
  /-- `ATOM_XOR64` (R185). ATOM XOR64 XORs 64 bits. -/
  | atomXor64 (c : Fin 1280) (f : FmtA)
  /-- `ATOM_MIN64` (R185). ATOM MIN64 takes the signed minimum. -/
  | atomMin64 (c : Fin 1280) (f : FmtA)
  /-- `ATOM_MAX64` (R185). ATOM MAX64 takes the signed maximum. -/
  | atomMax64 (c : Fin 1280) (f : FmtA)
  /-- `ATOM_MINU64` (R185). ATOM MINU64 takes the unsigned minimum. -/
  | atomMinu64 (c : Fin 1280) (f : FmtA)
  /-- `ATOM_MAXU64` (R185). ATOM MAXU64 takes the unsigned maximum. -/
  | atomMaxu64 (c : Fin 1280) (f : FmtA)
  /-- `FENCE` (R186). FENCE stops dispatch until the selected units have completed their earlier instructions. -/
  | fence (c : Fin 1280) (fn : Fin 128) (f : FmtA)
  /-- `FENCE_DONE` (R186). Dispatch resumes once every condition of a pending FENCE is met, after invalidating the
      instruction buffer if IBUF is set. -/
  | fenceDone (c : Fin 1280)
  /-- `MWAIT` (R187). MWAIT consumes the wake-pending bit or enters MOVE_WAIT. -/
  | mwait (c : Fin 1280) (fn : Fin 128) (f : FmtA)
  /-- `BANK_HANDOVER` (R197). A write of a bank _SET register with GO starts a handover in DRAINING, or is
      refused. -/
  | bankHandover (req : Requester) (cluster : Bool) (inst : Fin 1280) (n : Fin 32) (v : BitVec 32)
  /-- `HANDOVER_DONE` (R197). When the accepted accesses have drained, the new bank settings take effect and LAST
      reads DONE. -/
  | handoverDone (cluster : Bool) (inst : Fin 1280) (n : Fin 32)
  /-- `HANDOVER_FORCED` (R198). A drain still running at CLU_HO_TMO forces the handover, cancelling the remaining
      accesses. -/
  | handoverForced (cluster : Bool) (inst : Fin 1280) (n : Fin 32)
  /-- `BANK_SLEEP_DONE` (R201). A bank in SLEEPING reaches its RETAIN or OFF level. -/
  | bankSleepDone (cluster : Bool) (inst : Fin 1280) (n : Fin 32)
  /-- `BANK_WAKE_DONE` (R201). A bank in WAKING has woken after governor admission and returns to STABLE. -/
  | bankWakeDone (cluster : Bool) (inst : Fin 1280) (n : Fin 32)
  /-- `LC_APPLY` (R204). A write of CLU_LC_CTRL.APPLY starts a line-cache size change in CHANGING. -/
  | lcApply (req : Requester) (cl : Fin 32) (v : BitVec 32)
  /-- `LC_CHANGE_DONE` (R204). The line-cache resize completes after its handovers and writebacks, and the cache
      state returns to ON or OFF. -/
  | lcChangeDone (cl : Fin 32)
  /-- `WRITEBACK_RETRY` (R212). A writeback answered TARGET_RESETTING is retried after its retry-after time. -/
  | writebackRetry (cl : Fin 32) (line : Nat)
  /-- `STACK_RESET` (R241). A write of MST_CTRL.RESET starts the logic-layer reset in DRAIN. -/
  | stackReset (req : Requester) (k : Fin 8) (v : BitVec 32)
  /-- `STACK_WATCHDOG` (R241). A channel controller that stays unresponsive for 100 µs triggers a logic-layer
      reset. -/
  | stackWatchdog (k : Fin 8)
  /-- `STACK_DRAIN_LIMIT` (R242). At tempo 2 of the reset, unbegun requests complete with TARGET_RESETTING, and
      the stack quiesces into self-refresh. -/
  | stackDrainLimit (k : Fin 8)
  /-- `STACK_RESET_DONE` (R242). The reset sequence ends: the stack accepts requests again as READY or DEGRADED.
      -/
  | stackResetDone (k : Fin 8)
  /-- `SCRUB_READ` (R227). The logic layer reads a burst to scrub it, correcting it or reporting it. -/
  | scrubRead (k : Fin 8) (burst : Nat) (e : Ecc)
  /-- `REFRESH_COMMAND` (R229). A refresh command refreshes 8 rows of a bank, ahead of waiting requests once
      postponed 8 intervals. -/
  | refreshCommand (ch : Fin 1024) (bank : Fin 48)
  /-- `LANE_FAILURE` (R232). A failing via is replaced by a spare, or the channel goes to half width or out. -/
  | laneFailure (ch : Fin 1024) (via : Fin 20)
  /-- `LAYER_FAILURE` (R234). A failed layer is replaced by the spare layer, and a second failure takes the stack
      out of service. -/
  | layerFailure (k : Fin 8) (layer : Fin 12)
  /-- `EVAC_DONE` (R239). A repair copy completes, and the next queued copy of the stack starts. -/
  | evacDone (e : EvacEnd)
  /-- `FIRMWARE_GRANT` (R258). A write of PRT_GRANT_CTRL.GRANT issues a grant with PRT_GRANT_DESC. -/
  | firmwareGrant (req : Requester) (site : Fin 16) (v : BitVec 32)
  /-- `FIRMWARE_RELEASE` (R258). A write of PRT_GRANT_CTRL.RELEASE issues a release with PRT_GRANT_DESC. -/
  | firmwareRelease (req : Requester) (site : Fin 16) (v : BitVec 32)
  /-- `RING_LOCK` (R262). A claimed ring locks on its wavelength, and its end sends a stamped READY. -/
  | ringLock (lane : Fin 64) (l : Fin 64) (rx : Bool) (code : Fin 65536)
  /-- `CIRCUIT_EFFECT` (R263). At the effect boundary both couplers close, training words are sent, and packets
      may start. -/
  | circuitEffect (lane : Fin 64) (l : Fin 64)
  /-- `RELEASE_CUTOFF` (R265). From beat 89 of tempo E − 1 the packet engine starts no packet on a circuit being
      released. -/
  | releaseCutoff (lane : Fin 64) (l : Fin 64)
  /-- `RELEASE_EFFECT` (R265). At the release boundary the couplers open, the rings park, and the entry becomes
      FREE. -/
  | releaseEffect (lane : Fin 64) (l : Fin 64)
  /-- `TUNE_RESWEEP` (R267). A ring unlocked 5 µs after its claim is swept again from the cold side. -/
  | tuneResweep (lane : Fin 64) (l : Fin 64) (rx : Bool)
  /-- `TUNE_FAIL` (R267). A ring still unlocked 8 µs after its resweep fails its grant with TUNE_FAIL. -/
  | tuneFail (lane : Fin 64) (l : Fin 64) (rx : Bool)
  /-- `TRAINING_WORD` (R256). A received Canvas training word is checked for its CHECK and identity, accepting the
      circuit or declaring a mislock. -/
  | trainingWord (lane : Fin 64) (l : Fin 64) (w : Fin (2 ^ 64))
  /-- `MISLOCK` (R276). A window breach or an identity mismatch opens the ring, holds it out, places a reserve
      circuit and starts a sweep. -/
  | mislock (lane : Fin 64) (l : Fin 64) (rx : Bool) (code : Fin 65536) (came : Bool) (word : Fin (2 ^ 64))
  /-- `SWEEP_LOCK` (R276). A held-out ring completes its cold-side sweep and locks, and its circuit returns. -/
  | sweepLock (lane : Fin 64) (l : Fin 64) (rx : Bool) (code : Fin 65536)
  /-- `CAL_STALE` (R275). A ring whose last calibration exceeds MAX_AGE becomes stale. -/
  | calStale (site : Fin 16) (rx : Bool) (n : Fin 256)
  /-- `HEAT_RATE` (R271). Once every tempo each site computes its heat rate from its heater code changes. -/
  | heatRate (site : Fin 16) (codes : List (Fin 512 × Fin 65536))
  /-- `LIGHT_LOSS` (R279). A lane group losing light declares its source FAILED and switches a standby source to
      it. -/
  | lightLoss (g : Fin 4)
  /-- `GROUP_RESUME` (R279). The group's rings have relocked on the standby source, and its circuits resume with
      training words. -/
  | groupResume (g : Fin 4)
  /-- `PLANNED_SWITCH_ARM` (R280). A write of LSR_CTRL.ARM arms a planned switch of a standby source. -/
  | plannedSwitchArm (req : Requester) (src : Fin 6) (v : BitVec 32)
  /-- `PLANNED_SWITCH` (R280). At LSR_SWITCH_AT the switch changes over, and the group relocks. -/
  | plannedSwitch (src : Fin 6)
  /-- `PACKET_START` (R300). A queued packet starts on the first idle circuit of its link once it holds credits,
      with exempt packets passing. -/
  | packetStart (l : Link)
  /-- `LOAD` (R297). A LOAD packet is performed at its destination and answered with COMP_DATA. -/
  | load (a : Arrival)
  /-- `STORE` (R297). A STORE packet writes its value and is answered with COMP. -/
  | store (a : Arrival)
  /-- `READ_REQ` (R297). A READ_REQ makes the source site send READ_DATA packets to the given destination. -/
  | readReq (a : Arrival)
  /-- `ATOMIC` (R334). An ATOMIC packet is performed once at its target, deduplicated, and answered with the old
      value. -/
  | atomic (a : Arrival)
  /-- `SYNC_ADD` (R344). A SYNC_ADD packet adds to a sync object at its holding site and is answered with COMP. -/
  | syncAdd (a : Arrival)
  /-- `SYNC_SET` (R297). A SYNC_SET packet sets a sync object and is answered with COMP. -/
  | syncSet (a : Arrival)
  /-- `SYNC_READ` (R297). A SYNC_READ packet reads a sync object and is answered with COMP_DATA. -/
  | syncRead (a : Arrival)
  /-- `PKT_FENCE` (R297). A FENCE packet is answered with COMP once every earlier request for its line has been
      performed. -/
  | pktFence (a : Arrival)
  /-- `COMP` (R297). A COMP answer completes its tagged request, or is discarded as late. -/
  | comp (a : Arrival)
  /-- `COMP_DATA` (R297). A COMP_DATA answer completes its tagged request with data. -/
  | compData (a : Arrival)
  /-- `CREDIT` (R302). A CREDIT packet returns cells to the sender's pool and acknowledges SEQ values. -/
  | credit (a : Arrival)
  /-- `CREDIT_RETURN` (R302). The receiver sends CREDIT once 64 cells have accumulated, or 16 beats after the
      first cell was freed. -/
  | creditReturn (l : Link)
  /-- `NAK` (R306). A NAK makes the sender replay the unacknowledged packets that it started on that circuit after
      the given SEQ. -/
  | nak (a : Arrival)
  /-- `PACKET_CRC_FAIL` (R306). A packet that fails its CRC is dropped, and the receiver sends NAK. -/
  | packetCrcFail (site : Fin 16) (v : Via)
  /-- `REPLAY_TIMEOUT` (R306). A packet not acknowledged within 2 µs or 10 µs is replayed, up to 8 times. -/
  | replayTimeout (l : Link)
  /-- `THROTTLE` (R319). A THROTTLE message sets or lifts a token-bucket meter on requests to one destination. -/
  | throttle (a : Arrival)
  /-- `THROTTLE_EXPIRE` (R319). A throttle that is not renewed lapses when its duration ends. -/
  | throttleExpire (site : Fin 16)
  /-- `NOTICE` (R363). A received NOTICE records a peer's reset tempo, or a withdrawal, in VLK_PEER_RESET. -/
  | notice (a : Arrival)
  /-- `GRANT_MSG` (R260). A grant message makes the other end claim a ring, or answer GRANT_REFUSE. -/
  | grantMsg (a : Arrival)
  /-- `GRANT_REFUSE` (R260). A GRANT_REFUSE makes the issuing end free its claims with NO_TX_RING or NO_RX_RING.
      -/
  | grantRefuse (a : Arrival)
  /-- `GRANT_READY` (R262). A GRANT_READY delivers the other end's lock stamp for computing the effect boundary.
      -/
  | grantReady (a : Arrival)
  /-- `RELEASE_MSG` (R297). A RELEASE_MSG tells the other end of a release. -/
  | releaseMsg (a : Arrival)
  /-- `GET_S` (R209). A GET_S at the home grants data in E or S, recalling an owner if needed. -/
  | getS (a : Arrival)
  /-- `GET_M` (R209). A GET_M at the home invalidates sharers or recalls the owner, then grants M. -/
  | getM (a : Arrival)
  /-- `PUT_E` (R209). A PUT_E makes the directory entry UNCACHED. -/
  | putE (a : Arrival)
  /-- `INVAL` (R210). An INVAL at a cache drops the line and acknowledges, resolving crossings. -/
  | inval (a : Arrival)
  /-- `RECALL_S` (R209). A RECALL_S demotes the owner to S and returns its data. -/
  | recallS (a : Arrival)
  /-- `RECALL_I` (R209). A RECALL_I takes the owner to I and returns its data. -/
  | recallI (a : Arrival)
  /-- `COH_ACK` (R210). A COH_ACK acknowledges an invalidation or a recall, or reports that the line has left. -/
  | cohAck (a : Arrival)
  /-- `GRANT_M` (R209). A GRANT_M grants M without data to the only sharer. -/
  | grantM (a : Arrival)
  /-- `WRITE` (R297). A WRITE packet writes its data, advances ARRIVE when enabled, and answers COMP if asked. -/
  | write (a : Arrival)
  /-- `READ_DATA` (R297). A READ_DATA packet writes data at its destination and answers COMP to the issuer. -/
  | readData (a : Arrival)
  /-- `ATOMIC_CAS` (R297). An ATOMIC_CAS packet compares and swaps 8 B and returns the old value. -/
  | atomicCas (a : Arrival)
  /-- `ACCUM_F32` (R297). An ACCUM_F32 packet adds FP32 values to memory at a stack under RNE. -/
  | accumF32 (a : Arrival)
  /-- `LINE_GRANT` (R209). A LINE_GRANT fills the requesting cache with the line in its granted state. -/
  | lineGrant (a : Arrival)
  /-- `LINE_PUT_M` (R209). A LINE_PUT_M writes a modified line back to DRAM. -/
  | linePutM (a : Arrival)
  /-- `LINE_RETURN` (R209). A LINE_RETURN delivers a recalled owner's line to the home. -/
  | lineReturn (a : Arrival)
  /-- `HOT_LINE_OPERATION` (R336). The home performs the next queued operation on a line, combining up to 16
      additive atomics. -/
  | hotLineOperation (key : Nat)
  /-- `RT_DATA_WRITE` (R311). A write of FAB_RT_DATA writes a routing entry into a FREE version, or raises
      RT_REFUSED. -/
  | rtDataWrite (req : Requester) (v : BitVec 32)
  /-- `RT_COPY_ACTIVE` (R311). A write of FAB_CTRL.COPY_ACTIVE copies ACTIVE into the FREE version, or is refused.
      -/
  | rtCopyActive (req : Requester) (v : BitVec 32)
  /-- `RT_COPY_DONE` (R311). The routing-table copy completes, and the target version is FREE again. -/
  | rtCopyDone
  /-- `EPOCH_ARM` (R312). A write of FAB_CTRL.EPOCH_ARM latches a switch tempo, or is refused. -/
  | epochArm (req : Requester) (v : BitVec 32)
  /-- `EPOCH_SWITCH` (R312). At beat 0 of the switch tempo every site injects under the other version. -/
  | epochSwitch
  /-- `VERSION_FREE` (R313). A DRAINING version whose count is 0 and whose hold has elapsed becomes FREE at a
      boundary. -/
  | versionFree
  /-- `CMAP_GATHER` (R316). At every 16th tempo each site freezes and pushes its congestion record to the fabric
      manager. -/
  | cmapGather
  /-- `MAP_COPY` (R318). The fabric manager writes the gathered map to host memory and increments FAB_CMAP_SEQ. -/
  | mapCopy
  /-- `FM_DEMAND_ACTION` (R319). The fabric manager acts on a map with on-demand grants, releases and throttles.
      -/
  | fmDemandAction
  /-- `MC_INVAL` (R320). A write of FAB_MC_INVAL drops cached copies of a multicast entry within 1 µs. -/
  | mcInval (req : Requester) (v : BitVec 32)
  /-- `MC_TARGET_RETRY` (R322). A blocked multicast target is tried again alone every WAIT beats. -/
  | mcTargetRetry (n : Nat) (t : Nat)
  /-- `MC_COMPLETE` (R324). When every target is written or failed, the engine answers once and writes the
      completion record. -/
  | mcComplete (n : Nat)
  /-- `NODE_WRITE` (R331). A write of FAB_NODE.NODE sets the node number and NODE_SET, unless a port is active. -/
  | nodeWrite (req : Requester) (v : BitVec 32)
  /-- `REQUEST_TIMEOUT` (R348). A request unanswered at its timeout completes with FAILED_TIMEOUT or
      INDETERMINATE. -/
  | requestTimeout (d : Due)
  /-- `REQUEST_RETRY` (R349). A remote control request or CAS is sent again with the same tag at each quarter of
      its timeout. -/
  | requestRetry (site : Fin 16) (slot : Fin 4096)
  /-- `COPY_COMPLETE` (R339). When every packet of a copy is answered or failed, COMPLETE advances once if CMP_EN
      is set. -/
  | copyComplete (id : Nat)
  /-- `COPY_TABLE_DATA` (R341). A write of PRT_CPY_DATA loads the next word of a copy descriptor. -/
  | copyTableData (req : Requester) (site : Fin 16) (v : BitVec 32)
  /-- `DEDUP_EXPIRE` (R351). A deduplication entry expires after FAB_DEDUP.TEMPOS. -/
  | dedupExpire (site : Fin 16)
  /-- `SHADOW_UPDATE` (R346). An update of a subscribed object is sent to each subscribed site and applied to its
      shadow, in stamp order across the seam. -/
  | shadowUpdate (site : Fin 16)
  /-- `SYN_ADD_WRITE` (R366). A write of SYN_ADD_LO adds the addend to the selected object as SYNC_ADD does. -/
  | synAddWrite (req : Requester) (page : Fin 128) (v : BitVec 32)
  /-- `PORT_ENABLE` (R355). A write of VLK_CTRL.EN takes the port to DETECT, when allowed, or to OFF. -/
  | portEnable (req : Requester) (n : Fin 16) (v : BitVec 32)
  /-- `PORT_DETECT` (R355). Every 1 ms in DETECT the port checks for light on at least 8 wavelengths. -/
  | portDetect (n : Fin 16) (light : Fin (2 ^ 18))
  /-- `PORT_TRAINING_WORD` (R354). A received port training word locks a wavelength's receiver on matching PORT
      and LAMBDA. -/
  | portTrainingWord (n : Fin 16) (lambda : Fin 18) (w : Fin (2 ^ 64))
  /-- `PORT_TRAIN_DONE` (R355). With at least 8 good wavelengths in each direction, the port enters DISCOVER. -/
  | portTrainDone (n : Fin 16) (far : Fin (2 ^ 18))
  /-- `PORT_TRAIN_TIMEOUT` (R355). A TRAIN that has not succeeded after 400 µs returns to DETECT. -/
  | portTrainTimeout (n : Fin 16)
  /-- `IDENT_FRAME` (R356). A received IDENT frame updates RXMAP and, after two valid frames in DISCOVER, takes
      the port to HELD or ACTIVE. -/
  | identFrame (n : Fin 16) (f : Fin (2 ^ 256))
  /-- `IDENT_SEND` (R354). An ACTIVE port sends IDENT every 10 µs. -/
  | identSend (n : Fin 16)
  /-- `PORT_ACCEPT` (R355). A write of VLK_CTRL.ACCEPT takes a HELD port to ACTIVE. -/
  | portAccept (req : Requester) (n : Fin 16) (v : BitVec 32)
  /-- `PORT_DOWN` (R355). A write of VLK_CTRL.DOWN takes the link through link failure. -/
  | portDown (req : Requester) (n : Fin 16) (v : BitVec 32)
  /-- `PORT_RETRAIN` (R355). A write of VLK_CTRL.RETRAIN takes the link through link failure, then DETECT. -/
  | portRetrain (req : Requester) (n : Fin 16) (v : BitVec 32)
  /-- `LINK_FAILURE` (R359). A port that loses light for 10 µs, or falls below MIN_LAMBDA, stops, reroutes or
      completes its packets, and goes to DETECT. -/
  | linkFailure (n : Fin 16) (dark : Bool)
  /-- `WAVELENGTH_FAILURE` (R357). A port wavelength that fails is cleared from RXMAP and replaced by a spare, or
      the direction runs one fewer. -/
  | wavelengthFailure (n : Fin 16) (w : Fin 18)
  /-- `RESET_NOTICE` (R363). A write of FAB_RST_CTRL.NOTICE sends NOTICE with N through every ACTIVE port and sets
      RESET_PEND. -/
  | resetNotice (req : Requester) (v : BitVec 32)
  /-- `RESET_CANCEL` (R363). A write of FAB_RST_CTRL.CANCEL sends NOTICE with N = 0. -/
  | resetCancel (req : Requester) (v : BitVec 32)
  /-- `NOTICE_REPEAT` (R363). The announcing module repeats NOTICE every 100 tempos. -/
  | noticeRepeat
  /-- `PORTS_DRAIN` (R363). At tempo N the ports enter DRAINING, and queued forwarding is answered
      TARGET_RESETTING. -/
  | portsDrain
  /-- `PORTS_DARK` (R363). At N + 20 the ports go dark, the ERR block resets, and the module reset proceeds. -/
  | portsDark
  /-- `SAMPLER_ARM` (R370). A write of SMP_CTRL.ARM makes the lead compare the set's settings and arm it, or
      refuse. -/
  | samplerArm (req : Requester) (d : Fin 8) (v : BitVec 32)
  /-- `SAMPLER_DISARM` (R396). A write of SMP_CTRL.DISARM returns the sampler to IDLE after the current run. -/
  | samplerDisarm (req : Requester) (d : Fin 8) (v : BitVec 32)
  /-- `SAMPLER_ABORT` (R379). A write of SMP_CTRL.ABORT ends a run in progress with CANCELLED. -/
  | samplerAbort (req : Requester) (d : Fin 8) (v : BitVec 32)
  /-- `SAMPLER_RUN_START` (R372). When the start object reaches STRIDE × (n + 1) the set starts a run of penalty,
      selection, merge, softmax, top-p and draw. -/
  | samplerRunStart (lead : Fin 8)
  /-- `SAMPLER_RUN_DONE` (R376). At the end of a run the lead writes the result record, the history is updated,
      and the members add to DONE. -/
  | samplerRunDone (lead : Fin 8)
  /-- `SCAN_BLOCK_READ` (R394). In SCAN mode the sampler reads the next score block when the counter allows, and
      then adds to SMP_EXT_SYNC. -/
  | scanBlockRead (d : Fin 8)
  /-- `SCAN_DONE` (R395). After SMP_SCAN_TOTAL scores the set merges its lists, writes the top-k, and adds to
      DONE. -/
  | scanDone (lead : Fin 8)
  /-- `GMB_ENABLE` (R383). A write of GMB_CTXc_CTRL.EN enables a context, or is refused for an overlapping layout.
      -/
  | gmbEnable (req : Requester) (c : Fin 8) (v : BitVec 32)
  /-- `ROUND_START` (R383). When the context's start object is reached, the gambit unit reads the descriptor and
      starts a VERIFY round, or refuses it. -/
  | roundStart (c : Fin 8)
  /-- `ROUND_END` (R388). A round applies the acceptance rule, commits the key-value positions, writes its record
      and history, and adds to DONE. -/
  | roundEnd (c : Fin 8)
  /-- `GMB_ABORT` (R398). A write of GMB_CTXc_CTRL.ABORT ends the round with CANCELLED and commits nothing. -/
  | gmbAbort (req : Requester) (c : Fin 8) (v : BitVec 32)
  /-- `GMB_CLEAR` (R398). A write of GMB_CTXc_CTRL.CLEAR returns a FAILED context to IDLE. -/
  | gmbClear (req : Requester) (c : Fin 8) (v : BitVec 32)
  /-- `RESEED` (R380). A write of GMB_RNG_CTRL.RESEED reseeds the random source now. -/
  | reseed (req : Requester) (v : BitVec 32)
  /-- `AUTO_RESEED` (R380). The generator reseeds after every 2^20 generate requests, counting failures. -/
  | autoReseed (ok : Bool)
  /-- `ENTROPY_FAIL` (R382). A failed continuous health test raises ENTROPY_FAIL, and the generator continues
      without reseeding. -/
  | entropyFail
  /-- `POWER_ON_RESET` (R400). Power-on reset starts bring-up: the Arbiter starts, and the boot ROM verifies and
      boots an image and replays the fuses. -/
  | powerOnReset (days : Nat) (orderly : Bool)
  /-- `BRINGUP_STEP_DONE` (R400). A bring-up step completes, its capacity registers are filled, and dependent
      steps start. -/
  | bringupStepDone (step : Fin 6) (ms : Fin (2 ^ 20)) (found : List (Fin (2 ^ 56))) (fail : Fin 7) (r0 : Bool) (r1 : Bool)
  /-- `FUSE_ADD` (R410). A write of FUS_CTRL.ADD appends an entry to the field bank, or is refused. -/
  | fuseAdd (req : Requester) (v : BitVec 32)
  /-- `FUSE_BLOW_DONE` (R410). A fuse entry finishes blowing within 200 µs, and the next queued entry starts. -/
  | fuseBlowDone
  /-- `RETIRE` (R412). A write of MGT_RETIRE.GO fails the position that holds the logical ID. -/
  | retire (req : Requester) (v : BitVec 32)
  /-- `CLUSTER_RESET` (R417). MGT_RST_CTRL GO with LEVEL 0 resets a cluster's positions, switch, DMA unit and line
      cache, or is refused. -/
  | clusterReset (req : Requester) (v : BitVec 32)
  /-- `PARTITION_RESET` (R422). MGT_RST_CTRL GO with LEVEL 1 resets a partition: sites park, items are absorbed,
      sync objects clear, and stacks reset. -/
  | partitionReset (req : Requester) (v : BitVec 32)
  /-- `MODULE_RESET` (R423). MGT_RST_CTRL GO with LEVEL 2 resets the module at tempo N, or at the next boundary,
      and reruns bring-up from step 2. -/
  | moduleReset (req : Requester) (v : BitVec 32)
  /-- `PARTITION_RELEASE` (R418). A write of MGT_RST_CTRL.RELEASE ends the hold of a partition at the next
      boundary. -/
  | partitionRelease (req : Requester) (v : BitVec 32)
  /-- `RESET_DRAIN_LIMIT` (R419). At MGT_RST_DRAIN the items of a core or cluster reset still open are absorbed.
      -/
  | resetDrainLimit (cluster : Bool) (n : Fin 1280)
  /-- `PARTITION_RESET_DONE` (R422). At tempo 43, or at the end of the scrub, floor circuits resume, and the
      partition's pages read READY. -/
  | partitionResetDone (k : Fin 32)
  /-- `PART_MAP_WRITE` (R425). A write of MGT_PART_MAP is accepted for the next boundary when both partitions are
      held, or refused. -/
  | partMapWrite (req : Requester) (v : BitVec 32)
  /-- `PART_MAP_APPLY` (R425). At the next boundary the sites pass to their new partitions. -/
  | partMapApply
  /-- `ARBITER_REPORT` (R435). A MISMATCH, SELF_CHECK, CLOCK or SUPPLY report freezes the pair and leads to a
      decision. -/
  | arbiterReport (n : Fin 2) (mismatch : Bool) (a : Fin 4) (b : Fin 4)
  /-- `HEARTBEAT_WRITE` (R434). A write to ARB_HB by the named pair restarts its heartbeat period. -/
  | heartbeatWrite (n : Fin 2)
  /-- `HEARTBEAT_TIMEOUT` (R434). A pair that does not write its heartbeat within the period takes a management
      restart. -/
  | heartbeatTimeout (n : Fin 2)
  /-- `FORCE_PIN` (R437). At the rising edge of ARB_FORCE_N the pulse width selects a FORCE to both pairs, or
      nothing. -/
  | forcePin (ns : Nat)
  /-- `FORCE_PIN_RESTART` (R437). ARB_FORCE_N held low for 100 ms restarts both pairs. -/
  | forcePinRestart
  /-- `ARB_CASTLE` (R435). A write of ARB_CTRL.CASTLE is a FORCE on the selected pair. -/
  | arbCastle (req : Requester) (v : BitVec 32)
  /-- `ARB_RESTART` (R442). A write of ARB_CTRL.RESTART takes a management restart of the selected pair. -/
  | arbRestart (req : Requester) (v : BitVec 32)
  /-- `RESYNC_DONE` (R440). The join step completes, and the pair returns to PAIRED. -/
  | resyncDone (n : Fin 2)
  /-- `RESYNC_ATTEMPT_FAIL` (R441). A twin that fails self-test or is blamed restarts resynchronisation, or is
      retired, leaving the pair SOLO. -/
  | resyncAttemptFail (n : Fin 2)
  /-- `ATTEMPTS_RESET` (R441). After 24 hours in PAIRED, ATTEMPTS returns to 0. -/
  | attemptsReset (n : Fin 2)
  /-- `MANAGEMENT_RESTART` (R442). Both twins of a pair are frozen, reset and rebooted from the image in force. -/
  | managementRestart (n : Fin 2)
  /-- `RESTART_DONE` (R442). The restart completes, and the pair enters lockstep. -/
  | restartDone (n : Fin 2) (able : Bool) (r0 : Bool) (r1 : Bool)
  /-- `UPDATE_START` (R443). A write of ARB_UPD_CTRL.START starts a live update, or refuses it with REASON 7. -/
  | updateStart (req : Requester) (v : BitVec 32)
  /-- `UPDATE_READY` (R443). The standby's write of ARB_UPD_CTRL.READY moves the update to SHADOW. -/
  | updateReady
  /-- `UPDATE_CASTLE` (R443). At ARB_UPD_AT the Arbiter castles to the new image, or aborts if SHADOW was not
      reached. -/
  | updateCastle
  /-- `UPDATE_ABORT` (R444). A write of ARB_UPD_CTRL.ABORT aborts the update and resynchronises the standby. -/
  | updateAbort (req : Requester) (v : BitVec 32)
  /-- `UPDATE_TIMEOUT` (R444). ARB_UPD_TMO elapsed since START aborts the update. -/
  | updateTimeout
  /-- `JOURNAL_OVERFLOW` (R444). An overflow of the input journal aborts the update. -/
  | journalOverflow
  /-- `INPUT_RANGE` (R450). An input outside 36 V to 44 V stops admissions and raises INPUT_RANGE. -/
  | inputRange (mv : Fin 65536)
  /-- `MODULE_ESTOP` (R462). An input fault or a low coolant flow sheds load in steps and holds every partition.
      -/
  | moduleEstop (cause : Fin 5)
  /-- `ESTOP_GO` (R462). A write of PWR_ESTOP.GO starts a module emergency stop. -/
  | estopGo (req : Requester) (v : BitVec 32)
  /-- `GOVERNOR_ADMIT` (R452). At each boundary the governor admits requests from its queue while current and
      power allow. -/
  | governorAdmit (mv : Fin 65536) (ma : Fin (2 ^ 20)) (w : Fin 65536)
  /-- `CAP_REACHED` (R453). Input above PWR_CAP for two tempos lowers the hottest-drawing die one ratio step. -/
  | capReached (d : Fin 8)
  /-- `RATIO_REQUEST` (R454). A write of PWR_DIE_CLK requests a die ratio, decreasing at once or queueing an
      increase. -/
  | ratioRequest (req : Requester) (v : BitVec 32)
  /-- `HALF_RATIO_REQUEST` (R455). A write of PWR_HALF_CLK requests a Canvas half ratio. -/
  | halfRatioRequest (req : Requester) (v : BitVec 32)
  /-- `HOUSEKEEPING_ROUND` (R457). Every 2,000 tempos the management core reads 1,024 channels and applies limits,
      rates and restores. -/
  | housekeepingRound (late : Bool) (readings : List (Fin 1024 × Fin 5 × BitVec 16)) (lines : List (Fin 6 × Fin 64 × Fin 65536)) (powers : List (Fin 16 × Fin 18 × Fin 65536))
  /-- `THERMAL_FAST_CHECK` (R458). At every boundary each site's mean heat rate is compared with the thresholds,
      and the level is set. -/
  | thermalFastCheck
  /-- `STOP_DRAIN_LIMIT` (R460). At THM_STOP_DRAIN the remaining items are absorbed, the site is parked, and its
      die is stopped. -/
  | stopDrainLimit (site : Fin 16)
  /-- `STOP_CLEAR` (R463). A write of THM_STOP_CLR ends an orderly stop when cool, or raises STOP_CLR_REFUSED. -/
  | stopClear (req : Requester) (v : BitVec 32)
  /-- `CAL_WINDOW_OPEN` (R465). A standing calibration window opens at each tempo of its period and offset. -/
  | calWindowOpen
  /-- `CAL_SLOT_START` (R465). Inside a window the oldest items get slots, and their traffic moves to a spare
      channel. -/
  | calSlotStart (cls : Fin 4) (site : Fin 16) (item : Fin 4096)
  /-- `CAL_SLOT_DONE` (R466). A slot's two passes are accepted, accepted by plausibility, or refused. -/
  | calSlotDone (cls : Fin 4) (site : Fin 16) (item : Fin 4096) (near : Measured) (far : Measured)
  /-- `CAL_ITEM_STALE` (R468). An item whose last accepted result exceeds its age limit becomes stale. -/
  | calItemStale (cls : Fin 4) (site : Fin 16) (item : Fin 4096) (temp : BitVec 20)
  /-- `BAR2_ACCESS` (R478). A host access to a BAR2 window is injected as a LOAD, STORE or WRITE at the window's
      global address. -/
  | bar2Access (req : Requester) (x : Fin (2 ^ 28)) (bytes : Fin 65) (poisoned : Bool) (w : Option (Fin (2 ^ 512)))
  /-- `HOST_SCAN` (R483). At a scan instant the device reads a batch of submission entries from the head, or skips
      a scan still outstanding. -/
  | hostScan (p : Fin 8)
  /-- `SCAN_READ_DONE` (R483). When the scan read returns, the valid entries up to the first invalid one start in
      order. -/
  | scanReadDone (p : Fin 8) (entries : List (Fin (2 ^ 512)))
  /-- `SCAN_READ_TIMEOUT` (R483). A scan read failed or unreturned after 10 µs takes no entry. -/
  | scanReadTimeout (p : Fin 8) (failed : Bool)
  /-- `HOST_NOP` (R482). A NOP work item completes at once. -/
  | hostNop (p : Fin 8)
  /-- `HOST_SYNC_ADD` (R482). A SYNC_ADD work item adds to a sync object. -/
  | hostSyncAdd (p : Fin 8)
  /-- `HOST_SYNC_SET` (R482). A SYNC_SET work item sets a sync object. -/
  | hostSyncSet (p : Fin 8)
  /-- `HOST_COPY_START` (R482). A COPY_START work item starts a copy-table descriptor. -/
  | hostCopyStart (p : Fin 8)
  /-- `HOST_REG_WRITE` (R482). A REG_WRITE work item writes a register under the owning function's protection. -/
  | hostRegWrite (p : Fin 8)
  /-- `HOST_REG_READ` (R482). A REG_READ work item reads a register and returns it in DATA. -/
  | hostRegRead (p : Fin 8)
  /-- `HOST_FENCE` (R482). A FENCE work item completes when every earlier item has completed. -/
  | hostFence (p : Fin 8)
  /-- `CQ_HEAD_WRITE` (R484). A write of HST_CQ_HEAD frees ring space and releases held completions. -/
  | cqHeadWrite (req : Requester) (p : Fin 8) (v : BitVec 32)
  /-- `SQ_ENABLE` (R501). A write of HST_SQ_CFG.EN = 1 restarts the area at head 0 and phase 1, and discards held
      completions. -/
  | sqEnable (req : Requester) (p : Fin 8) (v : BitVec 32)
  /-- `MAILBOX_ENABLE` (R485). A write of HST_MBX_CFG.EN sets the mailbox base count. -/
  | mailboxEnable (req : Requester) (p : Fin 8) (v : BitVec 32)
  /-- `LINK_DOWN` (R501). The host link goes down, and every function-owned area enters PAUSED. -/
  | linkDown
  /-- `LINK_UP` (R501). The host link comes up, and areas stay PAUSED until re-enabled. -/
  | linkUp (width speed : Fin 16) (vfs : BitVec 8)
  /-- `FLR` (R502). A Function Level Reset clears the function's latches and disables its areas, resetting the
      partition if FLR_RESET is set. -/
  | flr (func : Fin 9)
  /-- `PERST` (R557). Assertion of PCIE_PERST_N takes the link down, and deassertion resets every function as an
      FLR without a partition reset. -/
  | perst (asserted : Bool)
  /-- `IMAGE_VERIFY` (R489). A write of SEC_IMG_CTRL.VERIFY starts the image checks on a slot. -/
  | imageVerify (req : Requester) (v : BitVec 32)
  /-- `IMAGE_VERIFY_DONE` (R489). The image check ends with VALID or a failure code. -/
  | imageVerifyDone (readOk : Bool)
  /-- `SVN_COMMIT` (R492). A write of SEC_IMG_CTRL.SVN_COMMIT by the PF raises the fused floor to the running SVN,
      or is refused. -/
  | svnCommit (req : Requester) (v : BitVec 32)
  /-- `PLDM_FW_UPDATE` (R491). A PLDM firmware update writes a new image into the slot not in force and verifies
      it. -/
  | pldmFwUpdate (sb : Bool) (header body : List (BitVec 8)) (readOk : Bool)
  /-- `DEBUG_UNLOCK` (R496). An SPDM vendor unlock record enables debug if its signature verifies, or draws a new
      nonce. -/
  | debugUnlock (sb : Bool) (record : Fin (2 ^ 1024))
  /-- `GET_VERSION` (R498). SPDM GET_VERSION is answered with the supported versions. -/
  | getVersion (sb : Bool)
  /-- `GET_CAPABILITIES` (R498). SPDM GET_CAPABILITIES is answered with the responder's capabilities. -/
  | getCapabilities (sb : Bool)
  /-- `NEGOTIATE_ALGORITHMS` (R498). SPDM NEGOTIATE_ALGORITHMS settles on ECDSA P-256 and SHA-256. -/
  | negotiateAlgorithms (sb ecdsa sha : Bool)
  /-- `GET_DIGESTS` (R498). SPDM GET_DIGESTS returns the certificate chain digests. -/
  | getDigests (sb : Bool)
  /-- `GET_CERTIFICATE` (R498). SPDM GET_CERTIFICATE returns the chain of slot 0. -/
  | getCertificate (sb : Bool) (slot : Fin 8) (ofs len : Fin 65536)
  /-- `CHALLENGE` (R498). SPDM CHALLENGE is answered signed with the alias key. -/
  | challenge (sb : Bool) (slot : Fin 8) (nonce : Fin (2 ^ 256))
  /-- `GET_MEASUREMENTS` (R499). SPDM GET_MEASUREMENTS returns the measurements in force at arrival, signed. -/
  | getMeasurements (sb : Bool) (index : Fin 256) (nonce : Fin (2 ^ 256))
  /-- `PLDM_BASE` (R500). A PLDM Type 0 base request is served on the sideband. -/
  | pldmBase (cmd : Fin 256)
  /-- `PLDM_PLATFORM` (R500). A PLDM Type 2 request reads sensors and page states. -/
  | pldmPlatform (state : Bool) (cls : Fin 32) (n : Fin 2048)
  /-- `SIDEBAND_REG_ACCESS` (R500). A vendor message of type 0x7E reads or writes register pages under the
      sideband masks. -/
  | sidebandRegAccess (ofs : Fin (2 ^ 28)) (w : Option (BitVec 32))
  /-- `EID_ASSIGN` (R500). The bus owner assigns the endpoint's MCTP EID. -/
  | eidAssign (eid : Fin 256)
  /-- `MSIX_SEND` (R516). A vector sends one message at the first allowed boundary after a new signalled event. -/
  | msixSend (func : Fin 9) (vec : Fin 32) (masked : Bool)
  /-- `LOG_WRITE` (R520). Every 4 management clocks the log writes one report from its intake queue into entry 0
      or the ring. -/
  | logWrite
  /-- `LOG_CLEAR` (R520). A write of ERR_CTRL.CLEAR empties the 256 entries and keeps waiting reports. -/
  | logClear (req : Requester) (v : BitVec 32)
  /-- `LOG_CLEAR_CNT` (R526). A write of ERR_CTRL.CLEAR_CNT zeroes the log counters. -/
  | logClearCnt (req : Requester) (v : BitVec 32)
  /-- `LOG_READ_LATCH` (R521). A write of ERR_RD_IDX latches the selected entry for the requester, zeroed for a VF
      outside its partition. -/
  | logReadLatch (req : Requester) (v : BitVec 32)
  /-- `ERR_FIND_SEARCH` (R526). A write of ERR_FIND searches for the lowest instance of the class at or above
      START that holds a signalled event. -/
  | errFindSearch (req : Requester) (v : BitVec 32)
  /-- `EVENT_FORCE` (R538). A write of 1 to PG_EVT_FORCE raises the event as its source would, and advances
      FORCED. -/
  | eventForce (req : Requester) (cls : Fin 32) (inst : Fin 2048) (v : BitVec 32)
  /-- `EVENT_FLAG_CLEAR` (R537). A W1C write of PG_EVT_FLAG clears flags, with a same-clock set winning. -/
  | eventFlagClear (req : Requester) (cls : Fin 32) (inst : Fin 2048) (v : BitVec 32)
  /-- `EVENT_MASK_WRITE` (R539). A write of PG_EVT_MASK signals a set flag that is unmasked, or withdraws one that
      is masked. -/
  | eventMaskWrite (req : Requester) (cls : Fin 32) (inst : Fin 2048) (v : BitVec 32)
  /-- `EVT_CNT_SEL_WRITE` (R539). A write of PG_EVT_CNT_SEL selects the counted bit and zeroes PG_EVT_CNT. -/
  | evtCntSelWrite (req : Requester) (cls : Fin 32) (inst : Fin 2048) (v : BitVec 32)
  /-- `SUM_CLEAR` (R535). A write of PG_CTRL.SUM_CLR zeroes VIOL, FORCED and REASON. -/
  | sumClear (req : Requester) (cls : Fin 32) (inst : Fin 2048) (v : BitVec 32)
  /-- `OWNER_WRITE` (R540). A write of PG_OWNER by the management core sets the owner, and one by any other
      requester is refused. -/
  | ownerWrite (req : Requester) (cls : Fin 32) (inst : Fin 2048) (v : BitVec 32)
  /-- `SEAL_WRITE` (R541). A write of PG_SEAL sets the RWS or OWNER seal until power-on reset. -/
  | sealWrite (req : Requester) (cls : Fin 32) (inst : Fin 2048) (v : BitVec 32)
  /-- `WIRE_FAILURE` (R547). A failed seam wire is replaced by the lowest free spare, or its link or line goes out
      of service. -/
  | wireFailure (w : Fin 2048) (errs : Fin 65536) (resent : Fin 65536) (test : Bool)
  /-- `SWEEP_TIMEOUT` (R277). A held-out ring whose cold-side sweep has not locked within the time of R272 is
      failed, and its circuit moves to another ring or stays on the reserve circuit. -/
  | sweepTimeout (lane : Fin 64) (l : Fin 64) (rx : Bool)
  /-- `PORT_LASER_FAILURE` (R355). A Veryen port whose own laser fails enters FAILED, which it leaves only by
      repair. -/
  | portLaserFailure (n : Fin 16)
  /-- `SITE_RAIL_FAILURE` (R416). A compute die or stack fails through its hub or supply: every item on it is
      absorbed, the site is FAILED, and its pages are served by the Canvas endpoint. -/
  | siteRailFailure (site : Fin 16)
  /-- `WAVEGUIDE_FAILURE` (R284). A lane fails in its waveguide or stitch: all its circuits fail, GRANTABLE and
      RESERVE fall, and its floor circuits are placed again on other lanes. -/
  | waveguideFailure (lane : Fin 64)
  /-- `SOURCE_WARMUP_DONE` (R289). A comb source in WARMING locks its lines to the grid and enters STANDBY,
      raising STANDBY_READY. -/
  | sourceWarmupDone (src : Fin 6)
  /-- `INPUT_BACK_IN_RANGE` (R450). The 40 V input returns into 36 V to 44 V, the governor resumes admissions, and
      PWR leaves DEGRADED. -/
  | inputBackInRange
  deriving DecidableEq, Repr

end Sys2Proof
end

