-- ==== Sys2Proof/Decode.lean ====
section
/-! DEFINITION. Decode.lean: the commands that words spell. No row of the opcode table gives bits: a command reaches the
block as an access, a packet, a pin or an event of a unit, and not as an encoded word, so no word spells one. -/

namespace Sys2Proof

/-- The command that a word spells by the table's bits: none of its rows has any. -/
def decodeTableWord (_nbits _w : Nat) : Option Instr := none

end Sys2Proof
end

