-- ==== Sys2Proof/Machine/Bits.lean ====
section
/-! DEFINITION. Machine/Bits.lean: bit fields of numbers, little-endian byte strings (R8), saturation and the check
codes of R569 and R296. -/

namespace Sys2Proof.Machine

/-- Bits `[hi:lo]` of a number (R8). -/
def bitsOf (v hi lo : Nat) : Nat := (v / 2 ^ lo) % 2 ^ (hi + 1 - lo)

/-- Bit `n` of a number, as 0 or 1. -/
def bitOf (v n : Nat) : Nat := (v / 2 ^ n) % 2

/-- Bit `n` of a number is 1. -/
def hasBit (v n : Nat) : Bool := (v / 2 ^ n) % 2 == 1

/-- The number with bit `n` set. -/
def setBit (v n : Nat) : Nat := v ||| 2 ^ n

/-- The number with bit `n` clear. -/
def clearBit (v n : Nat) : Nat := if hasBit v n then v - 2 ^ n else v

/-- A number placed at bits `[hi:lo]`. -/
def placeBits (v hi lo : Nat) : Nat := (v % 2 ^ (hi + 1 - lo)) * 2 ^ lo

/-- Addition that stops at `2 ^ w - 1` (the "saturating" counters of the manual). -/
def satAdd (w v k : Nat) : Nat := min (v + k) (2 ^ w - 1)

/-- The `n` little-endian bytes of a number (R8). -/
def bytesLE : Nat → Nat → List Byte
  | 0, _ => []
  | n + 1, v => BitVec.ofNat 8 v :: bytesLE n (v / 256)

/-- The number that little-endian bytes hold (R8). -/
def ofBytesLE : List Byte → Nat
  | [] => 0
  | b :: bs => b.toNat + 256 * ofBytesLE bs

/-- The `n` bits of a number, least significant first. -/
def bitsLSB : Nat → Nat → List Bool
  | 0, _ => []
  | n + 1, v => (v % 2 == 1) :: bitsLSB n (v / 2)

/-- One step of the shift register of R569. -/
def crcStep (w poly crc : Nat) (b : Bool) : Nat :=
  let top := xor (hasBit crc (w - 1)) b
  let c := (crc * 2) % 2 ^ w
  if top then c ^^^ poly else c

/-- The check code of R569: width, polynomial, initial value, input bits in order. -/
def crcBits (w poly init : Nat) (bs : List Bool) : Nat := bs.foldl (crcStep w poly) init

/-- One bit of the reflected CRC-32C (R296). -/
def crc32cBit (c : Nat) : Nat := if c % 2 = 1 then (c / 2) ^^^ 0x82F63B78 else c / 2

/-- One byte of the reflected CRC-32C. -/
def crc32cByte (c : Nat) (b : Byte) : Nat :=
  (List.range 8).foldl (fun c _ => crc32cBit c) (c ^^^ b.toNat)

/-- CRC-32C with initial value and final exclusive-or 0xFFFF_FFFF (R296). -/
def crc32c (bs : List Byte) : Nat := (bs.foldl crc32cByte 0xFFFFFFFF) ^^^ 0xFFFFFFFF

/-- The lowest-numbered set bit of a number below bit `n`, if there is one. -/
def lowestBit (n v : Nat) : Option Nat := (List.range n).find? (hasBit v)

/-- How many of the low `n` bits are 1. -/
def popCount (n v : Nat) : Nat := ((List.range n).filter (hasBit v)).length

/-- The two's-complement reading of a number of width `w`. -/
def toSigned (w v : Nat) : Int := if hasBit v (w - 1) then (v % 2 ^ w : Nat) - (2 ^ w : Int) else (v % 2 ^ w : Nat)

/-- A signed number narrowed to width `w` (wrapping). -/
def ofSigned (w : Nat) (v : Int) : Nat := (v % (2 ^ w : Int)).toNat

end Sys2Proof.Machine
end

