-- ==== Sys2Proof/Machine/Aes.lean ====
section
/-! DEFINITION. Machine/Aes.lean: AES-256 encryption of one block (FIPS 197, which R381 names through R380), on bytes as
numbers. The byte order of the block and the key is that of R8 (log entry 49, DEDUCED). -/

namespace Sys2Proof.Machine

/-- Doubling in the field of AES. -/
def aesTwice (a : Nat) : Nat := if 128 ≤ a then (2 * a % 256) ^^^ 0x1B else 2 * a

/-- The product of two bytes in the field of AES. -/
def aesMul (a b : Nat) : Nat :=
  ((List.range 8).foldl (fun (p : Nat × Nat) i =>
    (if hasBit b i then p.1 ^^^ p.2 else p.1, aesTwice p.2)) (0, a)).1

/-- The inverse of a byte, `a ^ 254`; 0 for 0. -/
def aesInverse (a : Nat) : Nat :=
  ((List.range 7).foldl (fun (p : Nat × Nat) _ =>
    let q := aesMul p.2 p.2
    (aesMul p.1 q, q)) (1, a)).1

/-- A byte rotated left. -/
def rotByte (a k : Nat) : Nat := (a * 2 ^ k % 256) ||| a / 2 ^ (8 - k)

/-- The substitution of a byte. -/
def aesSub (a : Nat) : Nat :=
  let b := aesInverse a
  b ^^^ rotByte b 1 ^^^ rotByte b 2 ^^^ rotByte b 3 ^^^ rotByte b 4 ^^^ 0x63

/-- Two lists of bytes, exclusive-or. -/
def xorBytes (a b : List Nat) : List Nat := List.zipWith (· ^^^ ·) a b

/-- Rows shifted; byte `r + 4c` is row `r` of column `c`. -/
def aesShiftRows (s : List Nat) : List Nat :=
  (List.range 16).map fun i => s.getD (i % 4 + 4 * ((i / 4 + i % 4) % 4)) 0

/-- Columns mixed. -/
def aesMixColumns (s : List Nat) : List Nat :=
  (List.range 16).map fun i =>
    let a := fun k => s.getD (i / 4 * 4 + (i + k) % 4) 0
    aesMul (a 0) 2 ^^^ aesMul (a 1) 3 ^^^ a 2 ^^^ a 3

/-- The next word of the key schedule: word `i` from the words before it, newest first. -/
def aesKeyWord (i : Nat) (ws : List (List Nat)) : List Nat :=
  let t := ws.headD []
  let t := if i % 8 = 0 then
      xorBytes ((t.drop 1 ++ t.take 1).map aesSub)
        [(List.range (i / 8 - 1)).foldl (fun r _ => aesTwice r) 1, 0, 0, 0]
    else if i % 8 = 4 then t.map aesSub else t
  xorBytes (ws.getD 7 []) t

/-- The 60 words of the key schedule of a 32-byte key. -/
def aesKeys (key : List Nat) : List (List Nat) :=
  let ws := (List.range 8).map fun i => (key.drop (4 * i)).take 4
  ((List.range 52).foldl (fun ws i => aesKeyWord (i + 8) ws :: ws) ws.reverse).reverse

/-- The key of a round. -/
def aesRoundKey (ws : List (List Nat)) (r : Nat) : List Nat := ((ws.drop (4 * r)).take 4).flatten

/-- A block of 16 bytes encrypted under a key of 32. -/
def aes256 (key block : List Nat) : List Nat :=
  let ws := aesKeys key
  let s := (List.range 13).foldl (fun s r =>
    xorBytes (aesMixColumns (aesShiftRows (s.map aesSub))) (aesRoundKey ws (r + 1)))
    (xorBytes block (aesRoundKey ws 0))
  xorBytes (aesShiftRows (s.map aesSub)) (aesRoundKey ws 14)

/-- The bytes of a number, least significant first, as numbers. -/
def natBytes (n v : Nat) : List Nat := (bytesLE n v).map (·.toNat)

/-- Draw `j` of run `n` under a seed: the low 24 bits of the encrypted block `n | (j << 64)` (R381). -/
def seededDraw (seed n j : Nat) : Nat :=
  let c := aes256 (natBytes 32 (seed % 2 ^ 64)) (natBytes 16 (n % 2 ^ 64 + j * 2 ^ 64))
  c.getD 0 0 + 256 * c.getD 1 0 + 65536 * c.getD 2 0

end Sys2Proof.Machine
end

