-- ==== Sys2Proof/Machine/Encoding.lean ====
section
/-! DEFINITION. Machine/Encoding.lean: the instruction word of a core: its five formats (R159), the opcode map (R162) and the FN
codes (R163, R165, R166, R178, R183, R185). What a command gives beside the word is left at its plainest: no error found. -/

namespace Sys2Proof.Machine

/-! ## Formats (R159) -/

/-- Format A, without OP and FN, as the word holds it, and its bits. -/
def fmtAOf (w : Nat) : FmtA :=
  ⟨Fin.ofNat 32 (bitsOf w 57 53), Fin.ofNat 32 (bitsOf w 52 48), Fin.ofNat 32 (bitsOf w 47 43), BitVec.ofNat 4 (bitsOf w 35 32),
    BitVec.ofNat 32 (bitsOf w 31 0)⟩
def fmtABits (f : FmtA) : Nat :=
  f.d.val * 2 ^ 53 + f.a.val * 2 ^ 48 + f.b.val * 2 ^ 43 + f.rsv.toNat * 2 ^ 32 + f.imm.toNat

/-- FN of format A. -/
def fnAOf (w : Nat) : Fin 128 := Fin.ofNat 128 (bitsOf w 42 36)

/-- Format T. -/
def fmtTOf (w : Nat) : FmtT :=
  ⟨Fin.ofNat 4 (bitsOf w 57 56), Fin.ofNat 2 (bitsOf w 55 55), hasBit w 54, hasBit w 53, BitVec.ofNat 3 (bitsOf w 52 50),
    Fin.ofNat 32 (bitsOf w 49 45), Fin.ofNat 32 (bitsOf w 44 40), Fin.ofNat 32 (bitsOf w 39 35), Fin.ofNat 32 (bitsOf w 34 30),
    Fin.ofNat 64 (bitsOf w 29 24), Fin.ofNat 2048 (bitsOf w 23 13), BitVec.ofNat 13 (bitsOf w 12 0)⟩
def fmtTBits (f : FmtT) : Nat :=
  f.eng.val * 2 ^ 56 + f.bank.val * 2 ^ 55 + f.acc.toNat * 2 ^ 54 + f.drn.toNat * 2 ^ 53 + f.rsv1.toNat * 2 ^ 50 +
  f.desc.val * 2 ^ 45 + f.aofs.val * 2 ^ 40 + f.bofs.val * 2 ^ 35 + f.oofs.val * 2 ^ 30 + f.cbSlot.val * 2 ^ 24 +
  f.grpOfs.val * 2 ^ 13 + f.rsv2.toNat

/-- Format C. -/
def fmtCOf (w : Nat) : FmtC :=
  ⟨Fin.ofNat 16 (bitsOf w 57 54), Fin.ofNat 64 (bitsOf w 53 48), Fin.ofNat 32 (bitsOf w 47 43), BitVec.ofNat 11 (bitsOf w 42 32),
    BitVec.ofNat 32 (bitsOf w 31 0)⟩
def fmtCBits (f : FmtC) : Nat :=
  f.emask.val * 2 ^ 54 + f.slot.val * 2 ^ 48 + f.a.val * 2 ^ 43 + f.rsv.toNat * 2 ^ 32 + f.imm.toNat

/-- Format V, without OP and FN. -/
def fmtVOf (w : Nat) : FmtV :=
  ⟨Fin.ofNat 32 (bitsOf w 57 53), Fin.ofNat 32 (bitsOf w 52 48), Fin.ofNat 32 (bitsOf w 47 43), Fin.ofNat 32 (bitsOf w 42 38),
    Fin.ofNat 32 (bitsOf w 31 27), Fin.ofNat 2 (bitsOf w 26 26), hasBit w 25, Fin.ofNat 32 (bitsOf w 24 20),
    BitVec.ofNat 20 (bitsOf w 19 0)⟩
def fmtVBits (f : FmtV) : Nat :=
  f.vd.val * 2 ^ 53 + f.va.val * 2 ^ 48 + f.vb.val * 2 ^ 43 + f.vc.val * 2 ^ 38 + f.fmt.val * 2 ^ 27 + f.rnd.val * 2 ^ 26 +
  f.sat.toNat * 2 ^ 25 + f.s.val * 2 ^ 20 + f.imm.toNat

/-- FN of format V. -/
def fnVOf (w : Nat) : Fin 64 := Fin.ofNat 64 (bitsOf w 37 32)

/-- Format M. -/
def fmtMOf (w : Nat) : FmtM :=
  ⟨hasBit w 57, hasBit w 56, BitVec.ofNat 3 (bitsOf w 55 53), Fin.ofNat 32 (bitsOf w 52 48), Fin.ofNat 32 (bitsOf w 47 43),
    Fin.ofNat 32 (bitsOf w 42 38), Fin.ofNat 16 (bitsOf w 37 34), hasBit w 33, hasBit w 32, Fin.ofNat 65536 (bitsOf w 31 16),
    Fin.ofNat 65536 (bitsOf w 15 0)⟩
def fmtMBits (f : FmtM) : Nat :=
  f.arrEn.toNat * 2 ^ 57 + f.cmpEn.toNat * 2 ^ 56 + f.rsv.toNat * 2 ^ 53 + f.a.val * 2 ^ 48 + f.b.val * 2 ^ 43 +
  f.c.val * 2 ^ 38 + f.pkt.val * 2 ^ 34 + f.dg.toNat * 2 ^ 33 + f.sg.toNat * 2 ^ 32 + f.arrive.val * 2 ^ 16 + f.complete.val

/-! ## The opcode map (R162) -/

/-- The operations of ALU by FN (R163). -/
def aluInstr (c : Fin 1280) (f : FmtA) : Nat → Option Instr
  | 0x00 => some (.aluAdd c f)
  | 0x01 => some (.aluSub c f)
  | 0x02 => some (.aluAnd c f)
  | 0x03 => some (.aluOr c f)
  | 0x04 => some (.aluXor c f)
  | 0x05 => some (.aluShl c f)
  | 0x06 => some (.aluShr c f)
  | 0x07 => some (.aluSra c f)
  | 0x08 => some (.aluSlt c f)
  | 0x09 => some (.aluSltu c f)
  | 0x0A => some (.aluMin c f)
  | 0x0B => some (.aluMax c f)
  | 0x0C => some (.aluMinu c f)
  | 0x0D => some (.aluMaxu c f)
  | 0x10 => some (.aluMul c f)
  | 0x11 => some (.aluMulh c f)
  | 0x12 => some (.aluMulhu c f)
  | _ => none

/-- The conditions of BR by FN (R165). -/
def brInstr (c : Fin 1280) (f : FmtA) : Nat → Option Instr
  | 0x00 => some (.brEq c f)
  | 0x01 => some (.brNe c f)
  | 0x02 => some (.brLt c f)
  | 0x03 => some (.brGe c f)
  | 0x04 => some (.brLtu c f)
  | 0x05 => some (.brGeu c f)
  | _ => none

/-- The operations of CSR by FN (R166). -/
def csrInstr (c : Fin 1280) (f : FmtA) : Nat → Option Instr
  | 0x00 => some (.csrRead c f)
  | 0x01 => some (.csrWrite c f)
  | 0x02 => some (.csrClear c f)
  | _ => none

/-- VARITH by FN (R178). -/
def varithInstr (c : Fin 1280) (f : FmtV) : Nat → Option Instr
  | 0x00 => some (.vadd c f)
  | 0x01 => some (.vsub c f)
  | 0x02 => some (.vmul c f)
  | 0x03 => some (.vfma c f)
  | 0x04 => some (.vmin c f)
  | 0x05 => some (.vmax c f)
  | 0x06 => some (.vabs c f)
  | 0x07 => some (.vneg c f)
  | 0x08 => some (.vadds c f)
  | 0x09 => some (.vmuls c f)
  | _ => none

/-- VFUNC by FN (R178). -/
def vfuncInstr (c : Fin 1280) (f : FmtV) : Nat → Option Instr
  | 0x00 => some (.vdiv c f)
  | 0x01 => some (.vsqrt c f)
  | 0x02 => some (.vrcp c f)
  | 0x03 => some (.vrsqrt c f)
  | 0x04 => some (.vexp2 c f)
  | 0x05 => some (.vlog2 c f)
  | 0x06 => some (.vexp c f)
  | 0x07 => some (.vlog c f)
  | 0x08 => some (.vtanh c f)
  | 0x09 => some (.vsigmoid c f)
  | _ => none

/-- VCMP by FN (R178). -/
def vcmpInstr (c : Fin 1280) (f : FmtV) : Nat → Option Instr
  | 0x00 => some (.vcmpEq c f)
  | 0x01 => some (.vcmpLt c f)
  | 0x02 => some (.vcmpLe c f)
  | 0x03 => some (.vcmpNe c f)
  | _ => none

/-- VRED by FN (R178). -/
def vredInstr (c : Fin 1280) (f : FmtV) : Nat → Option Instr
  | 0x00 => some (.vredSum c f)
  | 0x01 => some (.vredMax c f)
  | 0x02 => some (.vredMin c f)
  | _ => none

/-- SYNC by FN (R183). -/
def syncInstr (c : Fin 1280) (f : FmtA) : Nat → Option Instr
  | 0x00 => some (.sadd c f)
  | 0x01 => some (.sset c f)
  | 0x02 => some (.sread c f)
  | _ => none

/-- ATOM by FN (R185). -/
def atomInstr (c : Fin 1280) (f : FmtA) : Nat → Option Instr
  | 0x00 => some (.atomAdd64 c f)
  | 0x01 => some (.atomAdd32 c f)
  | 0x02 => some (.atomFadd32 c f)
  | 0x03 => some (.atomSwap64 c f)
  | 0x04 => some (.atomCas64 c f)
  | 0x05 => some (.atomAnd64 c f)
  | 0x06 => some (.atomOr64 c f)
  | 0x07 => some (.atomXor64 c f)
  | 0x08 => some (.atomMin64 c f)
  | 0x09 => some (.atomMax64 c f)
  | 0x0A => some (.atomMinu64 c f)
  | 0x0B => some (.atomMaxu64 c f)
  | _ => none

/-- The instruction that a word spells for core `c` (R159, R162): none where its opcode is reserved or its FN selects no
operation, which is ILLEGAL_OPCODE (R160). -/
def instrOf (c : Fin 1280) (w : Nat) : Option Instr :=
  match bitsOf w 63 58 with
  | 0x00 => some (.nop c (fnAOf w) (fmtAOf w))
  | 0x01 => aluInstr c (fmtAOf w) (bitsOf w 42 36)
  | 0x02 => some (.movi c (fnAOf w) (fmtAOf w))
  | 0x03 => some (.movhi c (fnAOf w) (fmtAOf w))
  | 0x04 => brInstr c (fmtAOf w) (bitsOf w 42 36)
  | 0x05 => some (.jal c (fnAOf w) (fmtAOf w))
  | 0x06 => some (.jr c (fnAOf w) (fmtAOf w))
  | 0x07 => csrInstr c (fmtAOf w) (bitsOf w 42 36)
  | 0x08 => some (.halt c (fnAOf w) (fmtAOf w))
  | 0x09 => some (.trap c (fnAOf w) (fmtAOf w))
  | 0x10 => some (.tmma c (fmtTOf w) none ⟨.clean, 0⟩)
  | 0x11 => some (.tdrain c (fmtTOf w))
  | 0x12 => some (.tcbld c (fmtCOf w))
  | 0x18 => some (.vld c (fnVOf w) (fmtVOf w) .clean)
  | 0x19 => some (.vst c (fnVOf w) ⟨fmtVOf w, .clean⟩)
  | 0x1A => varithInstr c (fmtVOf w) (bitsOf w 37 32)
  | 0x1B => vfuncInstr c (fmtVOf w) (bitsOf w 37 32)
  | 0x1C => vcmpInstr c (fmtVOf w) (bitsOf w 37 32)
  | 0x1D => if bitsOf w 37 32 = 0 then some (.vsel c (fnVOf w) (fmtVOf w)) else none
  | 0x1E => vredInstr c (fmtVOf w) (bitsOf w 37 32)
  | 0x1F => if bitsOf w 37 32 = 0 then some (.vbcast c (fnVOf w) (fmtVOf w)) else none
  | 0x20 => if bitsOf w 37 32 = 0 then some (.vcvt c (fnVOf w) (fmtVOf w)) else none
  | 0x28 => some (.ld c (fnAOf w) (fmtAOf w) .clean)
  | 0x29 => some (.st c (fnAOf w) ⟨fmtAOf w, .clean⟩)
  | 0x2A => some (.dcopy c ⟨fmtMOf w, .clean, 0⟩)
  | 0x2B => some (.gld c (fnAOf w) (fmtAOf w))
  | 0x2C => some (.gst c (fnAOf w) (fmtAOf w))
  | 0x30 => syncInstr c (fmtAOf w) (bitsOf w 42 36)
  | 0x31 => some (.swait c (fnAOf w) (fmtAOf w))
  | 0x32 => atomInstr c (fmtAOf w) (bitsOf w 42 36)
  | 0x33 => some (.fence c (fnAOf w) (fmtAOf w))
  | 0x34 => some (.mwait c (fnAOf w) (fmtAOf w))
  | _ => none

/-- An opcode with FN and the other fields. -/
def wordA (op fn : Nat) (f : FmtA) : Option Nat := some (op * 2 ^ 58 + fn * 2 ^ 36 + fmtABits f)
def wordV (op fn : Nat) (f : FmtV) : Option Nat := some (op * 2 ^ 58 + fn * 2 ^ 32 + fmtVBits f)
def wordX (op bits : Nat) : Option Nat := some (op * 2 ^ 58 + bits)

/-- The word of an instruction, none for a command that is no instruction of a core (R159, R162). -/
def wordOf : Instr → Option Nat
  | .nop _ fn f => wordA 0x00 fn.val f
  | .aluAdd _ f => wordA 0x01 0x00 f
  | .aluSub _ f => wordA 0x01 0x01 f
  | .aluAnd _ f => wordA 0x01 0x02 f
  | .aluOr _ f => wordA 0x01 0x03 f
  | .aluXor _ f => wordA 0x01 0x04 f
  | .aluShl _ f => wordA 0x01 0x05 f
  | .aluShr _ f => wordA 0x01 0x06 f
  | .aluSra _ f => wordA 0x01 0x07 f
  | .aluSlt _ f => wordA 0x01 0x08 f
  | .aluSltu _ f => wordA 0x01 0x09 f
  | .aluMin _ f => wordA 0x01 0x0A f
  | .aluMax _ f => wordA 0x01 0x0B f
  | .aluMinu _ f => wordA 0x01 0x0C f
  | .aluMaxu _ f => wordA 0x01 0x0D f
  | .aluMul _ f => wordA 0x01 0x10 f
  | .aluMulh _ f => wordA 0x01 0x11 f
  | .aluMulhu _ f => wordA 0x01 0x12 f
  | .movi _ fn f => wordA 0x02 fn.val f
  | .movhi _ fn f => wordA 0x03 fn.val f
  | .brEq _ f => wordA 0x04 0x00 f
  | .brNe _ f => wordA 0x04 0x01 f
  | .brLt _ f => wordA 0x04 0x02 f
  | .brGe _ f => wordA 0x04 0x03 f
  | .brLtu _ f => wordA 0x04 0x04 f
  | .brGeu _ f => wordA 0x04 0x05 f
  | .jal _ fn f => wordA 0x05 fn.val f
  | .jr _ fn f => wordA 0x06 fn.val f
  | .csrRead _ f => wordA 0x07 0x00 f
  | .csrWrite _ f => wordA 0x07 0x01 f
  | .csrClear _ f => wordA 0x07 0x02 f
  | .halt _ fn f => wordA 0x08 fn.val f
  | .trap _ fn f => wordA 0x09 fn.val f
  | .tmma _ f _ _ => wordX 0x10 (fmtTBits f)
  | .tdrain _ f => wordX 0x11 (fmtTBits f)
  | .tcbld _ f => wordX 0x12 (fmtCBits f)
  | .vld _ fn f _ => wordV 0x18 fn.val f
  | .vst _ fn f => wordV 0x19 fn.val f.word
  | .vadd _ f => wordV 0x1A 0x00 f
  | .vsub _ f => wordV 0x1A 0x01 f
  | .vmul _ f => wordV 0x1A 0x02 f
  | .vfma _ f => wordV 0x1A 0x03 f
  | .vmin _ f => wordV 0x1A 0x04 f
  | .vmax _ f => wordV 0x1A 0x05 f
  | .vabs _ f => wordV 0x1A 0x06 f
  | .vneg _ f => wordV 0x1A 0x07 f
  | .vadds _ f => wordV 0x1A 0x08 f
  | .vmuls _ f => wordV 0x1A 0x09 f
  | .vdiv _ f => wordV 0x1B 0x00 f
  | .vsqrt _ f => wordV 0x1B 0x01 f
  | .vrcp _ f => wordV 0x1B 0x02 f
  | .vrsqrt _ f => wordV 0x1B 0x03 f
  | .vexp2 _ f => wordV 0x1B 0x04 f
  | .vlog2 _ f => wordV 0x1B 0x05 f
  | .vexp _ f => wordV 0x1B 0x06 f
  | .vlog _ f => wordV 0x1B 0x07 f
  | .vtanh _ f => wordV 0x1B 0x08 f
  | .vsigmoid _ f => wordV 0x1B 0x09 f
  | .vcmpEq _ f => wordV 0x1C 0x00 f
  | .vcmpLt _ f => wordV 0x1C 0x01 f
  | .vcmpLe _ f => wordV 0x1C 0x02 f
  | .vcmpNe _ f => wordV 0x1C 0x03 f
  | .vsel _ fn f => wordV 0x1D fn.val f
  | .vredSum _ f => wordV 0x1E 0x00 f
  | .vredMax _ f => wordV 0x1E 0x01 f
  | .vredMin _ f => wordV 0x1E 0x02 f
  | .vbcast _ fn f => wordV 0x1F fn.val f
  | .vcvt _ fn f => wordV 0x20 fn.val f
  | .ld _ fn f _ => wordA 0x28 fn.val f
  | .st _ fn f => wordA 0x29 fn.val f.word
  | .dcopy _ f => wordX 0x2A (fmtMBits f.word)
  | .gld _ fn f => wordA 0x2B fn.val f
  | .gst _ fn f => wordA 0x2C fn.val f
  | .sadd _ f => wordA 0x30 0x00 f
  | .sset _ f => wordA 0x30 0x01 f
  | .sread _ f => wordA 0x30 0x02 f
  | .swait _ fn f => wordA 0x31 fn.val f
  | .atomAdd64 _ f => wordA 0x32 0x00 f
  | .atomAdd32 _ f => wordA 0x32 0x01 f
  | .atomFadd32 _ f => wordA 0x32 0x02 f
  | .atomSwap64 _ f => wordA 0x32 0x03 f
  | .atomCas64 _ f => wordA 0x32 0x04 f
  | .atomAnd64 _ f => wordA 0x32 0x05 f
  | .atomOr64 _ f => wordA 0x32 0x06 f
  | .atomXor64 _ f => wordA 0x32 0x07 f
  | .atomMin64 _ f => wordA 0x32 0x08 f
  | .atomMax64 _ f => wordA 0x32 0x09 f
  | .atomMinu64 _ f => wordA 0x32 0x0A f
  | .atomMaxu64 _ f => wordA 0x32 0x0B f
  | .fence _ fn f => wordA 0x33 fn.val f
  | .mwait _ fn f => wordA 0x34 fn.val f
  | _ => none

end Sys2Proof.Machine
end

