-- ==== Sys2Proof/Config.lean ====
section
/-! DEFINITION. Config.lean: what one module fixes (fuses, straps, keys) and the free values the manual leaves open.
Each is a constant with no body, so nothing can be proved of its value. -/

namespace Sys2Proof.Config

/-- The value of a register field that is loaded from fuses, a strap or a random source at reset, by the field's key
and position (access type FUS of R13; log entry 10, DESIGN CHOICE). -/
opaque fusedValue : Nat → Nat

/-- The n-th free value drawn by the device: an undefined result, a random draw of R380, a nonce (log entry 11, DESIGN CHOICE). -/
opaque freeValue : Nat → BitVec 64

/-- What a byte of a memory cell holds whose contents the manual calls undefined, by the number of the loss of contents
and the cell (R202, R414; log entry 12, DESIGN CHOICE). -/
opaque freeByte : Nat → Nat → BitVec 8

/-- The order of the lanes in the fixed tree of a vector sum, as a sort key (R114, log entry 18, DESIGN CHOICE). -/
opaque reduceKey : Nat → Nat

/-- The taps of the first set of an item and the temperature of the set, as bring-up measures them (R467): by the number of
the bring-up, the item and the tap (log entry 57, DESIGN CHOICE). -/
opaque bringUpTap : Nat → Nat → Nat → Int

/-- Which of the eight Canvas temperature channels of its site is nearest to a ring (R467; log entry 134, DESIGN CHOICE). -/
opaque nearestChannel : Nat → Nat

/-- The heater code that the taps in use of a ring give for a wavelength (R270; log entry 134, DESIGN CHOICE). -/
opaque ringCode : List Int → Nat → Nat

/-- The lower of the two adjacent wavelengths between which a ring is parked (R268; log entry 134, DESIGN CHOICE). -/
opaque parkLambda : Nat → Nat

/-- SHA-256 of a string of bytes, as a number, the first byte highest; left uninterpreted (log entry 55, DESIGN CHOICE). -/
opaque sha256 : List Byte → Nat

/-- Does an ECDSA P-256 signature verify: public key, digest, signature (log entry 55, DESIGN CHOICE). -/
opaque ecdsaVerify : List Byte → Nat → List Byte → Bool

/-- An ECDSA P-256 signature that the alias key of an image makes: measurement 2 of the image, digest, and the draw that the
signature uses (log entry 55, DESIGN CHOICE). -/
opaque ecdsaSign : Nat → Nat → Nat → Nat

/-- The public key of key index `k`, of which the fuses hold the hash (log entry 55, DESIGN CHOICE). -/
opaque publicKey : Nat → List Byte

/-- The certificate chain of SPDM slot 0, whose alias certificate follows measurement 2 (R497, log entry 55, DESIGN CHOICE). -/
opaque certChain : Nat → List Byte

/-- The bytes that a measurement of R499 digests, by its index and contents, whose layout the manual does not give (log
entry 62). -/
opaque measBytes : Nat → List Nat → List Byte

end Sys2Proof.Config
end

