-- ==== Sys2Proof/Machine/RegTable.lean ====
section
/-! DEFINITION. Machine/RegTable.lean: every field of every block register, from the register tables of the chapters
(R23), and the common header of R535. A field is one class's, at an offset; registers that repeat (n of them, a stride
apart) and the instances of a page share one entry. A `_LO`/`_HI` pair is one field of 64 bits at the `_LO` offset
(R14). -/

namespace Sys2Proof.Machine

/-- The access types of R13. -/
inductive Acc where
  | ro
  | rw
  | w1c
  | w1s
  | wo
  | rws
  | fus
  deriving DecidableEq, Repr

/-- One field of a register: class code, offset, how many registers repeat and at what stride, top and bottom bit,
access type, reset value (one for each repeat where `rsts` lists them), whether fuses or a strap give it, and the range
its stored values are held in. -/
structure Field where
  cls : Nat
  off : Nat
  stride : Nat
  cnt : Nat
  hi : Nat
  lo : Nat
  acc : Acc
  rst : Nat
  rsts : List Nat
  fused : Bool
  clampLo : Nat
  clampHi : Option Nat
  deriving DecidableEq, Repr

/-- A field that is neither repeated, fused nor held in a range. -/
def fld (cls off hi lo : Nat) (acc : Acc) (rst : Nat) : Field :=
  ⟨cls, off, 0, 1, hi, lo, acc, rst, [], false, 0, none⟩

/-- The width of a field. -/
def Field.width (f : Field) : Nat := f.hi + 1 - f.lo

/-- The class codes of R532. -/
abbrev cDEV : Nat := 0x00
abbrev cMGT : Nat := 0x01
abbrev cARB : Nat := 0x02
abbrev cTMP : Nat := 0x03
abbrev cMOV : Nat := 0x04
abbrev cPWR : Nat := 0x05
abbrev cTHM : Nat := 0x06
abbrev cCAL : Nat := 0x07
abbrev cSEC : Nat := 0x08
abbrev cHST : Nat := 0x09
abbrev cERR : Nat := 0x0A
abbrev cFUS : Nat := 0x0B
abbrev cFAB : Nat := 0x0C
abbrev cPRT : Nat := 0x0D
abbrev cLAN : Nat := 0x0E
abbrev cSYN : Nat := 0x0F
abbrev cVLK : Nat := 0x10
abbrev cLSR : Nat := 0x11
abbrev cSEA : Nat := 0x12
abbrev cCDI : Nat := 0x13
abbrev cCLU : Nat := 0x14
abbrev cCOR : Nat := 0x15
abbrev cSMP : Nat := 0x16
abbrev cGMB : Nat := 0x17
abbrev cMST : Nat := 0x18
abbrev cMCH : Nat := 0x19

/-- One row of the class table: instances, BLOCK_TOP, EVT_TOP, reset of `PG_EVT_MASK`, SEALABLE, STALE_CAP and
SITE_SCOPED (R532, R533, R535). -/
structure ClassRow where
  count : Nat
  blockTop : Nat
  evtTop : Nat
  maskReset : Nat
  sealable : Bool
  staleCap : Bool
  siteScoped : Bool
  deriving DecidableEq, Repr

/-- The class table of R532; a reserved class has no instance. -/
def classRow : Nat → ClassRow
  | 0x00 => ⟨1, 0x060, 2, 0, false, false, false⟩
  | 0x01 => ⟨1, 0x308, 24, 0x00010000, true, false, false⟩
  | 0x02 => ⟨1, 0x07C, 11, 0, false, false, false⟩
  | 0x03 => ⟨1, 0x09C, 11, 0, false, false, false⟩
  | 0x04 => ⟨16, 0x090, 14, 2, false, false, true⟩
  | 0x05 => ⟨1, 0x070, 6, 1, false, false, false⟩
  | 0x06 => ⟨1, 0x078, 12, 0x41, false, true, false⟩
  | 0x07 => ⟨1, 0x068, 5, 1, false, false, false⟩
  | 0x08 => ⟨1, 0x078, 6, 8, false, false, false⟩
  | 0x09 => ⟨1, 0x2FC, 9, 8, false, false, false⟩
  | 0x0A => ⟨1, 0x12C, 3, 1, false, false, false⟩
  | 0x0B => ⟨1, 0x064, 4, 1, false, false, false⟩
  | 0x0C => ⟨1, 0x138, 11, 4, true, false, false⟩
  | 0x0D => ⟨16, 0xD28, 11, 2, false, true, true⟩
  | 0x0E => ⟨64, 0x1FC, 6, 8, false, false, false⟩
  | 0x0F => ⟨128, 0x060, 1, 0, false, false, true⟩
  | 0x10 => ⟨16, 0x09C, 9, 0x80, false, true, true⟩
  | 0x11 => ⟨6, 0x064, 5, 0, false, false, false⟩
  | 0x12 => ⟨1, 0x05C, 4, 8, false, false, false⟩
  | 0x13 => ⟨8, 0x058, 6, 2, false, false, true⟩
  | 0x14 => ⟨32, 0x22C, 3, 0, false, false, true⟩
  | 0x15 => ⟨1280, 0x13C, 6, 2, false, false, true⟩
  | 0x16 => ⟨8, 0x0D8, 5, 1, false, false, true⟩
  | 0x17 => ⟨1, 0x2FC, 6, 1, false, false, false⟩
  | 0x18 => ⟨8, 0x080, 13, 2, false, false, true⟩
  | 0x19 => ⟨1024, 0x06C, 7, 0x40, false, true, true⟩
  | _ => ⟨0, 0, 0, 0, false, false, false⟩

/-! The stored fields of the common header (R535), for a class. -/

def PG_CTRL_CNT_HOLD (c : Nat) : Field := fld c 0x008 8 8 .rw 0
def PG_EVT_FLAG (c : Nat) : Field := fld c 0x014 31 0 .w1c 0
def PG_EVT_MASK (c : Nat) : Field := fld c 0x018 31 0 .rw (classRow c).maskReset
def PG_EVT_CNT_SEL_ALL (c : Nat) : Field := fld c 0x020 8 8 .rw 0
def PG_EVT_CNT_SEL_BIT (c : Nat) : Field := fld c 0x020 4 0 .rw 0
def PG_EVT_CNT (c : Nat) : Field := fld c 0x024 31 0 .ro 0
def PG_EVT_TEMPO (c : Nat) : Field := fld c 0x028 63 0 .ro 0
def PG_OWNER_EXCL (c : Nat) : Field := fld c 0x030 31 31 .rw 0
def PG_OWNER_KIND (c : Nat) : Field := fld c 0x030 19 18 .rw 0
def PG_OWNER_VF (c : Nat) : Field := fld c 0x030 13 10 .rw 0
def PG_SEAL_OWNER (c : Nat) : Field := fld c 0x034 1 1 .w1s 0
def PG_SEAL_RWS (c : Nat) : Field := fld c 0x034 0 0 .w1s 0
def PG_ERR_SUM_VIOL (c : Nat) : Field := fld c 0x038 31 24 .ro 0
def PG_ERR_SUM_FORCED (c : Nat) : Field := fld c 0x038 23 16 .ro 0
def PG_ERR_SUM_REASON (c : Nat) : Field := fld c 0x038 15 12 .ro 0

/-! `DEV` block registers (01_the_chohar_module.md). -/

/-- `DEV_CAP_CORES` (R44). -/
def DEV_CAP_CORES_SPARES : Field := fld cDEV 0x54 23 16 .ro 0
def DEV_CAP_CORES_CORES : Field := fld cDEV 0x54 10 0 .ro 0
/-- `DEV_CAP_MEM` (R44). -/
def DEV_CAP_MEM : Field := fld cDEV 0x58 19 0 .ro 0
/-- `DEV_CAP_CIRC` (R44). -/
def DEV_CAP_CIRC_RESERVE : Field := fld cDEV 0x5c 23 16 .ro 0
def DEV_CAP_CIRC_GRANTABLE : Field := fld cDEV 0x5c 11 0 .ro 0
/-- `DEV_PART_ID` (R40). -/
def DEV_PART_ID_PRODUCT : Field := fld cDEV 0x40 31 16 .fus 0xc16a
def DEV_PART_ID_STEPPING : Field := ⟨cDEV, 0x40, 0x0, 1, 15, 8, .fus, 0, [], true, 0, none⟩
def DEV_PART_ID_GRADE : Field := fld cDEV 0x40 7 0 .fus 1
/-- `DEV_SERIAL_LO / DEV_SERIAL_HI` (R41). -/
def DEV_SERIAL : Field := ⟨cDEV, 0x44, 0x0, 1, 63, 0, .fus, 0, [], true, 0, none⟩
/-- `DEV_CLK_NOM` (R42). -/
def DEV_CLK_NOM_MGT_MHZ : Field := fld cDEV 0x4c 31 16 .fus 0x320
def DEV_CLK_NOM_CORE_MHZ : Field := fld cDEV 0x4c 15 0 .fus 0x640
/-- `DEV_CAP_GEN` (R43). -/
def DEV_CAP_GEN : Field := fld cDEV 0x50 15 0 .ro 0
/-- `DEV_SITE_SUM` (R45). -/
def DEV_SITE_SUM : Field := fld cDEV 0x60 31 0 .ro 0xaaaaaaaa

def fieldsDEV0 : List Field := [DEV_CAP_CORES_SPARES, DEV_CAP_CORES_CORES, DEV_CAP_MEM, DEV_CAP_CIRC_RESERVE, DEV_CAP_CIRC_GRANTABLE, DEV_PART_ID_PRODUCT, DEV_PART_ID_STEPPING, DEV_PART_ID_GRADE, DEV_SERIAL, DEV_CLK_NOM_MGT_MHZ, DEV_CLK_NOM_CORE_MHZ, DEV_CAP_GEN, DEV_SITE_SUM]
def fieldsDEV : List Field := fieldsDEV0

/-! `MGT` block registers (12_bring_up_repair_reset.md, 15_host_security.md). -/

/-- `MGT_BOOT_CTRL` (R426). -/
def MGT_BOOT_CTRL_MAX_AGE : Field := ⟨cMGT, 0x200, 0x0, 1, 31, 24, .rw, 0x1e, [], false, 1, none⟩
def MGT_BOOT_CTRL_FORCE_COLD : Field := fld cMGT 0x200 1 1 .rw 0
def MGT_BOOT_CTRL_WARM_EN : Field := fld cMGT 0x200 0 0 .rw 1
/-- `MGT_BOOT_STAT` (R426). -/
def MGT_BOOT_STAT_WARM_DENY : Field := fld cMGT 0x204 23 16 .ro 0
def MGT_BOOT_STAT_DONE : Field := fld cMGT 0x204 14 10 .ro 0
def MGT_BOOT_STAT_KIND : Field := fld cMGT 0x204 9 8 .ro 0
def MGT_BOOT_STAT_STEP : Field := fld cMGT 0x204 3 0 .ro 0
/-- `MGT_BOOT_MS1 to MGT_BOOT_MS5` (R426). -/
def MGT_BOOT_MS : Field := ⟨cMGT, 0x208, 0x4, 5, 19, 0, .ro, 0, [], false, 0, none⟩
/-- `MGT_BOOT_FAIL` (R426). -/
def MGT_BOOT_FAIL_CODE : Field := fld cMGT 0x21c 11 4 .ro 0
def MGT_BOOT_FAIL_STEP : Field := fld cMGT 0x21c 3 0 .ro 0
/-- `MGT_PART_MAP_LO / _HI` (R426). -/
def MGT_PART_MAP : Field := fld cMGT 0x220 63 0 .rw 0x8888888888888888
/-- `MGT_RST_CTRL` (R426). -/
def MGT_RST_CTRL_GO : Field := fld cMGT 0x228 31 31 .wo 0
def MGT_RST_CTRL_RELEASE : Field := fld cMGT 0x228 30 30 .wo 0
def MGT_RST_CTRL_LEVEL : Field := fld cMGT 0x228 29 28 .rw 0
def MGT_RST_CTRL_HOLD : Field := fld cMGT 0x228 27 27 .rw 0
def MGT_RST_CTRL_SCRUB : Field := fld cMGT 0x228 26 26 .rw 0
def MGT_RST_CTRL_TARGET : Field := fld cMGT 0x228 4 0 .rw 0
/-- `MGT_RST_STAT` (R426). -/
def MGT_RST_STAT_HELD : Field := fld cMGT 0x22c 31 24 .ro 0
def MGT_RST_STAT_ACTIVE : Field := fld cMGT 0x22c 23 16 .ro 0
def MGT_RST_STAT_CLUSTERS : Field := fld cMGT 0x22c 13 8 .ro 0
def MGT_RST_STAT_LAST : Field := fld cMGT 0x22c 7 6 .ro 0
/-- `MGT_RST_DRAIN` (R426). -/
def MGT_RST_DRAIN : Field := fld cMGT 0x230 15 0 .rw 0x14
/-- `MGT_RETIRE` (R426). -/
def MGT_RETIRE_GO : Field := fld cMGT 0x234 31 31 .wo 0
def MGT_RETIRE_LID : Field := fld cMGT 0x234 11 0 .rw 0
/-- `MGT_REPAIR_LAST_LO / _HI` (R426). -/
def MGT_REPAIR_LAST : Field := fld cMGT 0x238 63 0 .ro 0
/-- `MGT_REPAIR_CNT` (R426). -/
def MGT_REPAIR_CNT_SUBST : Field := fld cMGT 0x240 31 16 .ro 0
def MGT_REPAIR_CNT_ABSENT : Field := fld cMGT 0x240 15 0 .ro 0
/-- `MGT_SB_CFG` (R508). -/
def MGT_SB_CFG_BUS : Field := ⟨cMGT, 0x300, 0x0, 1, 8, 8, .ro, 0, [], true, 0, none⟩
def MGT_SB_CFG_ADDR : Field := fld cMGT 0x300 6 0 .rws 0x4c
/-- `MGT_SB_EID` (R508). -/
def MGT_SB_EID : Field := fld cMGT 0x304 7 0 .ro 0
/-- `MGT_SB_MSGS` (R508). -/
def MGT_SB_MSGS : Field := fld cMGT 0x308 31 0 .ro 0

def fieldsMGT0 : List Field := [MGT_BOOT_CTRL_MAX_AGE, MGT_BOOT_CTRL_FORCE_COLD, MGT_BOOT_CTRL_WARM_EN, MGT_BOOT_STAT_WARM_DENY, MGT_BOOT_STAT_DONE, MGT_BOOT_STAT_KIND, MGT_BOOT_STAT_STEP, MGT_BOOT_MS, MGT_BOOT_FAIL_CODE, MGT_BOOT_FAIL_STEP, MGT_PART_MAP, MGT_RST_CTRL_GO, MGT_RST_CTRL_RELEASE, MGT_RST_CTRL_LEVEL, MGT_RST_CTRL_HOLD, MGT_RST_CTRL_SCRUB, MGT_RST_CTRL_TARGET, MGT_RST_STAT_HELD, MGT_RST_STAT_ACTIVE, MGT_RST_STAT_CLUSTERS, MGT_RST_STAT_LAST, MGT_RST_DRAIN, MGT_RETIRE_GO, MGT_RETIRE_LID]
def fieldsMGT1 : List Field := [MGT_REPAIR_LAST, MGT_REPAIR_CNT_SUBST, MGT_REPAIR_CNT_ABSENT, MGT_SB_CFG_BUS, MGT_SB_CFG_ADDR, MGT_SB_EID, MGT_SB_MSGS]
def fieldsMGT : List Field := fieldsMGT0 ++ fieldsMGT1

/-! `ARB` block registers (13_twins_arbiter.md). -/

/-- `ARB_PAIR_STAT0, ARB_PAIR_STAT1` (R445). -/
def ARB_PAIR_STAT_ATTEMPTS : Field := ⟨cARB, 0x40, 0x4, 2, 15, 8, .ro, 0, [], false, 0, none⟩
def ARB_PAIR_STAT_B_OK : Field := ⟨cARB, 0x40, 0x4, 2, 7, 7, .ro, 1, [], false, 0, none⟩
def ARB_PAIR_STAT_A_OK : Field := ⟨cARB, 0x40, 0x4, 2, 6, 6, .ro, 1, [], false, 0, none⟩
def ARB_PAIR_STAT_ACTIVE : Field := ⟨cARB, 0x40, 0x4, 2, 4, 4, .ro, 0, [], false, 0, none⟩
def ARB_PAIR_STAT_STATE : Field := ⟨cARB, 0x40, 0x4, 2, 2, 0, .ro, 5, [], false, 0, none⟩
/-- `ARB_CTRL` (R445). -/
def ARB_CTRL_PAIR : Field := fld cARB 0x48 3 3 .rw 0
def ARB_CTRL_RESTART : Field := fld cARB 0x48 1 1 .wo 0
def ARB_CTRL_CASTLE : Field := fld cARB 0x48 0 0 .wo 0
/-- `ARB_CFG` (R445). -/
def ARB_CFG_FORCE_EN : Field := fld cARB 0x4c 16 16 .rw 1
def ARB_CFG_RESYNC_MAX : Field := ⟨cARB, 0x4c, 0x0, 1, 7, 0, .rw, 3, [], false, 1, none⟩
/-- `ARB_CASTLE_CNT0, ARB_CASTLE_CNT1` (R445). -/
def ARB_CASTLE_CNT : Field := ⟨cARB, 0x50, 0x4, 2, 31, 0, .ro, 0, [], false, 0, none⟩
/-- `ARB_LAST` (R445). -/
def ARB_LAST_CAUSE : Field := fld cARB 0x58 31 28 .ro 0
def ARB_LAST_PAIR : Field := fld cARB 0x58 27 27 .ro 0
def ARB_LAST_FROM : Field := fld cARB 0x58 26 26 .ro 0
def ARB_LAST_GAP : Field := fld cARB 0x58 23 16 .ro 0
def ARB_LAST_TEMPO : Field := fld cARB 0x58 15 0 .ro 0
/-- `ARB_DIVERGE` (R445). -/
def ARB_DIVERGE : Field := fld cARB 0x5c 31 0 .ro 0
/-- `ARB_HB` (R445). -/
def ARB_HB_FAB : Field := fld cARB 0x60 1 1 .wo 0
def ARB_HB_MGT : Field := fld cARB 0x60 0 0 .wo 0
/-- `ARB_HB_PERIOD` (R445). -/
def ARB_HB_PERIOD : Field := ⟨cARB, 0x64, 0x0, 1, 15, 0, .rw, 0x3e8, [], false, 1, none⟩
/-- `ARB_FORCE_STAT` (R445). -/
def ARB_FORCE_STAT_PULSES : Field := fld cARB 0x68 31 16 .ro 0
def ARB_FORCE_STAT_IGNORED : Field := fld cARB 0x68 15 8 .ro 0
def ARB_FORCE_STAT_PIN : Field := fld cARB 0x68 0 0 .ro 1
/-- `ARB_UPD_CTRL` (R445). -/
def ARB_UPD_CTRL_SLOT : Field := fld cARB 0x6c 4 4 .rw 0
def ARB_UPD_CTRL_PAIR : Field := fld cARB 0x6c 3 3 .rw 0
def ARB_UPD_CTRL_READY : Field := fld cARB 0x6c 2 2 .w1s 0
def ARB_UPD_CTRL_ABORT : Field := fld cARB 0x6c 1 1 .wo 0
def ARB_UPD_CTRL_START : Field := fld cARB 0x6c 0 0 .wo 0
/-- `ARB_UPD_STAT` (R445). -/
def ARB_UPD_STAT_REASON : Field := fld cARB 0x70 7 4 .ro 0
def ARB_UPD_STAT_PHASE : Field := fld cARB 0x70 2 0 .ro 0
/-- `ARB_UPD_AT_LO / _HI` (R445). -/
def ARB_UPD_AT : Field := fld cARB 0x74 63 0 .rw 0
/-- `ARB_UPD_TMO` (R445). -/
def ARB_UPD_TMO : Field := ⟨cARB, 0x7c, 0x0, 1, 19, 0, .rw, 0xea60, [], false, 1, none⟩

def fieldsARB0 : List Field := [ARB_PAIR_STAT_ATTEMPTS, ARB_PAIR_STAT_B_OK, ARB_PAIR_STAT_A_OK, ARB_PAIR_STAT_ACTIVE, ARB_PAIR_STAT_STATE, ARB_CTRL_PAIR, ARB_CTRL_RESTART, ARB_CTRL_CASTLE, ARB_CFG_FORCE_EN, ARB_CFG_RESYNC_MAX, ARB_CASTLE_CNT, ARB_LAST_CAUSE, ARB_LAST_PAIR, ARB_LAST_FROM, ARB_LAST_GAP, ARB_LAST_TEMPO, ARB_DIVERGE, ARB_HB_FAB, ARB_HB_MGT, ARB_HB_PERIOD, ARB_FORCE_STAT_PULSES, ARB_FORCE_STAT_IGNORED, ARB_FORCE_STAT_PIN, ARB_UPD_CTRL_SLOT]
def fieldsARB1 : List Field := [ARB_UPD_CTRL_PAIR, ARB_UPD_CTRL_READY, ARB_UPD_CTRL_ABORT, ARB_UPD_CTRL_START, ARB_UPD_STAT_REASON, ARB_UPD_STAT_PHASE, ARB_UPD_AT, ARB_UPD_TMO]
def fieldsARB : List Field := fieldsARB0 ++ fieldsARB1

/-! `TMP` block registers (02_tempo.md). -/

/-- `TMP_CTRL` (R89). -/
def TMP_CTRL_APPLY_EPOCH : Field := fld cTMP 0x40 7 7 .wo 0
def TMP_CTRL_FRAMED : Field := fld cTMP 0x40 6 6 .rw 1
def TMP_CTRL_OUT_EN : Field := fld cTMP 0x40 5 5 .rw 0
def TMP_CTRL_ROLE : Field := fld cTMP 0x40 1 0 .rw 0
/-- `TMP_STAT` (R89). -/
def TMP_STAT_HOP : Field := fld cTMP 0x44 7 4 .ro 0
def TMP_STAT_FRAME_OK : Field := fld cTMP 0x44 3 3 .ro 0
def TMP_STAT_STATE : Field := fld cTMP 0x44 2 0 .ro 0
/-- `TMP_COUNT_LO / TMP_COUNT_HI` (R89). -/
def TMP_COUNT : Field := fld cTMP 0x48 63 0 .ro 0
/-- `TMP_BEAT` (R89). -/
def TMP_BEAT_CLK : Field := fld cTMP 0x50 11 8 .ro 0
def TMP_BEAT_BEAT : Field := fld cTMP 0x50 6 0 .ro 0
/-- `TMP_EPOCH_SET_LO / TMP_EPOCH_SET_HI` (R89). -/
def TMP_EPOCH_SET : Field := fld cTMP 0x54 63 0 .rw 0
/-- `TMP_IN_DELAY` (R89). -/
def TMP_IN_DELAY : Field := fld cTMP 0x5c 15 0 .rw 0
/-- `TMP_OUT_OFS` (R89). -/
def TMP_OUT_OFS : Field := ⟨cTMP, 0x60, 0x0, 1, 15, 0, .fus, 0, [], true, 0, none⟩
/-- `TMP_RPT_DELAY` (R89). -/
def TMP_RPT_DELAY : Field := ⟨cTMP, 0x64, 0x0, 1, 15, 0, .fus, 0, [], true, 0, none⟩
/-- `TMP_HOLD_LIMIT` (R89). -/
def TMP_HOLD_LIMIT : Field := ⟨cTMP, 0x68, 0x0, 1, 13, 0, .rw, 0x2710, [], false, 1, some 10000⟩
/-- `TMP_HOLD_ELAPSED` (R89). -/
def TMP_HOLD_ELAPSED : Field := fld cTMP 0x6c 31 0 .ro 0
/-- `TMP_PHASE_ERR` (R89). -/
def TMP_PHASE_ERR : Field := fld cTMP 0x70 31 0 .ro 0
/-- `TMP_SCAN_P0 to TMP_SCAN_P7` (R89). -/
def TMP_SCAN_BEAT : Field := ⟨cTMP, 0x80, 0x4, 8, 22, 16, .rw, 0, [0, 10, 20, 30, 40, 50, 60, 70], false, 0, some 99⟩
def TMP_SCAN_PERIOD : Field := ⟨cTMP, 0x80, 0x4, 8, 15, 0, .rw, 1, [], false, 0, none⟩

def fieldsTMP0 : List Field := [TMP_CTRL_APPLY_EPOCH, TMP_CTRL_FRAMED, TMP_CTRL_OUT_EN, TMP_CTRL_ROLE, TMP_STAT_HOP, TMP_STAT_FRAME_OK, TMP_STAT_STATE, TMP_COUNT, TMP_BEAT_CLK, TMP_BEAT_BEAT, TMP_EPOCH_SET, TMP_IN_DELAY, TMP_OUT_OFS, TMP_RPT_DELAY, TMP_HOLD_LIMIT, TMP_HOLD_ELAPSED, TMP_PHASE_ERR, TMP_SCAN_BEAT, TMP_SCAN_PERIOD]
def fieldsTMP : List Field := fieldsTMP0

/-! `MOV` block registers (02_tempo.md). -/

/-- `MOV_CTRL` (R92). -/
def MOV_CTRL_LIST_SEL : Field := fld cMOV 0x40 5 5 .rw 0
def MOV_CTRL_SWAP_ARM : Field := fld cMOV 0x40 4 4 .rw 0
def MOV_CTRL_FORCE : Field := fld cMOV 0x40 2 2 .wo 0
def MOV_CTRL_STOP : Field := fld cMOV 0x40 1 1 .wo 0
def MOV_CTRL_START : Field := fld cMOV 0x40 0 0 .wo 0
/-- `MOV_STAT` (R92). -/
def MOV_STAT_ERR : Field := fld cMOV 0x44 31 28 .ro 0
def MOV_STAT_POS : Field := fld cMOV 0x44 27 16 .ro 0
def MOV_STAT_ACTIVE : Field := fld cMOV 0x44 4 4 .ro 0
def MOV_STAT_STATE : Field := fld cMOV 0x44 2 0 .ro 0
/-- `MOV_START_LO / MOV_START_HI` (R92). -/
def MOV_START : Field := fld cMOV 0x48 63 0 .rw 0
/-- `MOV_PERIOD` (R92). -/
def MOV_PERIOD : Field := ⟨cMOV, 0x50, 0x0, 1, 16, 0, .rw, 1, [], false, 1, some 65536⟩
/-- `MOV_LIST_A, MOV_LIST_B` (R92). -/
def MOV_LIST_LEN : Field := ⟨cMOV, 0x54, 0x4, 2, 28, 16, .rw, 0, [], false, 0, none⟩
def MOV_LIST_BASE : Field := ⟨cMOV, 0x54, 0x4, 2, 11, 0, .rw, 0, [], false, 0, none⟩
/-- `MOV_SWAP_AT_LO / MOV_SWAP_AT_HI` (R92). -/
def MOV_SWAP_AT : Field := fld cMOV 0x5c 63 0 .rw 0
/-- `MOV_ITER` (R92). -/
def MOV_ITER : Field := fld cMOV 0x64 31 0 .ro 0
/-- `MOV_LATE_CNT` (R92). -/
def MOV_LATE_CNT : Field := fld cMOV 0x68 31 0 .ro 0
/-- `MOV_LATE_MAX` (R92). -/
def MOV_LATE_MAX : Field := fld cMOV 0x6c 31 0 .ro 0
/-- `MOV_LATE_LAST` (R92). -/
def MOV_LATE_LAST_IDX : Field := fld cMOV 0x70 27 16 .ro 0
def MOV_LATE_LAST_ITER : Field := fld cMOV 0x70 15 0 .ro 0
/-- `MOV_STALL` (R92). -/
def MOV_STALL_IDX : Field := fld cMOV 0x74 27 16 .ro 0
def MOV_STALL_SYNC : Field := fld cMOV 0x74 15 0 .ro 0
/-- `MOV_ABANDONED` (R92). -/
def MOV_ABANDONED : Field := fld cMOV 0x78 31 0 .ro 0
/-- `MOV_EVT_IDX` (R92). -/
def MOV_EVT_IDX : Field := fld cMOV 0x7c 11 0 .ro 0
/-- `MOV_LOAD_IDX` (R92). -/
def MOV_LOAD_IDX : Field := fld cMOV 0x80 11 0 .rw 0
/-- `MOV_LOAD_DATA` (R92). -/
def MOV_LOAD_DATA : Field := fld cMOV 0x84 31 0 .wo 0
/-- `MOV_DMA_SRC_LO / MOV_DMA_SRC_HI` (R92). -/
def MOV_DMA_SRC : Field := fld cMOV 0x88 63 0 .rw 0
/-- `MOV_DMA_CTRL` (R92). -/
def MOV_DMA_CTRL_GO : Field := fld cMOV 0x90 31 31 .wo 0
def MOV_DMA_CTRL_STATUS : Field := fld cMOV 0x90 28 25 .ro 0
def MOV_DMA_CTRL_COUNT : Field := fld cMOV 0x90 24 12 .rw 0
def MOV_DMA_CTRL_DST : Field := fld cMOV 0x90 11 0 .rw 0

def fieldsMOV0 : List Field := [MOV_CTRL_LIST_SEL, MOV_CTRL_SWAP_ARM, MOV_CTRL_FORCE, MOV_CTRL_STOP, MOV_CTRL_START, MOV_STAT_ERR, MOV_STAT_POS, MOV_STAT_ACTIVE, MOV_STAT_STATE, MOV_START, MOV_PERIOD, MOV_LIST_LEN, MOV_LIST_BASE, MOV_SWAP_AT, MOV_ITER, MOV_LATE_CNT, MOV_LATE_MAX, MOV_LATE_LAST_IDX, MOV_LATE_LAST_ITER, MOV_STALL_IDX, MOV_STALL_SYNC, MOV_ABANDONED, MOV_EVT_IDX, MOV_LOAD_IDX]
def fieldsMOV1 : List Field := [MOV_LOAD_DATA, MOV_DMA_SRC, MOV_DMA_CTRL_GO, MOV_DMA_CTRL_STATUS, MOV_DMA_CTRL_COUNT, MOV_DMA_CTRL_DST]
def fieldsMOV : List Field := fieldsMOV0 ++ fieldsMOV1

/-! `PWR` block registers (14_power_thermal_calibration.md). -/

/-- `PWR_IN_V` (R470). -/
def PWR_IN_V : Field := fld cPWR 0x40 15 0 .ro 0
/-- `PWR_IN_I` (R470). -/
def PWR_IN_I : Field := fld cPWR 0x44 19 0 .ro 0
/-- `PWR_IN_P` (R470). -/
def PWR_IN_P_PEAK : Field := fld cPWR 0x48 31 16 .ro 0
def PWR_IN_P_W : Field := fld cPWR 0x48 15 0 .ro 0
/-- `PWR_CAP` (R470). -/
def PWR_CAP : Field := ⟨cPWR, 0x4c, 0x0, 1, 11, 0, .rw, 0xbb8, [], false, 1000, some 3200⟩
/-- `PWR_SLEW` (R470). -/
def PWR_SLEW : Field := ⟨cPWR, 0x50, 0x0, 1, 11, 0, .rw, 0x708, [], false, 100, some 2000⟩
/-- `PWR_EFF` (R470). -/
def PWR_EFF : Field := ⟨cPWR, 0x54, 0x0, 1, 7, 0, .fus, 0, [], true, 0, none⟩
/-- `PWR_GOV_STAT` (R470). -/
def PWR_GOV_STAT_DEBT : Field := fld cPWR 0x58 31 31 .ro 0
def PWR_GOV_STAT_ADMITTED : Field := fld cPWR 0x58 26 16 .ro 0
def PWR_GOV_STAT_QUEUED : Field := fld cPWR 0x58 10 0 .ro 0
/-- `PWR_GOV_DEFER` (R470). -/
def PWR_GOV_DEFER : Field := fld cPWR 0x5c 31 0 .ro 0
/-- `PWR_GOV_WAIT_MAX` (R470). -/
def PWR_GOV_WAIT_MAX : Field := fld cPWR 0x60 15 0 .ro 0
/-- `PWR_DIE_CLK` (R470). -/
def PWR_DIE_CLK : Field := fld cPWR 0x64 15 0 .rw 0
/-- `PWR_HALF_CLK` (R470). -/
def PWR_HALF_CLK_SEAM : Field := fld cPWR 0x68 13 12 .ro 0
def PWR_HALF_CLK_EAST : Field := fld cPWR 0x68 11 10 .ro 0
def PWR_HALF_CLK_WEST : Field := fld cPWR 0x68 9 8 .ro 0
def PWR_HALF_CLK_EAST_REQ : Field := fld cPWR 0x68 3 2 .rw 0
def PWR_HALF_CLK_WEST_REQ : Field := fld cPWR 0x68 1 0 .rw 0
/-- `PWR_ESTOP` (R470). -/
def PWR_ESTOP_CAUSE : Field := fld cPWR 0x6c 31 28 .ro 0
def PWR_ESTOP_GO : Field := fld cPWR 0x6c 0 0 .wo 0
/-- `PWR_IN_FAULT` (R470). -/
def PWR_IN_FAULT : Field := fld cPWR 0x70 31 0 .ro 0

def fieldsPWR0 : List Field := [PWR_IN_V, PWR_IN_I, PWR_IN_P_PEAK, PWR_IN_P_W, PWR_CAP, PWR_SLEW, PWR_EFF, PWR_GOV_STAT_DEBT, PWR_GOV_STAT_ADMITTED, PWR_GOV_STAT_QUEUED, PWR_GOV_DEFER, PWR_GOV_WAIT_MAX, PWR_DIE_CLK, PWR_HALF_CLK_SEAM, PWR_HALF_CLK_EAST, PWR_HALF_CLK_WEST, PWR_HALF_CLK_EAST_REQ, PWR_HALF_CLK_WEST_REQ, PWR_ESTOP_CAUSE, PWR_ESTOP_GO, PWR_IN_FAULT]
def fieldsPWR : List Field := fieldsPWR0

/-! `THM` block registers (14_power_thermal_calibration.md). -/

/-- `THM_ROR_WATCH` (R472). -/
def THM_ROR_WATCH_MAX : Field := ⟨cTHM, 0x40, 0x0, 1, 23, 16, .fus, 0, [], true, 0, none⟩
def THM_ROR_WATCH_MIN : Field := ⟨cTHM, 0x40, 0x0, 1, 15, 8, .fus, 0, [], true, 0, none⟩
def THM_ROR_WATCH_RATE : Field := fld cTHM 0x40 7 0 .rw 2
/-- `THM_ROR_ACT` (R472). -/
def THM_ROR_ACT_MAX : Field := ⟨cTHM, 0x44, 0x0, 1, 23, 16, .fus, 0, [], true, 0, none⟩
def THM_ROR_ACT_MIN : Field := ⟨cTHM, 0x44, 0x0, 1, 15, 8, .fus, 0, [], true, 0, none⟩
def THM_ROR_ACT_RATE : Field := fld cTHM 0x44 7 0 .rw 6
/-- `THM_ROR_HALT` (R472). -/
def THM_ROR_HALT_MAX : Field := ⟨cTHM, 0x48, 0x0, 1, 23, 16, .fus, 0, [], true, 0, none⟩
def THM_ROR_HALT_MIN : Field := ⟨cTHM, 0x48, 0x0, 1, 15, 8, .fus, 0, [], true, 0, none⟩
def THM_ROR_HALT_RATE : Field := fld cTHM 0x48 7 0 .rw 0xf
/-- `THM_CEIL` (R472). -/
def THM_CEIL_STOP_C : Field := fld cTHM 0x4c 15 8 .rw 0x64
def THM_CEIL_CEIL_C : Field := fld cTHM 0x4c 7 0 .fus 0x6e
/-- `THM_FAST` (R472). -/
def THM_FAST_STOP_WAIT : Field := ⟨cTHM, 0x50, 0x0, 1, 23, 8, .rw, 0x64, [], false, 1, none⟩
def THM_FAST_WIN : Field := ⟨cTHM, 0x50, 0x0, 1, 3, 0, .rw, 8, [], false, 1, none⟩
/-- `THM_RESTORE` (R472). -/
def THM_RESTORE : Field := ⟨cTHM, 0x54, 0x0, 1, 7, 0, .rw, 2, [], false, 1, none⟩
/-- `THM_STOP_DRAIN` (R472). -/
def THM_STOP_DRAIN : Field := fld cTHM 0x58 15 0 .rw 0xa
/-- `THM_LEVEL` (R472). -/
def THM_LEVEL : Field := fld cTHM 0x5c 31 0 .ro 0
/-- `THM_HALF_LEVEL` (R472). -/
def THM_HALF_LEVEL_EAST : Field := fld cTHM 0x60 3 2 .ro 0
def THM_HALF_LEVEL_WEST : Field := fld cTHM 0x60 1 0 .ro 0
/-- `THM_STOPPED` (R472). -/
def THM_STOPPED : Field := fld cTHM 0x64 15 0 .ro 0
/-- `THM_STOP_CLR` (R472). -/
def THM_STOP_CLR : Field := fld cTHM 0x68 15 0 .wo 0
/-- `THM_MAX` (R472). -/
def THM_MAX_COOLANT_C : Field := fld cTHM 0x6c 31 24 .ro 0
def THM_MAX_CANVAS_C : Field := fld cTHM 0x6c 23 16 .ro 0
def THM_MAX_STACK_C : Field := fld cTHM 0x6c 15 8 .ro 0
def THM_MAX_DIE_C : Field := fld cTHM 0x6c 7 0 .ro 0
/-- `THM_ROUND_CNT` (R472). -/
def THM_ROUND_CNT : Field := fld cTHM 0x70 31 0 .ro 0
/-- `THM_CH_IDX` (R472). -/
def THM_CH_IDX : Field := fld cTHM 0x74 9 0 .rw 0
/-- `THM_CH_VAL` (R472). -/
def THM_CH_VAL_STALE : Field := fld cTHM 0x78 31 31 .ro 0
def THM_CH_VAL_FAILED : Field := fld cTHM 0x78 30 30 .ro 0
def THM_CH_VAL_KIND : Field := fld cTHM 0x78 29 26 .ro 0
def THM_CH_VAL_VALUE : Field := fld cTHM 0x78 15 0 .ro 0

def fieldsTHM0 : List Field := [THM_ROR_WATCH_MAX, THM_ROR_WATCH_MIN, THM_ROR_WATCH_RATE, THM_ROR_ACT_MAX, THM_ROR_ACT_MIN, THM_ROR_ACT_RATE, THM_ROR_HALT_MAX, THM_ROR_HALT_MIN, THM_ROR_HALT_RATE, THM_CEIL_STOP_C, THM_CEIL_CEIL_C, THM_FAST_STOP_WAIT, THM_FAST_WIN, THM_RESTORE, THM_STOP_DRAIN, THM_LEVEL, THM_HALF_LEVEL_EAST, THM_HALF_LEVEL_WEST, THM_STOPPED, THM_STOP_CLR, THM_MAX_COOLANT_C, THM_MAX_CANVAS_C, THM_MAX_STACK_C, THM_MAX_DIE_C]
def fieldsTHM1 : List Field := [THM_ROUND_CNT, THM_CH_IDX, THM_CH_VAL_STALE, THM_CH_VAL_FAILED, THM_CH_VAL_KIND, THM_CH_VAL_VALUE]
def fieldsTHM : List Field := fieldsTHM0 ++ fieldsTHM1

/-! `CAL` block registers (14_power_thermal_calibration.md). -/

/-- `CAL_CTRL` (R474). -/
def CAL_CTRL_CLASSES : Field := fld cCAL 0x40 7 4 .rw 0xf
def CAL_CTRL_STANDING : Field := fld cCAL 0x40 1 1 .rw 1
def CAL_CTRL_EN : Field := fld cCAL 0x40 0 0 .rw 1
/-- `CAL_WIN_PERIOD` (R474). -/
def CAL_WIN_PERIOD : Field := ⟨cCAL, 0x44, 0x0, 1, 15, 0, .rw, 0x3e8, [], false, 1, none⟩
/-- `CAL_WIN` (R474). -/
def CAL_WIN_OFS : Field := fld cCAL 0x48 31 16 .rw 0x1f4
def CAL_WIN_LEN : Field := fld cCAL 0x48 15 0 .rw 0x28
/-- `CAL_MAX_AGE` (R474). -/
def CAL_MAX_AGE : Field := ⟨cCAL, 0x4c, 0x0, 1, 15, 0, .rw, 0x2710, [], false, 1, none⟩
/-- `CAL_FAIL_MAX` (R474). -/
def CAL_FAIL_MAX : Field := ⟨cCAL, 0x50, 0x0, 1, 3, 0, .rw, 3, [], false, 1, none⟩
/-- `CAL_STAT` (R474). -/
def CAL_STAT_STALE : Field := fld cCAL 0x54 31 16 .ro 0
def CAL_STAT_ACTIVE : Field := fld cCAL 0x54 15 8 .ro 0
def CAL_STAT_HELD : Field := fld cCAL 0x54 7 0 .ro 0
/-- `CAL_ACCEPT_CNT` (R474). -/
def CAL_ACCEPT_CNT : Field := fld cCAL 0x58 31 0 .ro 0
/-- `CAL_PLAUS_CNT` (R474). -/
def CAL_PLAUS_CNT : Field := fld cCAL 0x5c 31 0 .ro 0
/-- `CAL_FAIL_CNT` (R474). -/
def CAL_FAIL_CNT : Field := fld cCAL 0x60 31 0 .ro 0
/-- `CAL_ABANDON_CNT` (R474). -/
def CAL_ABANDON_CNT : Field := fld cCAL 0x64 31 0 .ro 0
/-- `CAL_LAST` (R474). -/
def CAL_LAST_RESULT : Field := fld cCAL 0x68 31 28 .ro 0
def CAL_LAST_CLASS : Field := fld cCAL 0x68 27 24 .ro 0
def CAL_LAST_SITE : Field := fld cCAL 0x68 23 20 .ro 0
def CAL_LAST_ITEM : Field := fld cCAL 0x68 19 0 .ro 0

def fieldsCAL0 : List Field := [CAL_CTRL_CLASSES, CAL_CTRL_STANDING, CAL_CTRL_EN, CAL_WIN_PERIOD, CAL_WIN_OFS, CAL_WIN_LEN, CAL_MAX_AGE, CAL_FAIL_MAX, CAL_STAT_STALE, CAL_STAT_ACTIVE, CAL_STAT_HELD, CAL_ACCEPT_CNT, CAL_PLAUS_CNT, CAL_FAIL_CNT, CAL_ABANDON_CNT, CAL_LAST_RESULT, CAL_LAST_CLASS, CAL_LAST_SITE, CAL_LAST_ITEM]
def fieldsCAL : List Field := fieldsCAL0

/-! `SEC` block registers (15_host_security.md). -/

/-- `SEC_PROV` (R506). -/
def SEC_PROV_KEY_REVOKED : Field := ⟨cSEC, 0x40, 0x0, 1, 23, 16, .fus, 0, [], true, 0, none⟩
def SEC_PROV_KEY_VALID : Field := ⟨cSEC, 0x40, 0x0, 1, 15, 8, .fus, 0, [], true, 0, none⟩
def SEC_PROV_DEBUG : Field := ⟨cSEC, 0x40, 0x0, 1, 5, 4, .fus, 0, [], true, 0, none⟩
def SEC_PROV_PROV_DONE : Field := fld cSEC 0x40 0 0 .fus 1
/-- `SEC_PROT_PF_RD, _PF_WR, _VF_RD, _VF_WR, _SB_RD, _SB_WR` (R506). -/
def SEC_PROT : Field := ⟨cSEC, 0x44, 0x4, 6, 31, 0, .fus, 0, [], true, 0, none⟩
/-- `SEC_SVN` (R506). -/
def SEC_SVN_RUNNING : Field := fld cSEC 0x5c 31 16 .ro 0
def SEC_SVN_FLOOR : Field := ⟨cSEC, 0x5c, 0x0, 1, 6, 0, .fus, 0, [], true, 0, none⟩
/-- `SEC_IMG_CTRL` (R506). -/
def SEC_IMG_CTRL_SVN_COMMIT : Field := fld cSEC 0x60 2 2 .wo 0
def SEC_IMG_CTRL_SLOT : Field := fld cSEC 0x60 1 1 .rw 0
def SEC_IMG_CTRL_VERIFY : Field := fld cSEC 0x60 0 0 .wo 0
/-- `SEC_IMG_STAT` (R506). -/
def SEC_IMG_STAT_RES1 : Field := fld cSEC 0x64 23 20 .ro 0
def SEC_IMG_STAT_RES0 : Field := fld cSEC 0x64 19 16 .ro 0
def SEC_IMG_STAT_BUSY : Field := fld cSEC 0x64 8 8 .ro 0
def SEC_IMG_STAT_IN_FORCE : Field := fld cSEC 0x64 0 0 .ro 0
/-- `SEC_DENY` (R506). -/
def SEC_DENY : Field := fld cSEC 0x68 31 0 .ro 0
/-- `SEC_DENY_LAST` (R506). -/
def SEC_DENY_LAST_KIND : Field := fld cSEC 0x6c 31 28 .ro 0
def SEC_DENY_LAST_VF : Field := fld cSEC 0x6c 27 24 .ro 0
def SEC_DENY_LAST_CLASS : Field := fld cSEC 0x6c 23 19 .ro 0
def SEC_DENY_LAST_INST : Field := fld cSEC 0x6c 18 8 .ro 0
/-- `SEC_DBG_NONCE_LO / _HI` (R506). -/
def SEC_DBG_NONCE : Field := ⟨cSEC, 0x70, 0x0, 1, 63, 0, .ro, 0, [], true, 0, none⟩
/-- `SEC_DBG_STAT` (R506). -/
def SEC_DBG_STAT : Field := fld cSEC 0x78 0 0 .ro 0

def fieldsSEC0 : List Field := [SEC_PROV_KEY_REVOKED, SEC_PROV_KEY_VALID, SEC_PROV_DEBUG, SEC_PROV_PROV_DONE, SEC_PROT, SEC_SVN_RUNNING, SEC_SVN_FLOOR, SEC_IMG_CTRL_SVN_COMMIT, SEC_IMG_CTRL_SLOT, SEC_IMG_CTRL_VERIFY, SEC_IMG_STAT_RES1, SEC_IMG_STAT_RES0, SEC_IMG_STAT_BUSY, SEC_IMG_STAT_IN_FORCE, SEC_DENY, SEC_DENY_LAST_KIND, SEC_DENY_LAST_VF, SEC_DENY_LAST_CLASS, SEC_DENY_LAST_INST, SEC_DBG_NONCE, SEC_DBG_STAT]
def fieldsSEC : List Field := fieldsSEC0

/-! `HST` block registers (15_host_security.md). -/

/-- `HST_LINK` (R504). -/
def HST_LINK_WIDTH : Field := fld cHST 0x40 11 8 .ro 0
def HST_LINK_SPEED : Field := fld cHST 0x40 7 4 .ro 0
def HST_LINK_STATE : Field := fld cHST 0x40 3 0 .ro 0
/-- `HST_ERR_LAST` (R504). -/
def HST_ERR_LAST_STATUS : Field := fld cHST 0x44 31 28 .ro 0
def HST_ERR_LAST_OFS : Field := fld cHST 0x44 27 0 .ro 0
/-- `HST_ERR_SRC` (R504). -/
def HST_ERR_SRC_BAR2 : Field := fld cHST 0x48 4 4 .ro 0
def HST_ERR_SRC_FUNC : Field := fld cHST 0x48 3 0 .ro 0
/-- `HST_DROP` (R504). -/
def HST_DROP : Field := fld cHST 0x4c 31 0 .ro 0
/-- `HST_SCAN0 to HST_SCAN7` (R504). -/
def HST_SCAN_SKIPPED : Field := ⟨cHST, 0x60, 0x4, 8, 31, 16, .ro, 0, [], false, 0, none⟩
def HST_SCAN_FAILED : Field := ⟨cHST, 0x60, 0x4, 8, 15, 0, .ro, 0, [], false, 0, none⟩
/-- `HST_CQ_LOST0 to HST_CQ_LOST7` (R504). -/
def HST_CQ_LOST : Field := ⟨cHST, 0x80, 0x4, 8, 31, 0, .ro, 0, [], false, 0, none⟩
/-- `HST_SQ_BASEn_LO / _HI` (R504). -/
def HST_SQ_BASE : Field := ⟨cHST, 0x100, 0x40, 8, 63, 0, .rw, 0, [], false, 0, none⟩
/-- `HST_SQ_CFGn` (R504). -/
def HST_SQ_CFG_EN : Field := ⟨cHST, 0x108, 0x40, 8, 31, 31, .rw, 0, [], false, 0, none⟩
def HST_SQ_CFG_FLR_RESET : Field := ⟨cHST, 0x108, 0x40, 8, 30, 30, .rw, 0, [], false, 0, none⟩
def HST_SQ_CFG_OWNER : Field := ⟨cHST, 0x108, 0x40, 8, 29, 29, .ro, 0, [], false, 0, none⟩
def HST_SQ_CFG_BATCH : Field := ⟨cHST, 0x108, 0x40, 8, 22, 16, .rw, 0x10, [], false, 1, some 64⟩
def HST_SQ_CFG_SIZE : Field := ⟨cHST, 0x108, 0x40, 8, 3, 0, .rw, 4, [], false, 4, some 12⟩
/-- `HST_SQ_STATn` (R504). -/
def HST_SQ_STAT_STATE : Field := ⟨cHST, 0x10c, 0x40, 8, 31, 30, .ro, 0, [], false, 0, none⟩
def HST_SQ_STAT_PHASE : Field := ⟨cHST, 0x10c, 0x40, 8, 29, 29, .ro, 1, [], false, 0, none⟩
def HST_SQ_STAT_INFLIGHT : Field := ⟨cHST, 0x10c, 0x40, 8, 28, 20, .ro, 0, [], false, 0, none⟩
def HST_SQ_STAT_HEAD : Field := ⟨cHST, 0x10c, 0x40, 8, 11, 0, .ro, 0, [], false, 0, none⟩
/-- `HST_CQ_BASEn_LO / _HI` (R504). -/
def HST_CQ_BASE : Field := ⟨cHST, 0x110, 0x40, 8, 63, 0, .rw, 0, [], false, 0, none⟩
/-- `HST_CQ_CFGn` (R504). -/
def HST_CQ_CFG : Field := ⟨cHST, 0x118, 0x40, 8, 3, 0, .rw, 4, [], false, 4, some 12⟩
/-- `HST_CQ_HEADn` (R504). -/
def HST_CQ_HEAD : Field := ⟨cHST, 0x11c, 0x40, 8, 15, 0, .rw, 0, [], false, 0, none⟩
/-- `HST_CQ_TAILn` (R504). -/
def HST_CQ_TAIL_HELD : Field := ⟨cHST, 0x120, 0x40, 8, 31, 16, .ro, 0, [], false, 0, none⟩
def HST_CQ_TAIL_CNT : Field := ⟨cHST, 0x120, 0x40, 8, 15, 0, .ro, 0, [], false, 0, none⟩
/-- `HST_MBX_PUSHn_LO / _HI` (R504). -/
def HST_MBX_PUSH : Field := ⟨cHST, 0x124, 0x40, 8, 63, 0, .rw, 0, [], false, 0, none⟩
/-- `HST_MBX_CFGn` (R504). -/
def HST_MBX_CFG_EN : Field := ⟨cHST, 0x12c, 0x40, 8, 31, 31, .rw, 0, [], false, 0, none⟩
def HST_MBX_CFG_SLOTS : Field := ⟨cHST, 0x12c, 0x40, 8, 27, 24, .rw, 0, [], false, 0, some 8⟩
def HST_MBX_CFG_STRIDE : Field := ⟨cHST, 0x12c, 0x40, 8, 23, 16, .rw, 1, [], false, 1, none⟩
def HST_MBX_CFG_SYNC : Field := ⟨cHST, 0x12c, 0x40, 8, 15, 0, .rw, 0, [], false, 0, none⟩
/-- `HST_MBX_OFSn` (R504). -/
def HST_MBX_OFS : Field := ⟨cHST, 0x130, 0x40, 8, 24, 6, .rw, 0, [], false, 0, none⟩
/-- `HST_MBX_CNTn` (R504). -/
def HST_MBX_CNT_OVERRUN : Field := ⟨cHST, 0x134, 0x40, 8, 31, 16, .ro, 0, [], false, 0, none⟩
def HST_MBX_CNT_PUSHED : Field := ⟨cHST, 0x134, 0x40, 8, 15, 0, .ro, 0, [], false, 0, none⟩
/-- `HST_W2_BASEn_LO / _HI` (R504). -/
def HST_W2_BASE : Field := ⟨cHST, 0x138, 0x40, 8, 63, 0, .rw, 0, [], false, 0, none⟩

def fieldsHST0 : List Field := [HST_LINK_WIDTH, HST_LINK_SPEED, HST_LINK_STATE, HST_ERR_LAST_STATUS, HST_ERR_LAST_OFS, HST_ERR_SRC_BAR2, HST_ERR_SRC_FUNC, HST_DROP, HST_SCAN_SKIPPED, HST_SCAN_FAILED, HST_CQ_LOST, HST_SQ_BASE, HST_SQ_CFG_EN, HST_SQ_CFG_FLR_RESET, HST_SQ_CFG_OWNER, HST_SQ_CFG_BATCH, HST_SQ_CFG_SIZE, HST_SQ_STAT_STATE, HST_SQ_STAT_PHASE, HST_SQ_STAT_INFLIGHT, HST_SQ_STAT_HEAD, HST_CQ_BASE, HST_CQ_CFG, HST_CQ_HEAD]
def fieldsHST1 : List Field := [HST_CQ_TAIL_HELD, HST_CQ_TAIL_CNT, HST_MBX_PUSH, HST_MBX_CFG_EN, HST_MBX_CFG_SLOTS, HST_MBX_CFG_STRIDE, HST_MBX_CFG_SYNC, HST_MBX_OFS, HST_MBX_CNT_OVERRUN, HST_MBX_CNT_PUSHED, HST_W2_BASE]
def fieldsHST : List Field := fieldsHST0 ++ fieldsHST1

/-! `ERR` block registers (16_errors_events.md). -/

/-- `ERR_CTRL` (R526). -/
def ERR_CTRL_CLEAR_CNT : Field := fld cERR 0x40 1 1 .wo 0
def ERR_CTRL_CLEAR : Field := fld cERR 0x40 0 0 .wo 0
/-- `ERR_STAT` (R526). -/
def ERR_STAT_LOST_DETAIL : Field := fld cERR 0x44 31 31 .w1c 0
def ERR_STAT_FIRST_VALID : Field := fld cERR 0x44 9 9 .ro 0
def ERR_STAT_USED : Field := fld cERR 0x44 7 0 .ro 0
/-- `ERR_SEQ` (R526). -/
def ERR_SEQ : Field := fld cERR 0x48 31 0 .ro 0
/-- `ERR_READ` (R526). -/
def ERR_READ : Field := fld cERR 0x4c 31 0 .rw 0
/-- `ERR_RD_IDX` (R526). -/
def ERR_RD_IDX : Field := fld cERR 0x50 7 0 .rw 0
/-- `ERR_RD_DATA0 to ERR_RD_DATA7` (R526). -/
def ERR_RD_DATA : Field := ⟨cERR, 0x54, 0x4, 8, 31, 0, .ro, 0, [], false, 0, none⟩
/-- `ERR_CNT0 to ERR_CNT15` (R526). -/
def ERR_CNT : Field := ⟨cERR, 0x80, 0x4, 16, 31, 0, .ro, 0, [], false, 0, none⟩
/-- `ERR_OVF0 to ERR_OVF15` (R526). -/
def ERR_OVF : Field := ⟨cERR, 0xc0, 0x4, 16, 31, 0, .ro, 0, [], false, 0, none⟩
/-- `ERR_PART_CNT0 to ERR_PART_CNT7` (R526). -/
def ERR_PART_CNT_OVF : Field := ⟨cERR, 0x100, 0x4, 8, 31, 16, .ro, 0, [], false, 0, none⟩
def ERR_PART_CNT_CNT : Field := ⟨cERR, 0x100, 0x4, 8, 15, 0, .ro, 0, [], false, 0, none⟩
/-- `ERR_PEND` (R526). -/
def ERR_PEND : Field := fld cERR 0x120 25 0 .ro 0
/-- `ERR_FIND` (R526). -/
def ERR_FIND_CLASS : Field := fld cERR 0x124 31 27 .rw 0
def ERR_FIND_START : Field := fld cERR 0x124 26 16 .rw 0
def ERR_FIND_FOUND : Field := fld cERR 0x124 15 15 .ro 0
def ERR_FIND_INST : Field := fld cERR 0x124 10 0 .ro 0
/-- `ERR_SB_MASK` (R526). -/
def ERR_SB_MASK : Field := fld cERR 0x128 25 0 .rw 0x66
/-- `ERR_MSIX_MOD` (R526). -/
def ERR_MSIX_MOD : Field := ⟨cERR, 0x12c, 0x0, 1, 15, 0, .rw, 1, [], false, 1, none⟩

def fieldsERR0 : List Field := [ERR_CTRL_CLEAR_CNT, ERR_CTRL_CLEAR, ERR_STAT_LOST_DETAIL, ERR_STAT_FIRST_VALID, ERR_STAT_USED, ERR_SEQ, ERR_READ, ERR_RD_IDX, ERR_RD_DATA, ERR_CNT, ERR_OVF, ERR_PART_CNT_OVF, ERR_PART_CNT_CNT, ERR_PEND, ERR_FIND_CLASS, ERR_FIND_START, ERR_FIND_FOUND, ERR_FIND_INST, ERR_SB_MASK, ERR_MSIX_MOD]
def fieldsERR : List Field := fieldsERR0

/-! `FUS` block registers (12_bring_up_repair_reset.md). -/

/-- `FUS_STAT` (R428). -/
def FUS_STAT_BUSY : Field := fld cFUS 0x40 31 31 .ro 0
def FUS_STAT_FIELD_USED : Field := fld cFUS 0x40 21 12 .ro 0
def FUS_STAT_FACTORY_USED : Field := fld cFUS 0x40 11 0 .ro 0
/-- `FUS_IDX` (R428). -/
def FUS_IDX_BANK : Field := fld cFUS 0x44 11 11 .rw 0
def FUS_IDX_ENTRY : Field := fld cFUS 0x44 10 0 .rw 0
/-- `FUS_DATA_LO / _HI` (R428). -/
def FUS_DATA : Field := fld cFUS 0x48 63 0 .ro 0
/-- `FUS_ADD_LO / _HI` (R428). -/
def FUS_ADD : Field := fld cFUS 0x50 63 0 .rw 0
/-- `FUS_CTRL` (R428). -/
def FUS_CTRL : Field := fld cFUS 0x58 0 0 .wo 0
/-- `FUS_SKIPPED` (R428). -/
def FUS_SKIPPED_FIELD : Field := fld cFUS 0x5c 31 16 .ro 0
def FUS_SKIPPED_FACTORY : Field := fld cFUS 0x5c 15 0 .ro 0
/-- `FUS_UNSAVED` (R428). -/
def FUS_UNSAVED : Field := fld cFUS 0x60 31 0 .ro 0
/-- `FUS_MAP_CRC` (R428). -/
def FUS_MAP_CRC : Field := fld cFUS 0x64 31 0 .ro 0

def fieldsFUS0 : List Field := [FUS_STAT_BUSY, FUS_STAT_FIELD_USED, FUS_STAT_FACTORY_USED, FUS_IDX_BANK, FUS_IDX_ENTRY, FUS_DATA, FUS_ADD, FUS_CTRL, FUS_SKIPPED_FIELD, FUS_SKIPPED_FACTORY, FUS_UNSAVED, FUS_MAP_CRC]
def fieldsFUS : List Field := fieldsFUS0

/-! `FAB` block registers (09_packets_routing.md, 10_memory_fabric.md). -/

/-- `FAB_CTRL` (R325). -/
def FAB_CTRL_COPY_ACTIVE : Field := fld cFAB 0x40 4 4 .wo 0
def FAB_CTRL_THROTTLE_EN : Field := fld cFAB 0x40 3 3 .rw 1
def FAB_CTRL_DEMAND_EN : Field := fld cFAB 0x40 2 2 .rw 1
def FAB_CTRL_CMAP_COPY_EN : Field := fld cFAB 0x40 1 1 .rw 0
def FAB_CTRL_EPOCH_ARM : Field := fld cFAB 0x40 0 0 .wo 0
/-- `FAB_EPOCH_STAT` (R325). -/
def FAB_EPOCH_STAT_V1 : Field := fld cFAB 0x44 7 6 .ro 0
def FAB_EPOCH_STAT_V0 : Field := fld cFAB 0x44 5 4 .ro 1
def FAB_EPOCH_STAT_ARMED : Field := fld cFAB 0x44 2 2 .ro 0
def FAB_EPOCH_STAT_CUR : Field := fld cFAB 0x44 0 0 .ro 0
/-- `FAB_EPOCH_AT_LO / _HI` (R325). -/
def FAB_EPOCH_AT : Field := fld cFAB 0x48 63 0 .rw 0
/-- `FAB_DRAIN0, FAB_DRAIN1` (R325). -/
def FAB_DRAIN : Field := ⟨cFAB, 0x50, 0x4, 2, 31, 0, .ro, 0, [], false, 0, none⟩
/-- `FAB_EPOCH_HOLD` (R325). -/
def FAB_EPOCH_HOLD : Field := ⟨cFAB, 0x58, 0x0, 1, 15, 0, .rw, 0x3e8, [], false, 1, none⟩
/-- `FAB_RT_IDX` (R325). -/
def FAB_RT_IDX_VER : Field := fld cFAB 0x5c 16 16 .rw 0
def FAB_RT_IDX_NODE : Field := fld cFAB 0x5c 13 0 .rw 0
/-- `FAB_RT_DATA` (R325). -/
def FAB_RT_DATA : Field := fld cFAB 0x60 31 0 .rw 0
/-- `FAB_HOP_MAX` (R325). -/
def FAB_HOP_MAX : Field := ⟨cFAB, 0x64, 0x0, 1, 3, 0, .rw, 8, [], false, 1, none⟩
/-- `FAB_MC_BASE_LO / _HI` (R325). -/
def FAB_MC_BASE : Field := fld cFAB 0x68 63 0 .rw 0
/-- `FAB_MC_CTRL` (R325). -/
def FAB_MC_CTRL_WAIT : Field := ⟨cFAB, 0x70, 0x0, 1, 23, 8, .rw, 0x64, [], false, 1, none⟩
def FAB_MC_CTRL_RETRY : Field := fld cFAB 0x70 7 0 .rw 8
/-- `FAB_MC_INVAL` (R325). -/
def FAB_MC_INVAL : Field := fld cFAB 0x74 11 0 .wo 0
/-- `FAB_CMAP_ADDR_LO / _HI` (R325). -/
def FAB_CMAP_ADDR : Field := fld cFAB 0x78 63 0 .rw 0
/-- `FAB_CMAP_SEQ` (R325). -/
def FAB_CMAP_SEQ : Field := fld cFAB 0x80 31 0 .ro 0
/-- `FAB_GRANT_POL` (R325). -/
def FAB_GRANT_POL_IDLE : Field := fld cFAB 0x84 23 20 .rw 4
def FAB_GRANT_POL_MAX : Field := fld cFAB 0x84 19 12 .rw 0x40
def FAB_GRANT_POL_THR_KIB : Field := fld cFAB 0x84 11 0 .rw 0x40
/-- `FAB_THR_RATE` (R325). -/
def FAB_THR_RATE : Field := fld cFAB 0x88 15 0 .rw 0x10
/-- `FAB_MALFORMED` (R325). -/
def FAB_MALFORMED : Field := fld cFAB 0x8c 31 0 .ro 0
/-- `FAB_EPOCH_LATE` (R325). -/
def FAB_EPOCH_LATE : Field := fld cFAB 0x90 31 0 .ro 0
/-- `FAB_HOP_DROP` (R325). -/
def FAB_HOP_DROP : Field := fld cFAB 0x94 31 0 .ro 0
/-- `FAB_MC_FAIL` (R325). -/
def FAB_MC_FAIL : Field := fld cFAB 0x98 31 0 .ro 0
/-- `FAB_EVT_SITE` (R325). -/
def FAB_EVT_SITE : Field := fld cFAB 0x9c 3 0 .ro 0
/-- `FAB_NODE` (R364). -/
def FAB_NODE_NODE_SET : Field := fld cFAB 0x100 14 14 .ro 0
def FAB_NODE_NODE : Field := fld cFAB 0x100 13 0 .rws 0
/-- `FAB_TMO_CANVAS` (R364). -/
def FAB_TMO_CANVAS : Field := ⟨cFAB, 0x104, 0x0, 1, 9, 0, .rw, 0x14, [], false, 1, some 1000⟩
/-- `FAB_TMO_BOARD` (R364). -/
def FAB_TMO_BOARD : Field := ⟨cFAB, 0x108, 0x0, 1, 9, 0, .rw, 0x64, [], false, 1, some 1000⟩
/-- `FAB_TMO_STAGE` (R364). -/
def FAB_TMO_STAGE : Field := ⟨cFAB, 0x10c, 0x0, 1, 9, 0, .rw, 0x64, [], false, 0, some 1000⟩
/-- `FAB_RETRY` (R364). -/
def FAB_RETRY : Field := fld cFAB 0x110 1 0 .rw 3
/-- `FAB_DEDUP` (R364). -/
def FAB_DEDUP : Field := ⟨cFAB, 0x114, 0x0, 1, 11, 0, .rw, 0x44c, [], false, 1001, none⟩
/-- `FAB_XPART0` (R364). -/
def FAB_XPART0 : Field := fld cFAB 0x118 31 0 .rws 0x8040201
/-- `FAB_XPART1` (R364). -/
def FAB_XPART1 : Field := fld cFAB 0x11c 31 0 .rws 0x80402010
/-- `FAB_TMO_CNT` (R364). -/
def FAB_TMO_CNT : Field := fld cFAB 0x120 31 0 .ro 0
/-- `FAB_INDET_CNT` (R364). -/
def FAB_INDET_CNT : Field := fld cFAB 0x124 31 0 .ro 0
/-- `FAB_LATE_ANS` (R364). -/
def FAB_LATE_ANS : Field := fld cFAB 0x128 31 0 .ro 0
/-- `FAB_RST_AT_LO / _HI` (R364). -/
def FAB_RST_AT : Field := fld cFAB 0x12c 63 0 .rw 0
/-- `FAB_RST_CTRL` (R364). -/
def FAB_RST_CTRL_ARMED : Field := fld cFAB 0x134 2 2 .ro 0
def FAB_RST_CTRL_CANCEL : Field := fld cFAB 0x134 1 1 .wo 0
def FAB_RST_CTRL_NOTICE : Field := fld cFAB 0x134 0 0 .wo 0
/-- `FAB_DENY` (R364). -/
def FAB_DENY : Field := fld cFAB 0x138 31 0 .ro 0

def fieldsFAB0 : List Field := [FAB_CTRL_COPY_ACTIVE, FAB_CTRL_THROTTLE_EN, FAB_CTRL_DEMAND_EN, FAB_CTRL_CMAP_COPY_EN, FAB_CTRL_EPOCH_ARM, FAB_EPOCH_STAT_V1, FAB_EPOCH_STAT_V0, FAB_EPOCH_STAT_ARMED, FAB_EPOCH_STAT_CUR, FAB_EPOCH_AT, FAB_DRAIN, FAB_EPOCH_HOLD, FAB_RT_IDX_VER, FAB_RT_IDX_NODE, FAB_RT_DATA, FAB_HOP_MAX, FAB_MC_BASE, FAB_MC_CTRL_WAIT, FAB_MC_CTRL_RETRY, FAB_MC_INVAL, FAB_CMAP_ADDR, FAB_CMAP_SEQ, FAB_GRANT_POL_IDLE, FAB_GRANT_POL_MAX]
def fieldsFAB1 : List Field := [FAB_GRANT_POL_THR_KIB, FAB_THR_RATE, FAB_MALFORMED, FAB_EPOCH_LATE, FAB_HOP_DROP, FAB_MC_FAIL, FAB_EVT_SITE, FAB_NODE_NODE_SET, FAB_NODE_NODE, FAB_TMO_CANVAS, FAB_TMO_BOARD, FAB_TMO_STAGE, FAB_RETRY, FAB_DEDUP, FAB_XPART0, FAB_XPART1, FAB_TMO_CNT, FAB_INDET_CNT, FAB_LATE_ANS, FAB_RST_AT, FAB_RST_CTRL_ARMED, FAB_RST_CTRL_CANCEL, FAB_RST_CTRL_NOTICE, FAB_DENY]
def fieldsFAB : List Field := fieldsFAB0 ++ fieldsFAB1

/-! `PRT` block registers (08_canvas_photonics.md, 09_packets_routing.md, 10_memory_fabric.md). -/

/-- `PRT_GRANT_CTRL` (R285). -/
def PRT_GRANT_CTRL_RELEASE : Field := fld cPRT 0x40 1 1 .wo 0
def PRT_GRANT_CTRL_GRANT : Field := fld cPRT 0x40 0 0 .wo 0
/-- `PRT_GRANT_DESC_LO / _HI` (R285). -/
def PRT_GRANT_DESC : Field := fld cPRT 0x44 63 0 .rw 0
/-- `PRT_GRANT_STAT` (R285). -/
def PRT_GRANT_STAT_EFFECT : Field := fld cPRT 0x4c 31 16 .ro 0
def PRT_GRANT_STAT_BUSY : Field := fld cPRT 0x4c 4 4 .ro 0
def PRT_GRANT_STAT_RESULT : Field := fld cPRT 0x4c 3 0 .ro 0
/-- `PRT_REFUSE_LAST` (R285). -/
def PRT_REFUSE_LAST_RESULT : Field := fld cPRT 0x50 31 28 .ro 0
def PRT_REFUSE_LAST_ENTRY : Field := fld cPRT 0x50 27 16 .ro 0
def PRT_REFUSE_LAST_PEER : Field := fld cPRT 0x50 15 12 .ro 0
def PRT_REFUSE_LAST_LAMBDA : Field := fld cPRT 0x50 11 6 .ro 0
def PRT_REFUSE_LAST_LANE : Field := fld cPRT 0x50 5 0 .ro 0
/-- `PRT_RINGS` (R285). -/
def PRT_RINGS_RX_USED : Field := fld cPRT 0x54 24 16 .ro 0
def PRT_RINGS_TX_USED : Field := fld cPRT 0x54 8 0 .ro 0
/-- `PRT_RINGS_FAILED` (R285). -/
def PRT_RINGS_FAILED_RX_FAILED : Field := fld cPRT 0x58 24 16 .ro 0
def PRT_RINGS_FAILED_TX_FAILED : Field := fld cPRT 0x58 8 0 .ro 0
/-- `PRT_GRANT_LATE` (R285). -/
def PRT_GRANT_LATE : Field := fld cPRT 0x5c 31 0 .ro 0
/-- `PRT_GRANT_REFUSED` (R285). -/
def PRT_GRANT_REFUSED : Field := fld cPRT 0x60 31 0 .ro 0
/-- `PRT_MISLOCK` (R285). -/
def PRT_MISLOCK : Field := fld cPRT 0x64 31 0 .ro 0
/-- `PRT_MISLOCK_LAST` (R285). -/
def PRT_MISLOCK_LAST_CAUSE : Field := fld cPRT 0x68 31 30 .ro 0
def PRT_MISLOCK_LAST_DIR : Field := fld cPRT 0x68 29 29 .ro 0
def PRT_MISLOCK_LAST_LAMBDA : Field := fld cPRT 0x68 27 22 .ro 0
def PRT_MISLOCK_LAST_LANE : Field := fld cPRT 0x68 21 16 .ro 0
def PRT_MISLOCK_LAST_TEMPO : Field := fld cPRT 0x68 15 0 .ro 0
/-- `PRT_HEAT_RATE` (R285). -/
def PRT_HEAT_RATE_PEAK : Field := fld cPRT 0x6c 31 16 .ro 0
def PRT_HEAT_RATE_RATE : Field := fld cPRT 0x6c 15 0 .ro 0
/-- `PRT_CAL_CTRL` (R285). -/
def PRT_CAL_CTRL_EN : Field := fld cPRT 0x70 16 16 .rw 1
def PRT_CAL_CTRL_MAX_AGE : Field := ⟨cPRT, 0x70, 0x0, 1, 15, 0, .rw, 0x3e8, [], false, 1, none⟩
/-- `PRT_CAL_STAT` (R285). -/
def PRT_CAL_STAT_STALE : Field := fld cPRT 0x74 31 16 .ro 0
def PRT_CAL_STAT_ACTIVE : Field := fld cPRT 0x74 15 15 .ro 0
def PRT_CAL_STAT_DIR : Field := fld cPRT 0x74 8 8 .ro 0
def PRT_CAL_STAT_RING : Field := fld cPRT 0x74 7 0 .ro 0
/-- `PRT_WINDOW` (R285). -/
def PRT_WINDOW : Field := ⟨cPRT, 0x78, 0x0, 1, 15, 0, .rw, 0xf0, [], false, 1, none⟩
/-- `PRT_PARK` (R285). -/
def PRT_PARK : Field := fld cPRT 0x7c 0 0 .ro 0
/-- `PRT_REFUSE_SRC` (R285). -/
def PRT_REFUSE_SRC : Field := fld cPRT 0x80 1 0 .ro 0
/-- `PRT_XT_TX0 to PRT_XT_TX11` (R285). -/
def PRT_XT_TX : Field := ⟨cPRT, 0x200, 0x4, 12, 31, 0, .rw, 0, [], true, 0, none⟩
/-- `PRT_XT_RX0 to PRT_XT_RX11` (R285). -/
def PRT_XT_RX : Field := ⟨cPRT, 0x240, 0x4, 12, 31, 0, .rw, 0, [], true, 0, none⟩
/-- `PRT_RING_TX0 to PRT_RING_TX255` (R285). -/
def PRT_RING_TX_HEATER : Field := ⟨cPRT, 0x400, 0x4, 256, 31, 16, .ro, 0, [], false, 0, none⟩
def PRT_RING_TX_PEER : Field := ⟨cPRT, 0x400, 0x4, 256, 15, 12, .ro, 0, [], false, 0, none⟩
def PRT_RING_TX_LAMBDA : Field := ⟨cPRT, 0x400, 0x4, 256, 11, 6, .ro, 0, [], false, 0, none⟩
def PRT_RING_TX_STATE : Field := ⟨cPRT, 0x400, 0x4, 256, 2, 0, .ro, 0, [], false, 0, none⟩
/-- `PRT_RING_RX0 to PRT_RING_RX255` (R285). -/
def PRT_RING_RX_HEATER : Field := ⟨cPRT, 0x800, 0x4, 256, 31, 16, .ro, 0, [], false, 0, none⟩
def PRT_RING_RX_PEER : Field := ⟨cPRT, 0x800, 0x4, 256, 15, 12, .ro, 0, [], false, 0, none⟩
def PRT_RING_RX_LAMBDA : Field := ⟨cPRT, 0x800, 0x4, 256, 11, 6, .ro, 0, [], false, 0, none⟩
def PRT_RING_RX_STATE : Field := ⟨cPRT, 0x800, 0x4, 256, 2, 0, .ro, 0, [], false, 0, none⟩
/-- `PRT_PKT_TX_LO / _HI` (R327). -/
def PRT_PKT_TX : Field := fld cPRT 0xc00 63 0 .ro 0
/-- `PRT_PKT_RX_LO / _HI` (R327). -/
def PRT_PKT_RX : Field := fld cPRT 0xc08 63 0 .ro 0
/-- `PRT_PKT_REPLAY` (R327). -/
def PRT_PKT_REPLAY : Field := fld cPRT 0xc10 31 0 .ro 0
/-- `PRT_PKT_DUP` (R327). -/
def PRT_PKT_DUP : Field := fld cPRT 0xc14 31 0 .ro 0
/-- `PRT_PKT_NAK` (R327). -/
def PRT_PKT_NAK : Field := fld cPRT 0xc18 31 0 .ro 0
/-- `PRT_CREDIT_STALL` (R327). -/
def PRT_CREDIT_STALL : Field := fld cPRT 0xc1c 31 0 .ro 0
/-- `PRT_POOL` (R327). -/
def PRT_POOL_PEAK : Field := fld cPRT 0xc20 31 16 .ro 0
def PRT_POOL_USED : Field := fld cPRT 0xc20 15 0 .ro 0
/-- `PRT_NOCIRC` (R327). -/
def PRT_NOCIRC : Field := fld cPRT 0xc24 15 0 .ro 0
/-- `PRT_THROTTLE` (R327). -/
def PRT_THROTTLE : Field := fld cPRT 0xc28 15 0 .ro 0
/-- `PRT_TAG` (R365). -/
def PRT_TAG_PEAK : Field := fld cPRT 0xd00 28 16 .ro 0
def PRT_TAG_USED : Field := fld cPRT 0xd00 12 0 .ro 0
/-- `PRT_TAG_WAIT` (R365). -/
def PRT_TAG_WAIT : Field := fld cPRT 0xd04 31 0 .ro 0
/-- `PRT_CPY_IDX` (R365). -/
def PRT_CPY_IDX : Field := fld cPRT 0xd08 9 0 .rw 0
/-- `PRT_CPY_DATA` (R365). -/
def PRT_CPY_DATA : Field := fld cPRT 0xd0c 31 0 .wo 0
/-- `PRT_CPY_STAT` (R365). -/
def PRT_CPY_STAT_LAST : Field := fld cPRT 0xd10 31 28 .ro 0
def PRT_CPY_STAT_IDX : Field := fld cPRT 0xd10 25 16 .ro 0
def PRT_CPY_STAT_ACTIVE : Field := fld cPRT 0xd10 4 0 .ro 0
/-- `PRT_CPY_FAIL` (R365). -/
def PRT_CPY_FAIL : Field := fld cPRT 0xd14 31 0 .ro 0
/-- `PRT_DEDUP` (R365). -/
def PRT_DEDUP_PEAK : Field := fld cPRT 0xd18 31 16 .ro 0
def PRT_DEDUP_USED : Field := fld cPRT 0xd18 15 0 .ro 0
/-- `PRT_DEDUP_HIT` (R365). -/
def PRT_DEDUP_HIT : Field := fld cPRT 0xd1c 31 0 .ro 0
/-- `PRT_DEDUP_FULL` (R365). -/
def PRT_DEDUP_FULL : Field := fld cPRT 0xd20 31 0 .ro 0
/-- `PRT_SHADOW` (R365). -/
def PRT_SHADOW_POLLS : Field := fld cPRT 0xd24 31 16 .ro 0
def PRT_SHADOW_USED : Field := fld cPRT 0xd24 10 0 .ro 0
/-- `PRT_COMBINED` (R365). -/
def PRT_COMBINED : Field := fld cPRT 0xd28 31 0 .ro 0

def fieldsPRT0 : List Field := [PRT_GRANT_CTRL_RELEASE, PRT_GRANT_CTRL_GRANT, PRT_GRANT_DESC, PRT_GRANT_STAT_EFFECT, PRT_GRANT_STAT_BUSY, PRT_GRANT_STAT_RESULT, PRT_REFUSE_LAST_RESULT, PRT_REFUSE_LAST_ENTRY, PRT_REFUSE_LAST_PEER, PRT_REFUSE_LAST_LAMBDA, PRT_REFUSE_LAST_LANE, PRT_RINGS_RX_USED, PRT_RINGS_TX_USED, PRT_RINGS_FAILED_RX_FAILED, PRT_RINGS_FAILED_TX_FAILED, PRT_GRANT_LATE, PRT_GRANT_REFUSED, PRT_MISLOCK, PRT_MISLOCK_LAST_CAUSE, PRT_MISLOCK_LAST_DIR, PRT_MISLOCK_LAST_LAMBDA, PRT_MISLOCK_LAST_LANE, PRT_MISLOCK_LAST_TEMPO, PRT_HEAT_RATE_PEAK]
def fieldsPRT1 : List Field := [PRT_HEAT_RATE_RATE, PRT_CAL_CTRL_EN, PRT_CAL_CTRL_MAX_AGE, PRT_CAL_STAT_STALE, PRT_CAL_STAT_ACTIVE, PRT_CAL_STAT_DIR, PRT_CAL_STAT_RING, PRT_WINDOW, PRT_PARK, PRT_REFUSE_SRC, PRT_XT_TX, PRT_XT_RX, PRT_RING_TX_HEATER, PRT_RING_TX_PEER, PRT_RING_TX_LAMBDA, PRT_RING_TX_STATE, PRT_RING_RX_HEATER, PRT_RING_RX_PEER, PRT_RING_RX_LAMBDA, PRT_RING_RX_STATE, PRT_PKT_TX, PRT_PKT_RX, PRT_PKT_REPLAY, PRT_PKT_DUP]
def fieldsPRT2 : List Field := [PRT_PKT_NAK, PRT_CREDIT_STALL, PRT_POOL_PEAK, PRT_POOL_USED, PRT_NOCIRC, PRT_THROTTLE, PRT_TAG_PEAK, PRT_TAG_USED, PRT_TAG_WAIT, PRT_CPY_IDX, PRT_CPY_DATA, PRT_CPY_STAT_LAST, PRT_CPY_STAT_IDX, PRT_CPY_STAT_ACTIVE, PRT_CPY_FAIL, PRT_DEDUP_PEAK, PRT_DEDUP_USED, PRT_DEDUP_HIT, PRT_DEDUP_FULL, PRT_SHADOW_POLLS, PRT_SHADOW_USED, PRT_COMBINED]
def fieldsPRT : List Field := fieldsPRT0 ++ fieldsPRT1 ++ fieldsPRT2

/-! `LAN` block registers (08_canvas_photonics.md). -/

/-- `LAN_STAT` (R287). -/
def LAN_STAT_FREE : Field := fld cLAN 0x40 22 16 .ro 0
def LAN_STAT_SOURCE : Field := fld cLAN 0x40 10 8 .ro 7
def LAN_STAT_LIT : Field := fld cLAN 0x40 0 0 .ro 0
/-- `LAN_PIN_LO / _HI` (R287). -/
def LAN_PIN : Field := fld cLAN 0x44 63 0 .rw 0
/-- `LAN_LOST_LO / _HI` (R287). -/
def LAN_LOST : Field := fld cLAN 0x4c 63 0 .ro 0
/-- `LAN_SUBST` (R287). -/
def LAN_SUBST_FOR63 : Field := fld cLAN 0x54 13 8 .ro 0x3f
def LAN_SUBST_FOR62 : Field := fld cLAN 0x54 5 0 .ro 0x3f
/-- `LAN_FEC_CE` (R287). -/
def LAN_FEC_CE : Field := fld cLAN 0x58 31 0 .ro 0
/-- `LAN_CRC_UE` (R287). -/
def LAN_CRC_UE : Field := fld cLAN 0x5c 31 0 .ro 0
/-- `LAN_OCC0 to LAN_OCC63` (R287). -/
def LAN_OCC_EFFECT : Field := ⟨cLAN, 0x100, 0x4, 64, 31, 16, .ro, 0, [], false, 0, none⟩
def LAN_OCC_REL_PEND : Field := ⟨cLAN, 0x100, 0x4, 64, 15, 15, .ro, 0, [], false, 0, none⟩
def LAN_OCC_DST : Field := ⟨cLAN, 0x100, 0x4, 64, 11, 8, .ro, 0, [], false, 0, none⟩
def LAN_OCC_SRC : Field := ⟨cLAN, 0x100, 0x4, 64, 7, 4, .ro, 0, [], false, 0, none⟩
def LAN_OCC_STATE : Field := ⟨cLAN, 0x100, 0x4, 64, 2, 0, .ro, 0, [], false, 0, none⟩

def fieldsLAN0 : List Field := [LAN_STAT_FREE, LAN_STAT_SOURCE, LAN_STAT_LIT, LAN_PIN, LAN_LOST, LAN_SUBST_FOR63, LAN_SUBST_FOR62, LAN_FEC_CE, LAN_CRC_UE, LAN_OCC_EFFECT, LAN_OCC_REL_PEND, LAN_OCC_DST, LAN_OCC_SRC, LAN_OCC_STATE]
def fieldsLAN : List Field := fieldsLAN0

/-! `SYN` block registers (10_memory_fabric.md). -/

/-- `SYN_IDX` (R366). -/
def SYN_IDX : Field := fld cSYN 0x40 8 0 .rw 0
/-- `SYN_VAL_LO / _HI` (R366). -/
def SYN_VAL : Field := fld cSYN 0x44 63 0 .rw 0
/-- `SYN_ADD_LO / _HI` (R366). -/
def SYN_ADD : Field := fld cSYN 0x4c 63 0 .wo 0
/-- `SYN_THR_LO / _HI` (R366). -/
def SYN_THR : Field := fld cSYN 0x54 63 0 .rw 0
/-- `SYN_CFG` (R366). -/
def SYN_CFG_SUBS : Field := fld cSYN 0x5c 31 16 .ro 0
def SYN_CFG_REACHED : Field := fld cSYN 0x5c 1 1 .ro 0
def SYN_CFG_THR_EVT : Field := fld cSYN 0x5c 0 0 .rw 0
/-- `SYN_THR_LAST` (R366). -/
def SYN_THR_LAST : Field := fld cSYN 0x60 8 0 .ro 0

def fieldsSYN0 : List Field := [SYN_IDX, SYN_VAL, SYN_ADD, SYN_THR, SYN_CFG_SUBS, SYN_CFG_REACHED, SYN_CFG_THR_EVT, SYN_THR_LAST]
def fieldsSYN : List Field := fieldsSYN0

/-! `VLK` block registers (10_memory_fabric.md). -/

/-- `VLK_CTRL` (R368). -/
def VLK_CTRL_DOWN : Field := fld cVLK 0x40 4 4 .wo 0
def VLK_CTRL_RETRAIN : Field := fld cVLK 0x40 3 3 .wo 0
def VLK_CTRL_ACCEPT : Field := fld cVLK 0x40 2 2 .wo 0
def VLK_CTRL_AUTO : Field := fld cVLK 0x40 1 1 .rw 1
def VLK_CTRL_EN : Field := fld cVLK 0x40 0 0 .rw 1
/-- `VLK_STAT` (R368). -/
def VLK_STAT_RX_LAMBDAS : Field := fld cVLK 0x44 20 16 .ro 0
def VLK_STAT_TX_LAMBDAS : Field := fld cVLK 0x44 12 8 .ro 0
def VLK_STAT_STATE : Field := fld cVLK 0x44 3 0 .ro 0
/-- `VLK_CFG` (R368). -/
def VLK_CFG_ADMIT : Field := fld cVLK 0x48 23 16 .rw 0
def VLK_CFG_STAGES : Field := fld cVLK 0x48 11 8 .rw 0
def VLK_CFG_MIN_LAMBDA : Field := ⟨cVLK, 0x48, 0x0, 1, 4, 0, .rw, 8, [], false, 8, some 16⟩
/-- `VLK_EXPECT` (R368). -/
def VLK_EXPECT_EN : Field := fld cVLK 0x4c 14 14 .rw 0
def VLK_EXPECT_NODE : Field := fld cVLK 0x4c 13 0 .rw 0
/-- `VLK_PEER` (R368). -/
def VLK_PEER_NODE_OK : Field := fld cVLK 0x50 22 22 .ro 0
def VLK_PEER_TYPE : Field := fld cVLK 0x50 21 20 .ro 0
def VLK_PEER_PORT : Field := fld cVLK 0x50 17 14 .ro 0
def VLK_PEER_NODE : Field := fld cVLK 0x50 13 0 .ro 0
/-- `VLK_PEER_SERIAL_LO / _HI` (R368). -/
def VLK_PEER_SERIAL : Field := fld cVLK 0x54 63 0 .ro 0
/-- `VLK_LMAP_TX` (R368). -/
def VLK_LMAP_TX : Field := fld cVLK 0x5c 17 0 .ro 0
/-- `VLK_LMAP_RX` (R368). -/
def VLK_LMAP_RX : Field := fld cVLK 0x60 17 0 .ro 0
/-- `VLK_LFAIL` (R368). -/
def VLK_LFAIL : Field := fld cVLK 0x64 17 0 .ro 0
/-- `VLK_LAMBDA_THR` (R368). -/
def VLK_LAMBDA_THR : Field := ⟨cVLK, 0x68, 0x0, 1, 15, 0, .rw, 0x40, [], false, 1, none⟩
/-- `VLK_RX_POWER` (R368). -/
def VLK_RX_POWER_MEAN_UW : Field := fld cVLK 0x6c 31 16 .ro 0
def VLK_RX_POWER_MIN_UW : Field := fld cVLK 0x6c 15 0 .ro 0
/-- `VLK_PKT_TX_LO / _HI` (R368). -/
def VLK_PKT_TX : Field := fld cVLK 0x70 63 0 .ro 0
/-- `VLK_PKT_RX_LO / _HI` (R368). -/
def VLK_PKT_RX : Field := fld cVLK 0x78 63 0 .ro 0
/-- `VLK_FEC_CE` (R368). -/
def VLK_FEC_CE : Field := fld cVLK 0x80 31 0 .ro 0
/-- `VLK_CRC_UE` (R368). -/
def VLK_CRC_UE : Field := fld cVLK 0x84 31 0 .ro 0
/-- `VLK_REPLAY` (R368). -/
def VLK_REPLAY : Field := fld cVLK 0x88 31 0 .ro 0
/-- `VLK_DUP` (R368). -/
def VLK_DUP : Field := fld cVLK 0x8c 31 0 .ro 0
/-- `VLK_CREDIT_STALL` (R368). -/
def VLK_CREDIT_STALL : Field := fld cVLK 0x90 31 0 .ro 0
/-- `VLK_PEER_RESET_LO / _HI` (R368). -/
def VLK_PEER_RESET : Field := fld cVLK 0x94 63 0 .ro 0
/-- `VLK_ATTACH_CNT` (R368). -/
def VLK_ATTACH_CNT : Field := fld cVLK 0x9c 31 0 .ro 0

def fieldsVLK0 : List Field := [VLK_CTRL_DOWN, VLK_CTRL_RETRAIN, VLK_CTRL_ACCEPT, VLK_CTRL_AUTO, VLK_CTRL_EN, VLK_STAT_RX_LAMBDAS, VLK_STAT_TX_LAMBDAS, VLK_STAT_STATE, VLK_CFG_ADMIT, VLK_CFG_STAGES, VLK_CFG_MIN_LAMBDA, VLK_EXPECT_EN, VLK_EXPECT_NODE, VLK_PEER_NODE_OK, VLK_PEER_TYPE, VLK_PEER_PORT, VLK_PEER_NODE, VLK_PEER_SERIAL, VLK_LMAP_TX, VLK_LMAP_RX, VLK_LFAIL, VLK_LAMBDA_THR, VLK_RX_POWER_MEAN_UW, VLK_RX_POWER_MIN_UW]
def fieldsVLK1 : List Field := [VLK_PKT_TX, VLK_PKT_RX, VLK_FEC_CE, VLK_CRC_UE, VLK_REPLAY, VLK_DUP, VLK_CREDIT_STALL, VLK_PEER_RESET, VLK_ATTACH_CNT]
def fieldsVLK : List Field := fieldsVLK0 ++ fieldsVLK1

/-! `LSR` block registers (08_canvas_photonics.md). -/

/-- `LSR_CTRL` (R289). -/
def LSR_CTRL_EN : Field := fld cLSR 0x40 7 7 .rw 1
def LSR_CTRL_TAKE : Field := fld cLSR 0x40 6 4 .rw 7
def LSR_CTRL_ARM : Field := fld cLSR 0x40 0 0 .wo 0
/-- `LSR_STAT` (R289). -/
def LSR_STAT_FEED : Field := fld cLSR 0x44 6 4 .ro 7
def LSR_STAT_LOCK : Field := fld cLSR 0x44 3 3 .ro 0
def LSR_STAT_STATE : Field := fld cLSR 0x44 2 0 .ro 0
/-- `LSR_SWITCH_AT_LO / _HI` (R289). -/
def LSR_SWITCH_AT : Field := fld cLSR 0x48 63 0 .rw 0
/-- `LSR_POWER` (R289). -/
def LSR_POWER_MIN_UW : Field := fld cLSR 0x50 31 16 .ro 0
def LSR_POWER_MEAN_UW : Field := fld cLSR 0x50 15 0 .ro 0
/-- `LSR_POWER_THR` (R289). -/
def LSR_POWER_THR : Field := fld cLSR 0x54 15 0 .rw 0x96
/-- `LSR_LINE_FAIL_LO / _HI` (R289). -/
def LSR_LINE_FAIL : Field := fld cLSR 0x58 63 0 .ro 0
/-- `LSR_HOURS` (R289). -/
def LSR_HOURS : Field := fld cLSR 0x60 31 0 .ro 0
/-- `LSR_DRIVE` (R289). -/
def LSR_DRIVE : Field := fld cLSR 0x64 15 0 .ro 0

def fieldsLSR0 : List Field := [LSR_CTRL_EN, LSR_CTRL_TAKE, LSR_CTRL_ARM, LSR_STAT_FEED, LSR_STAT_LOCK, LSR_STAT_STATE, LSR_SWITCH_AT, LSR_POWER_MIN_UW, LSR_POWER_MEAN_UW, LSR_POWER_THR, LSR_LINE_FAIL, LSR_HOURS, LSR_DRIVE]
def fieldsLSR : List Field := fieldsLSR0

/-! `SEA` block registers (17_register_pages.md). -/

/-- `SEA_STAT` (R548). -/
def SEA_STAT_SPARES : Field := fld cSEA 0x40 24 16 .ro 0x100
def SEA_STAT_CTRL_EW : Field := fld cSEA 0x40 11 8 .ro 8
def SEA_STAT_CTRL_WE : Field := fld cSEA 0x40 7 4 .ro 8
/-- `SEA_SYNC` (R548). -/
def SEA_SYNC_LOST : Field := fld cSEA 0x44 31 16 .ro 0
def SEA_SYNC_SINGLE : Field := fld cSEA 0x44 8 0 .ro 0
/-- `SEA_THR` (R548). -/
def SEA_THR : Field := ⟨cSEA, 0x48, 0x0, 1, 7, 0, .rw, 8, [], false, 1, none⟩
/-- `SEA_MAP_IDX` (R548). -/
def SEA_MAP_IDX : Field := fld cSEA 0x4c 10 0 .rw 0
/-- `SEA_MAP_DATA` (R548). -/
def SEA_MAP_DATA_STATE : Field := fld cSEA 0x50 31 30 .ro 0
def SEA_MAP_DATA_PEER_VALID : Field := fld cSEA 0x50 11 11 .ro 0
def SEA_MAP_DATA_PEER : Field := fld cSEA 0x50 10 0 .ro 0
/-- `SEA_CE` (R548). -/
def SEA_CE : Field := fld cSEA 0x54 31 0 .ro 0
/-- `SEA_UE` (R548). -/
def SEA_UE : Field := fld cSEA 0x58 31 0 .ro 0
/-- `SEA_HELD` (R548). -/
def SEA_HELD : Field := fld cSEA 0x5c 31 0 .ro 0

def fieldsSEA0 : List Field := [SEA_STAT_SPARES, SEA_STAT_CTRL_EW, SEA_STAT_CTRL_WE, SEA_SYNC_LOST, SEA_SYNC_SINGLE, SEA_THR, SEA_MAP_IDX, SEA_MAP_DATA_STATE, SEA_MAP_DATA_PEER_VALID, SEA_MAP_DATA_PEER, SEA_CE, SEA_UE, SEA_HELD]
def fieldsSEA : List Field := fieldsSEA0

/-! `CDI` block registers (04_engines_cores_clusters.md). -/

/-- `CDI_CLK` (R152). -/
def CDI_CLK_CAUSE : Field := fld cCDI 0x40 9 8 .ro 0
def CDI_CLK_RATIO : Field := fld cCDI 0x40 1 0 .ro 0
/-- `CDI_CORE_CNT` (R152). -/
def CDI_CORE_CNT_SPARES : Field := fld cCDI 0x44 23 16 .ro 0
def CDI_CORE_CNT_RUNNING : Field := fld cCDI 0x44 15 8 .ro 0
def CDI_CORE_CNT_CORES : Field := fld cCDI 0x44 7 0 .ro 0
/-- `CDI_NET_CE` (R152). -/
def CDI_NET_CE : Field := fld cCDI 0x48 31 0 .ro 0
/-- `CDI_NET_UE` (R152). -/
def CDI_NET_UE : Field := fld cCDI 0x4c 31 0 .ro 0
/-- `CDI_LINK_FAIL` (R152). -/
def CDI_LINK_FAIL : Field := fld cCDI 0x50 31 0 .ro 0
/-- `CDI_LINK_FAIL_X` (R152). -/
def CDI_LINK_FAIL_X : Field := fld cCDI 0x54 15 0 .ro 0
/-- `CDI_HUB_FAIL` (R152). -/
def CDI_HUB_FAIL : Field := fld cCDI 0x58 31 0 .ro 0

def fieldsCDI0 : List Field := [CDI_CLK_CAUSE, CDI_CLK_RATIO, CDI_CORE_CNT_SPARES, CDI_CORE_CNT_RUNNING, CDI_CORE_CNT_CORES, CDI_NET_CE, CDI_NET_UE, CDI_LINK_FAIL, CDI_LINK_FAIL_X, CDI_HUB_FAIL]
def fieldsCDI : List Field := fieldsCDI0

/-! `CLU` block registers (04_engines_cores_clusters.md, 06_scratchpads.md). -/

/-- `CLU_ROW_MAP0 to CLU_ROW_MAP3` (R154). -/
def CLU_ROW_MAP_ABSENT : Field := ⟨cCLU, 0x40, 0x4, 4, 24, 16, .ro, 0, [], false, 0, none⟩
def CLU_ROW_MAP_SPARE_OK : Field := ⟨cCLU, 0x40, 0x4, 4, 4, 4, .ro, 0, [], false, 0, none⟩
def CLU_ROW_MAP_SPARE_FOR : Field := ⟨cCLU, 0x40, 0x4, 4, 3, 0, .ro, 0xf, [], false, 0, none⟩
/-- `CLU_ROW_STATE0 to CLU_ROW_STATE3` (R154). -/
def CLU_ROW_STATE : Field := ⟨cCLU, 0x50, 0x4, 4, 29, 0, .ro, 0, [], false, 0, none⟩
/-- `CLU_WAKE_DROP` (R154). -/
def CLU_WAKE_DROP : Field := fld cCLU 0x60 31 0 .ro 0
/-- `CLU_BANK_SET0 to CLU_BANK_SET31` (R214). -/
def CLU_BANK_SET_GO : Field := ⟨cCLU, 0x100, 0x8, 32, 31, 31, .wo, 0, [], false, 0, none⟩
def CLU_BANK_SET_PWR : Field := ⟨cCLU, 0x100, 0x8, 32, 25, 24, .rw, 0, [], false, 0, none⟩
def CLU_BANK_SET_ROT : Field := ⟨cCLU, 0x100, 0x8, 32, 23, 18, .rw, 0, [], false, 0, none⟩
def CLU_BANK_SET_INBOUND : Field := ⟨cCLU, 0x100, 0x8, 32, 17, 16, .rw, 0, [], false, 0, none⟩
def CLU_BANK_SET_CLASS : Field := ⟨cCLU, 0x100, 0x8, 32, 14, 12, .rw, 4, [], false, 0, none⟩
def CLU_BANK_SET_ID : Field := ⟨cCLU, 0x100, 0x8, 32, 11, 0, .rw, 0, [], false, 0, none⟩
/-- `CLU_BANK_STAT0 to CLU_BANK_STAT31` (R214). -/
def CLU_BANK_STAT_LAST : Field := ⟨cCLU, 0x104, 0x8, 32, 31, 30, .ro, 0, [], false, 0, none⟩
def CLU_BANK_STAT_STATE : Field := ⟨cCLU, 0x104, 0x8, 32, 29, 28, .ro, 0, [], false, 0, none⟩
def CLU_BANK_STAT_PWR : Field := ⟨cCLU, 0x104, 0x8, 32, 25, 24, .ro, 0, [], false, 0, none⟩
def CLU_BANK_STAT_ROT : Field := ⟨cCLU, 0x104, 0x8, 32, 23, 18, .ro, 0, [], false, 0, none⟩
def CLU_BANK_STAT_INBOUND : Field := ⟨cCLU, 0x104, 0x8, 32, 17, 16, .ro, 0, [], false, 0, none⟩
def CLU_BANK_STAT_CLASS : Field := ⟨cCLU, 0x104, 0x8, 32, 14, 12, .ro, 4, [], false, 0, none⟩
def CLU_BANK_STAT_ID : Field := ⟨cCLU, 0x104, 0x8, 32, 11, 0, .ro, 0, [], false, 0, none⟩
/-- `CLU_LC_CTRL` (R214). -/
def CLU_LC_CTRL_APPLY : Field := fld cCLU 0x200 31 31 .wo 0
def CLU_LC_CTRL_SIZE : Field := fld cCLU 0x200 1 0 .rw 0
/-- `CLU_LC_STAT` (R214). -/
def CLU_LC_STAT_DIRTY : Field := fld cCLU 0x204 31 16 .ro 0
def CLU_LC_STAT_STATE : Field := fld cCLU 0x204 3 2 .ro 0
def CLU_LC_STAT_SIZE : Field := fld cCLU 0x204 1 0 .ro 0
/-- `CLU_HO_TMO` (R214). -/
def CLU_HO_TMO : Field := fld cCLU 0x208 15 0 .rw 0x64
/-- `CLU_DENY` (R214). -/
def CLU_DENY_VALID : Field := fld cCLU 0x20c 31 31 .w1c 0
def CLU_DENY_CLASS : Field := fld cCLU 0x20c 30 28 .ro 0
def CLU_DENY_BANK : Field := fld cCLU 0x20c 27 23 .ro 0
def CLU_DENY_SCOPE : Field := fld cCLU 0x20c 22 22 .ro 0
def CLU_DENY_ID : Field := fld cCLU 0x20c 21 10 .ro 0
def CLU_DENY_REASON : Field := fld cCLU 0x20c 9 6 .ro 0
/-- `CLU_LC_HIT_LO / CLU_LC_HIT_HI` (R214). -/
def CLU_LC_HIT : Field := fld cCLU 0x210 63 0 .ro 0
/-- `CLU_LC_MISS_LO / CLU_LC_MISS_HI` (R214). -/
def CLU_LC_MISS : Field := fld cCLU 0x218 63 0 .ro 0
/-- `CLU_LC_RECALL` (R214). -/
def CLU_LC_RECALL : Field := fld cCLU 0x220 31 0 .ro 0
/-- `CLU_LC_LOST` (R214). -/
def CLU_LC_LOST : Field := fld cCLU 0x224 31 0 .ro 0
/-- `CLU_ECC_CE` (R214). -/
def CLU_ECC_CE : Field := fld cCLU 0x228 31 0 .ro 0
/-- `CLU_ECC_UE` (R214). -/
def CLU_ECC_UE : Field := fld cCLU 0x22c 31 0 .ro 0

def fieldsCLU0 : List Field := [CLU_ROW_MAP_ABSENT, CLU_ROW_MAP_SPARE_OK, CLU_ROW_MAP_SPARE_FOR, CLU_ROW_STATE, CLU_WAKE_DROP, CLU_BANK_SET_GO, CLU_BANK_SET_PWR, CLU_BANK_SET_ROT, CLU_BANK_SET_INBOUND, CLU_BANK_SET_CLASS, CLU_BANK_SET_ID, CLU_BANK_STAT_LAST, CLU_BANK_STAT_STATE, CLU_BANK_STAT_PWR, CLU_BANK_STAT_ROT, CLU_BANK_STAT_INBOUND, CLU_BANK_STAT_CLASS, CLU_BANK_STAT_ID, CLU_LC_CTRL_APPLY, CLU_LC_CTRL_SIZE, CLU_LC_STAT_DIRTY, CLU_LC_STAT_STATE, CLU_LC_STAT_SIZE, CLU_HO_TMO]
def fieldsCLU1 : List Field := [CLU_DENY_VALID, CLU_DENY_CLASS, CLU_DENY_BANK, CLU_DENY_SCOPE, CLU_DENY_ID, CLU_DENY_REASON, CLU_LC_HIT, CLU_LC_MISS, CLU_LC_RECALL, CLU_LC_LOST, CLU_ECC_CE, CLU_ECC_UE]
def fieldsCLU : List Field := fieldsCLU0 ++ fieldsCLU1

/-! `COR` block registers (04_engines_cores_clusters.md, 06_scratchpads.md). -/

/-- `COR_MAP` (R156). -/
def COR_MAP_HOLDS : Field := fld cCOR 0x40 12 12 .ro 0
def COR_MAP_LID : Field := fld cCOR 0x40 11 0 .ro 0
/-- `COR_CTRL` (R156). -/
def COR_CTRL_PWR_REQ : Field := fld cCOR 0x44 5 4 .rw 0
def COR_CTRL_RESET : Field := fld cCOR 0x44 3 3 .wo 0
def COR_CTRL_CLR_FAULT : Field := fld cCOR 0x44 2 2 .wo 0
def COR_CTRL_HALT : Field := fld cCOR 0x44 1 1 .wo 0
def COR_CTRL_RUN : Field := fld cCOR 0x44 0 0 .wo 0
/-- `COR_STAT` (R156). -/
def COR_STAT_WAKE_PEND : Field := fld cCOR 0x48 3 3 .ro 0
def COR_STAT_STATE : Field := fld cCOR 0x48 2 0 .ro 0
/-- `COR_ENTRY` (R156). -/
def COR_ENTRY : Field := fld cCOR 0x4c 24 3 .rw 0
/-- `COR_PC` (R156). -/
def COR_PC : Field := fld cCOR 0x50 24 3 .ro 0
/-- `COR_FAULT` (R156). -/
def COR_FAULT_DETAIL : Field := fld cCOR 0x54 21 16 .ro 0
def COR_FAULT_UNIT : Field := fld cCOR 0x54 11 8 .ro 0
def COR_FAULT_CODE : Field := fld cCOR 0x54 7 0 .ro 0
/-- `COR_FAULT_PC_LO / COR_FAULT_PC_HI` (R156). -/
def COR_FAULT_PC : Field := fld cCOR 0x58 63 0 .ro 0
/-- `COR_ASW` (R156). -/
def COR_ASW : Field := fld cCOR 0x60 31 0 .ro 0
/-- `COR_WAKE_DROP` (R156). -/
def COR_WAKE_DROP : Field := fld cCOR 0x64 31 0 .ro 0
/-- `COR_ENG_STAT` (R156). -/
def COR_ENG_STAT_FAILED : Field := fld cCOR 0x68 7 4 .ro 0
def COR_ENG_STAT_ROWSPARE : Field := fld cCOR 0x68 3 0 .ro 0
/-- `COR_CB_VALID_E0_LO / _HI to COR_CB_VALID_E3_LO / _HI` (R156). -/
def COR_CB_VALID : Field := ⟨cCOR, 0x70, 0x8, 4, 63, 0, .ro, 0, [], false, 0, none⟩
/-- `COR_RETIRED_LO / COR_RETIRED_HI` (R156). -/
def COR_RETIRED : Field := fld cCOR 0x90 63 0 .ro 0
/-- `COR_TILE_CLK_LO / COR_TILE_CLK_HI` (R156). -/
def COR_TILE_CLK : Field := fld cCOR 0x98 63 0 .ro 0
/-- `COR_BANK_SET0 to COR_BANK_SET7` (R213). -/
def COR_BANK_SET_GO : Field := ⟨cCOR, 0x100, 0x8, 8, 31, 31, .wo, 0, [], false, 0, none⟩
def COR_BANK_SET_PWR : Field := ⟨cCOR, 0x100, 0x8, 8, 25, 24, .rw, 0, [], false, 0, none⟩
def COR_BANK_SET_ROT : Field := ⟨cCOR, 0x100, 0x8, 8, 23, 18, .rw, 0, [], false, 0, none⟩
def COR_BANK_SET_INBOUND : Field := ⟨cCOR, 0x100, 0x8, 8, 17, 16, .rw, 3, [], false, 0, none⟩
def COR_BANK_SET_CLASS : Field := ⟨cCOR, 0x100, 0x8, 8, 14, 12, .rw, 1, [], false, 0, none⟩
/-- `COR_BANK_STAT0 to COR_BANK_STAT7` (R213). -/
def COR_BANK_STAT_LAST : Field := ⟨cCOR, 0x104, 0x8, 8, 31, 30, .ro, 0, [], false, 0, none⟩
def COR_BANK_STAT_STATE : Field := ⟨cCOR, 0x104, 0x8, 8, 29, 28, .ro, 0, [], false, 0, none⟩
def COR_BANK_STAT_PWR : Field := ⟨cCOR, 0x104, 0x8, 8, 25, 24, .ro, 0, [], false, 0, none⟩
def COR_BANK_STAT_ROT : Field := ⟨cCOR, 0x104, 0x8, 8, 23, 18, .ro, 0, [], false, 0, none⟩
def COR_BANK_STAT_INBOUND : Field := ⟨cCOR, 0x104, 0x8, 8, 17, 16, .ro, 3, [], false, 0, none⟩
def COR_BANK_STAT_CLASS : Field := ⟨cCOR, 0x104, 0x8, 8, 14, 12, .ro, 1, [], false, 0, none⟩

def fieldsCOR0 : List Field := [COR_MAP_HOLDS, COR_MAP_LID, COR_CTRL_PWR_REQ, COR_CTRL_RESET, COR_CTRL_CLR_FAULT, COR_CTRL_HALT, COR_CTRL_RUN, COR_STAT_WAKE_PEND, COR_STAT_STATE, COR_ENTRY, COR_PC, COR_FAULT_DETAIL, COR_FAULT_UNIT, COR_FAULT_CODE, COR_FAULT_PC, COR_ASW, COR_WAKE_DROP, COR_ENG_STAT_FAILED, COR_ENG_STAT_ROWSPARE, COR_CB_VALID, COR_RETIRED, COR_TILE_CLK, COR_BANK_SET_GO, COR_BANK_SET_PWR]
def fieldsCOR1 : List Field := [COR_BANK_SET_ROT, COR_BANK_SET_INBOUND, COR_BANK_SET_CLASS, COR_BANK_STAT_LAST, COR_BANK_STAT_STATE, COR_BANK_STAT_PWR, COR_BANK_STAT_ROT, COR_BANK_STAT_INBOUND, COR_BANK_STAT_CLASS]
def fieldsCOR : List Field := fieldsCOR0 ++ fieldsCOR1

/-! `SMP` block registers (11_gambit_sampler.md). -/

/-- `SMP_CTRL` (R396). -/
def SMP_CTRL_N_EXT : Field := fld cSMP 0x40 23 20 .rw 0
def SMP_CTRL_SET : Field := fld cSMP 0x40 19 12 .rw 0
def SMP_CTRL_EXT_IN : Field := fld cSMP 0x40 11 11 .rw 0
def SMP_CTRL_EXT_OUT : Field := fld cSMP 0x40 10 10 .rw 0
def SMP_CTRL_MODE : Field := fld cSMP 0x40 9 8 .rw 0
def SMP_CTRL_ABORT : Field := fld cSMP 0x40 2 2 .wo 0
def SMP_CTRL_DISARM : Field := fld cSMP 0x40 1 1 .wo 0
def SMP_CTRL_ARM : Field := fld cSMP 0x40 0 0 .wo 0
/-- `SMP_STAT` (R396). -/
def SMP_STAT_LAST : Field := fld cSMP 0x44 15 12 .ro 0
def SMP_STAT_PENDING : Field := fld cSMP 0x44 7 7 .ro 0
def SMP_STAT_STATE : Field := fld cSMP 0x44 2 0 .ro 0
/-- `SMP_LOGIT_LO / _HI` (R396). -/
def SMP_LOGIT : Field := fld cSMP 0x48 63 0 .rw 0
/-- `SMP_ROW_STRIDE` (R396). -/
def SMP_ROW_STRIDE : Field := fld cSMP 0x50 31 0 .rw 0
/-- `SMP_SLICE_BASE` (R396). -/
def SMP_SLICE_BASE : Field := fld cSMP 0x54 17 0 .rw 0
/-- `SMP_SLICE_CNT` (R396). -/
def SMP_SLICE_CNT_FMT : Field := fld cSMP 0x58 31 31 .rw 0
def SMP_SLICE_CNT_CNT : Field := fld cSMP 0x58 18 0 .rw 0
/-- `SMP_TEMP` (R396). -/
def SMP_TEMP : Field := fld cSMP 0x5c 31 0 .rw 0x3f800000
/-- `SMP_TOPK` (R396). -/
def SMP_TOPK : Field := fld cSMP 0x60 10 0 .rw 0x400
/-- `SMP_TOPP` (R396). -/
def SMP_TOPP : Field := fld cSMP 0x64 31 0 .rw 0x3f800000
/-- `SMP_REP_PEN` (R396). -/
def SMP_REP_PEN : Field := fld cSMP 0x68 31 0 .rw 0x3f800000
/-- `SMP_HIST_LO / _HI` (R396). -/
def SMP_HIST : Field := fld cSMP 0x6c 63 0 .rw 0
/-- `SMP_HIST_LEN` (R396). -/
def SMP_HIST_LEN_HEAD : Field := fld cSMP 0x74 27 16 .ro 0
def SMP_HIST_LEN_LEN : Field := fld cSMP 0x74 12 0 .rw 0
/-- `SMP_START` (R396). -/
def SMP_START_STRIDE : Field := ⟨cSMP, 0x78, 0x0, 1, 31, 16, .rw, 1, [], false, 1, none⟩
def SMP_START_SYNC : Field := fld cSMP 0x78 15 0 .rw 0
/-- `SMP_DONE` (R396). -/
def SMP_DONE_EN : Field := fld cSMP 0x7c 16 16 .rw 0
def SMP_DONE_SYNC : Field := fld cSMP 0x7c 15 0 .rw 0
/-- `SMP_RES_LO / _HI` (R396). -/
def SMP_RES : Field := fld cSMP 0x80 63 0 .rw 0
/-- `SMP_EXT_LO / _HI` (R396). -/
def SMP_EXT : Field := fld cSMP 0x88 63 0 .rw 0
/-- `SMP_EXT_SYNC` (R396). -/
def SMP_EXT_SYNC : Field := fld cSMP 0x90 15 0 .rw 0
/-- `SMP_RNG` (R396). -/
def SMP_RNG : Field := fld cSMP 0x94 0 0 .rw 0
/-- `SMP_SEED_LO / _HI` (R396). -/
def SMP_SEED : Field := fld cSMP 0x98 63 0 .rw 0
/-- `SMP_RUNS_LO / _HI` (R396). -/
def SMP_RUNS : Field := fld cSMP 0xa0 63 0 .ro 0
/-- `SMP_LAST` (R396). -/
def SMP_LAST : Field := fld cSMP 0xa8 17 0 .ro 0
/-- `SMP_LAST_TIME` (R396). -/
def SMP_LAST_TIME : Field := fld cSMP 0xac 15 0 .ro 0
/-- `SMP_NAN_CNT` (R396). -/
def SMP_NAN_CNT : Field := fld cSMP 0xb0 31 0 .ro 0
/-- `SMP_RES_RING` (R396). -/
def SMP_RES_RING : Field := ⟨cSMP, 0xb4, 0x0, 1, 3, 0, .rw, 0, [], false, 0, some 8⟩
/-- `SMP_SCAN_RING_LO / _HI` (R396). -/
def SMP_SCAN_RING : Field := fld cSMP 0xc0 63 0 .rw 0
/-- `SMP_SCAN_BLK` (R396). -/
def SMP_SCAN_BLK_BLOCKS : Field := fld cSMP 0xc8 23 16 .rw 0
def SMP_SCAN_BLK_ENTRIES : Field := fld cSMP 0xc8 15 0 .rw 0
/-- `SMP_SCAN_IDB_LO / _HI` (R396). -/
def SMP_SCAN_IDB : Field := fld cSMP 0xcc 39 0 .rw 0
/-- `SMP_SCAN_TOTAL_LO / _HI` (R396). -/
def SMP_SCAN_TOTAL : Field := fld cSMP 0xd4 63 0 .rw 0

def fieldsSMP0 : List Field := [SMP_CTRL_N_EXT, SMP_CTRL_SET, SMP_CTRL_EXT_IN, SMP_CTRL_EXT_OUT, SMP_CTRL_MODE, SMP_CTRL_ABORT, SMP_CTRL_DISARM, SMP_CTRL_ARM, SMP_STAT_LAST, SMP_STAT_PENDING, SMP_STAT_STATE, SMP_LOGIT, SMP_ROW_STRIDE, SMP_SLICE_BASE, SMP_SLICE_CNT_FMT, SMP_SLICE_CNT_CNT, SMP_TEMP, SMP_TOPK, SMP_TOPP, SMP_REP_PEN, SMP_HIST, SMP_HIST_LEN_HEAD, SMP_HIST_LEN_LEN, SMP_START_STRIDE]
def fieldsSMP1 : List Field := [SMP_START_SYNC, SMP_DONE_EN, SMP_DONE_SYNC, SMP_RES, SMP_EXT, SMP_EXT_SYNC, SMP_RNG, SMP_SEED, SMP_RUNS, SMP_LAST, SMP_LAST_TIME, SMP_NAN_CNT, SMP_RES_RING, SMP_SCAN_RING, SMP_SCAN_BLK_BLOCKS, SMP_SCAN_BLK_ENTRIES, SMP_SCAN_IDB, SMP_SCAN_TOTAL]
def fieldsSMP : List Field := fieldsSMP0 ++ fieldsSMP1

/-! `GMB` block registers (11_gambit_sampler.md). -/

/-- `GMB_RNG_CTRL` (R398). -/
def GMB_RNG_CTRL : Field := fld cGMB 0x40 0 0 .wo 0
/-- `GMB_RNG_STAT` (R398). -/
def GMB_RNG_STAT_FAILS : Field := fld cGMB 0x44 31 16 .ro 0
def GMB_RNG_STAT_ENTROPY_OK : Field := fld cGMB 0x44 0 0 .ro 0
/-- `GMB_RNG_RESEEDS_LO / _HI` (R398). -/
def GMB_RNG_RESEEDS : Field := fld cGMB 0x48 63 0 .ro 0
/-- `GMB_KV_DENY` (R398). -/
def GMB_KV_DENY : Field := fld cGMB 0x50 31 0 .ro 0
/-- `GMB_CTXc_CTRL` (R398). -/
def GMB_CTX_CTRL_LEAD : Field := ⟨cGMB, 0x100, 0x40, 8, 10, 8, .rw, 0, [], false, 0, none⟩
def GMB_CTX_CTRL_CLEAR : Field := ⟨cGMB, 0x100, 0x40, 8, 2, 2, .wo, 0, [], false, 0, none⟩
def GMB_CTX_CTRL_ABORT : Field := ⟨cGMB, 0x100, 0x40, 8, 1, 1, .wo, 0, [], false, 0, none⟩
def GMB_CTX_CTRL_EN : Field := ⟨cGMB, 0x100, 0x40, 8, 0, 0, .rw, 0, [], false, 0, none⟩
/-- `GMB_CTXc_STAT` (R398). -/
def GMB_CTX_STAT_BRANCH : Field := ⟨cGMB, 0x104, 0x40, 8, 14, 13, .ro, 0, [], false, 0, none⟩
def GMB_CTX_STAT_A : Field := ⟨cGMB, 0x104, 0x40, 8, 12, 8, .ro, 0, [], false, 0, none⟩
def GMB_CTX_STAT_LAST : Field := ⟨cGMB, 0x104, 0x40, 8, 7, 4, .ro, 0, [], false, 0, none⟩
def GMB_CTX_STAT_STATE : Field := ⟨cGMB, 0x104, 0x40, 8, 2, 0, .ro, 0, [], false, 0, none⟩
/-- `GMB_CTXc_START` (R398). -/
def GMB_CTX_START_STRIDE : Field := ⟨cGMB, 0x108, 0x40, 8, 31, 16, .rw, 1, [], false, 1, none⟩
def GMB_CTX_START_SYNC : Field := ⟨cGMB, 0x108, 0x40, 8, 15, 0, .rw, 0, [], false, 0, none⟩
/-- `GMB_CTXc_DONE` (R398). -/
def GMB_CTX_DONE : Field := ⟨cGMB, 0x10c, 0x40, 8, 15, 0, .rw, 0, [], false, 0, none⟩
/-- `GMB_CTXc_DESC_LO / _HI` (R398). -/
def GMB_CTX_DESC : Field := ⟨cGMB, 0x110, 0x40, 8, 63, 0, .rw, 0, [], false, 0, none⟩
/-- `GMB_CTXc_RES_LO / _HI` (R398). -/
def GMB_CTX_RES : Field := ⟨cGMB, 0x118, 0x40, 8, 63, 0, .rw, 0, [], false, 0, none⟩
/-- `GMB_CTXc_KV_BASE_LO / _HI` (R398). -/
def GMB_CTX_KV_BASE : Field := ⟨cGMB, 0x120, 0x40, 8, 63, 0, .rw, 0, [], false, 0, none⟩
/-- `GMB_CTXc_KV_GEOM` (R398). -/
def GMB_CTX_KV_GEOM_STACKS : Field := ⟨cGMB, 0x128, 0x40, 8, 31, 24, .rw, 0, [], false, 0, none⟩
def GMB_CTX_KV_GEOM_SEGS : Field := ⟨cGMB, 0x128, 0x40, 8, 23, 16, .rw, 0, [], false, 0, none⟩
def GMB_CTX_KV_GEOM_SEG_PAGES : Field := ⟨cGMB, 0x128, 0x40, 8, 15, 5, .rw, 1, [], false, 1, none⟩
def GMB_CTX_KV_GEOM_POS_SHIFT : Field := ⟨cGMB, 0x128, 0x40, 8, 4, 0, .rw, 8, [], false, 6, some 16⟩
/-- `GMB_CTXc_SIDE_LO / _HI` (R398). -/
def GMB_CTX_SIDE : Field := ⟨cGMB, 0x12c, 0x40, 8, 63, 0, .rw, 0, [], false, 0, none⟩
/-- `GMB_CTXc_COMMIT` (R398). -/
def GMB_CTX_COMMIT : Field := ⟨cGMB, 0x134, 0x40, 8, 31, 0, .rw, 0, [], false, 0, none⟩
/-- `GMB_CTXc_ROUNDS` (R398). -/
def GMB_CTX_ROUNDS : Field := ⟨cGMB, 0x138, 0x40, 8, 31, 0, .ro, 0, [], false, 0, none⟩
/-- `GMB_CTXc_ACCEPTED` (R398). -/
def GMB_CTX_ACCEPTED : Field := ⟨cGMB, 0x13c, 0x40, 8, 31, 0, .ro, 0, [], false, 0, none⟩

def fieldsGMB0 : List Field := [GMB_RNG_CTRL, GMB_RNG_STAT_FAILS, GMB_RNG_STAT_ENTROPY_OK, GMB_RNG_RESEEDS, GMB_KV_DENY, GMB_CTX_CTRL_LEAD, GMB_CTX_CTRL_CLEAR, GMB_CTX_CTRL_ABORT, GMB_CTX_CTRL_EN, GMB_CTX_STAT_BRANCH, GMB_CTX_STAT_A, GMB_CTX_STAT_LAST, GMB_CTX_STAT_STATE, GMB_CTX_START_STRIDE, GMB_CTX_START_SYNC, GMB_CTX_DONE, GMB_CTX_DESC, GMB_CTX_RES, GMB_CTX_KV_BASE, GMB_CTX_KV_GEOM_STACKS, GMB_CTX_KV_GEOM_SEGS, GMB_CTX_KV_GEOM_SEG_PAGES, GMB_CTX_KV_GEOM_POS_SHIFT, GMB_CTX_SIDE]
def fieldsGMB1 : List Field := [GMB_CTX_COMMIT, GMB_CTX_ROUNDS, GMB_CTX_ACCEPTED]
def fieldsGMB : List Field := fieldsGMB0 ++ fieldsGMB1

/-! `MST` block registers (07_memory_stacks.md). -/

/-- `MST_CTRL` (R245). -/
def MST_CTRL_SCRUB_EN : Field := fld cMST 0x40 1 1 .rw 1
def MST_CTRL_RESET : Field := fld cMST 0x40 0 0 .wo 0
/-- `MST_STAT` (R245). -/
def MST_STAT_PHASE : Field := fld cMST 0x44 19 16 .ro 6
def MST_STAT_SPARE_FOR : Field := fld cMST 0x44 15 12 .ro 0xf
/-- `MST_RESERVE` (R245). -/
def MST_RESERVE_USED : Field := fld cMST 0x48 31 22 .ro 0
def MST_RESERVE_ACTIVE : Field := fld cMST 0x48 21 12 .ro 0
def MST_RESERVE_GRANULES : Field := ⟨cMST, 0x48, 0x0, 1, 9, 0, .rw, 0x30, [], false, 0, some 768⟩
/-- `MST_CAP` (R245). -/
def MST_CAP_LOST : Field := fld cMST 0x4c 25 16 .ro 0
def MST_CAP_MIB : Field := fld cMST 0x4c 15 0 .ro 0
/-- `MST_EVAC` (R245). -/
def MST_EVAC_ACTIVE : Field := fld cMST 0x50 31 31 .ro 0
def MST_EVAC_KIND : Field := fld cMST 0x50 30 28 .ro 0
def MST_EVAC_QUEUED : Field := fld cMST 0x50 27 20 .ro 0
def MST_EVAC_CHAN : Field := fld cMST 0x50 19 12 .ro 0
def MST_EVAC_PROGRESS : Field := fld cMST 0x50 11 4 .ro 0
def MST_EVAC_SHARE : Field := fld cMST 0x50 1 0 .rw 2
/-- `MST_REFRESH` (R245). -/
def MST_REFRESH_FAST : Field := fld cMST 0x54 8 8 .ro 0
def MST_REFRESH_THR_C : Field := ⟨cMST, 0x54, 0x0, 1, 7, 0, .rw, 0x55, [], false, 0, some 95⟩
/-- `MST_SCRUB` (R245). -/
def MST_SCRUB : Field := ⟨cMST, 0x58, 0x0, 1, 15, 0, .rw, 0x18, [], false, 1, none⟩
/-- `MST_REP_THR` (R245). -/
def MST_REP_THR_LANE_CE : Field := ⟨cMST, 0x5c, 0x0, 1, 31, 16, .rw, 0x10, [], false, 1, none⟩
def MST_REP_THR_ROW_CE : Field := ⟨cMST, 0x5c, 0x0, 1, 7, 0, .rw, 4, [], false, 1, none⟩
/-- `MST_ECC_CE` (R245). -/
def MST_ECC_CE : Field := fld cMST 0x60 31 0 .ro 0
/-- `MST_ECC_UE` (R245). -/
def MST_ECC_UE : Field := fld cMST 0x64 31 0 .ro 0
/-- `MST_DIR_EVICT_LO / MST_DIR_EVICT_HI` (R245). -/
def MST_DIR_EVICT : Field := fld cMST 0x68 63 0 .ro 0
/-- `MST_RST_RETRY` (R245). -/
def MST_RST_RETRY : Field := fld cMST 0x70 15 0 .ro 0
/-- `MST_RST_CNT` (R245). -/
def MST_RST_CNT : Field := fld cMST 0x74 31 0 .ro 0
/-- `MST_LOST_BASE_LO / MST_LOST_BASE_HI` (R245). -/
def MST_LOST_BASE : Field := fld cMST 0x78 63 0 .ro 0xffffffffffffffff
/-- `MST_TEMP` (R245). -/
def MST_TEMP : Field := fld cMST 0x80 7 0 .ro 0

def fieldsMST0 : List Field := [MST_CTRL_SCRUB_EN, MST_CTRL_RESET, MST_STAT_PHASE, MST_STAT_SPARE_FOR, MST_RESERVE_USED, MST_RESERVE_ACTIVE, MST_RESERVE_GRANULES, MST_CAP_LOST, MST_CAP_MIB, MST_EVAC_ACTIVE, MST_EVAC_KIND, MST_EVAC_QUEUED, MST_EVAC_CHAN, MST_EVAC_PROGRESS, MST_EVAC_SHARE, MST_REFRESH_FAST, MST_REFRESH_THR_C, MST_SCRUB, MST_REP_THR_LANE_CE, MST_REP_THR_ROW_CE, MST_ECC_CE, MST_ECC_UE, MST_DIR_EVICT, MST_RST_RETRY]
def fieldsMST1 : List Field := [MST_RST_CNT, MST_LOST_BASE, MST_TEMP]
def fieldsMST : List Field := fieldsMST0 ++ fieldsMST1

/-! `MCH` block registers (07_memory_stacks.md). -/

/-- `MCH_WIDTH_MODE` (R247). -/
def MCH_WIDTH_MODE_RELIEVED : Field := fld cMCH 0x40 2 2 .ro 0
def MCH_WIDTH_MODE_MODE : Field := fld cMCH 0x40 1 0 .ro 3
/-- `MCH_VIA_MAP` (R247). -/
def MCH_VIA_MAP_S1_FOR : Field := fld cMCH 0x44 12 8 .ro 0x1f
def MCH_VIA_MAP_S0_FOR : Field := fld cMCH 0x44 4 0 .ro 0x1f
/-- `MCH_VIA_FAIL` (R247). -/
def MCH_VIA_FAIL : Field := fld cMCH 0x48 19 0 .ro 0
/-- `MCH_HALF_LANES` (R247). -/
def MCH_HALF_LANES : Field := fld cMCH 0x4c 19 0 .ro 0
/-- `MCH_BANK_OUT_LO / MCH_BANK_OUT_HI` (R247). -/
def MCH_BANK_OUT : Field := fld cMCH 0x50 63 0 .ro 0
/-- `MCH_ROWREP` (R247). -/
def MCH_ROWREP_USED : Field := fld cMCH 0x58 31 16 .ro 0
def MCH_ROWREP_FREE : Field := fld cMCH 0x58 15 0 .ro 0xc00
/-- `MCH_ECC_CE` (R247). -/
def MCH_ECC_CE : Field := fld cMCH 0x5c 31 0 .ro 0
/-- `MCH_ECC_UE` (R247). -/
def MCH_ECC_UE : Field := fld cMCH 0x60 31 0 .ro 0
/-- `MCH_UE_ADDR_LO / MCH_UE_ADDR_HI` (R247). -/
def MCH_UE_ADDR : Field := fld cMCH 0x64 63 0 .ro 0
/-- `MCH_TRAIN` (R247). -/
def MCH_TRAIN_RETRIES : Field := fld cMCH 0x6c 7 4 .ro 0
def MCH_TRAIN_STATE : Field := fld cMCH 0x6c 3 0 .ro 0

def fieldsMCH0 : List Field := [MCH_WIDTH_MODE_RELIEVED, MCH_WIDTH_MODE_MODE, MCH_VIA_MAP_S1_FOR, MCH_VIA_MAP_S0_FOR, MCH_VIA_FAIL, MCH_HALF_LANES, MCH_BANK_OUT, MCH_ROWREP_USED, MCH_ROWREP_FREE, MCH_ECC_CE, MCH_ECC_UE, MCH_UE_ADDR, MCH_TRAIN_RETRIES, MCH_TRAIN_STATE]
def fieldsMCH : List Field := fieldsMCH0

/-- The stored header fields of a class that software can write or that hold a value (R535). -/
def headerFields (c : Nat) : List Field :=
  [PG_CTRL_CNT_HOLD c, PG_EVT_FLAG c, PG_EVT_MASK c, PG_EVT_CNT_SEL_ALL c, PG_EVT_CNT_SEL_BIT c, PG_EVT_CNT c,
    PG_EVT_TEMPO c, PG_OWNER_EXCL c, PG_OWNER_KIND c, PG_OWNER_VF c, PG_SEAL_OWNER c, PG_SEAL_RWS c,
    PG_ERR_SUM_VIOL c, PG_ERR_SUM_FORCED c, PG_ERR_SUM_REASON c]

/-- The block-register fields of a class. -/
def blockFields : Nat → List Field
  | 0x00 => fieldsDEV
  | 0x01 => fieldsMGT
  | 0x02 => fieldsARB
  | 0x03 => fieldsTMP
  | 0x04 => fieldsMOV
  | 0x05 => fieldsPWR
  | 0x06 => fieldsTHM
  | 0x07 => fieldsCAL
  | 0x08 => fieldsSEC
  | 0x09 => fieldsHST
  | 0x0A => fieldsERR
  | 0x0B => fieldsFUS
  | 0x0C => fieldsFAB
  | 0x0D => fieldsPRT
  | 0x0E => fieldsLAN
  | 0x0F => fieldsSYN
  | 0x10 => fieldsVLK
  | 0x11 => fieldsLSR
  | 0x12 => fieldsSEA
  | 0x13 => fieldsCDI
  | 0x14 => fieldsCLU
  | 0x15 => fieldsCOR
  | 0x16 => fieldsSMP
  | 0x17 => fieldsGMB
  | 0x18 => fieldsMST
  | 0x19 => fieldsMCH
  | _ => []

end Sys2Proof.Machine
end

