-- ==== Sys2Proof/Machine/State.lean ====
section
/-! DEFINITION. Machine/State.lean: the whole state of the block as plain data. Every register field is in `regs`; what
the chapters give the device besides its registers is in the parts below. -/

namespace Sys2Proof.Machine

/-- The reasons a command can stop with a fault. No meaning of this model raises one: every breach the manual names has
an effect (a status, an event, a fault of a core), so the type is empty. -/
inductive Fault where
  deriving DecidableEq, Repr

/-- The reasons a command has no meaning. -/
inductive Refusal where
  /-- Raised by an arm of `exec` for a command that has no meaning yet; safe, since nothing is then claimed of it. -/
  | notModelled (mnemonic : String)
  deriving DecidableEq, Repr

/-! ## Time (R57, R49 to R71) -/

/-- Count, beat and core clock (R57, R60), and the number of tempo boundaries since power-on. -/
structure TimeSt where
  count : Nat
  beat : Nat
  clk : Nat
  tempoNo : Nat
  deriving DecidableEq, Repr

/-- What the Tempo unit holds besides its registers: the role and FRAMED in force, which follow `TMP_CTRL` at a boundary
(R50); an accepted epoch with its role, and whether a sequencer has become active since (R58); the last 128 bits received,
the latest highest, and how many came since the last frame (R54); frame lock, the COUNT of the last valid frame, the count
received for this tempo, and the last frame's SUSPEND with whether it must still be followed (R55, R70); whether the last
frame differed (R59); runs of bad frames and missed marks (R55, R67); whether the count is still to be compared under R71,
and whether the boundary is slewing back; the running check of the frame being sent and its EPOCH_NEW (R54, R56); and the
scan settings in force (R88). -/
structure TempoSt where
  role : Nat
  framed : Nat
  epochNext : Option (Nat × Nat)
  epochStale : Bool
  rxBits : Nat
  rxSince : Nat
  flock : Bool
  lastFrame : Option Nat
  rxCount : Option Nat
  rxSuspend : Bool
  suspendDue : Bool
  differs : Bool
  badFrames : Nat
  missedMarks : Nat
  compare : Bool
  slewing : Bool
  txCrc : Nat
  txNewEpoch : Bool
  scanBeat : List Nat
  scanPeriod : List Nat
  deriving DecidableEq, Repr

/-- The Tempo unit at reset: SOURCED and framed, nothing received, the scans of R89. -/
def TempoSt.init : TempoSt :=
  ⟨0, 1, none, false, 0, 0, false, none, none, false, false, false, 0, 0, false, false, 65535, false,
    [0, 10, 20, 30, 40, 50, 60, 70], [1, 1, 1, 1, 1, 1, 1, 1]⟩

/-! ## Move sequencers (R72 to R86) -/

/-- One wake booked with the power governor (R74): index in move memory and iteration, its scheduled time in beats since
power-on, whether it has been admitted, whether the entry has issued, and whether it has been counted late. -/
structure Booking where
  idx : Nat
  iter : Nat
  due : Nat
  admitted : Bool
  issued : Bool
  late : Bool
  deriving DecidableEq, Repr

/-- One sequencer: the settings latched at START (R83), whether loop head 0 was at least 8 tempos away (R82), the state it
held before CHECKING, the next entry by place in the list and iteration (R76), the loop heads passed, the entries issued in
the beat named (R77), an ECC stall and the words reloaded (R81), the beats of a STOP and of a suspension that wait for the next
(R69, R84), a swap, armed or checking, by base and length (R85), the words of the entry loaded so far and a copy load in
progress: source, first entry, entries (R86), and the bookings (R74). -/
structure Seq where
  start : Nat
  period : Nat
  sel : Nat
  base : Nat
  len : Nat
  startOk : Bool
  prior : Nat
  pos : Nat
  posIter : Nat
  heads : Nat
  beatStamp : Nat
  beatIssued : Nat
  eccStall : Bool
  reloaded : Nat
  stopReq : Option Nat
  suspReq : Option Nat
  swap : Option (Nat × Nat)
  swapChecking : Bool
  loadWord : Nat
  dma : Option (Nat × Nat × Nat)
  bookings : List Booking
  deriving DecidableEq, Repr

/-- A sequencer at reset: IDLE, nothing latched. -/
def Seq.init : Seq := ⟨0, 1, 0, 0, 0, true, 0, 0, 0, 0, 0, 0, false, 0, none, none, none, false, 0, none, []⟩

/-! ## Cores (R128 to R140, R158 to R188) -/

/-- A tile whose array work is done and whose drain or retirement is outstanding: engine, accumulator bank, output bytes
with their local addresses, and flags (R125, R176). -/
structure TileRec where
  eng : Nat
  bank : Nat
  out : List (Nat × Byte)
  flags : Nat
  deriving DecidableEq, Repr

/-- An instruction of an engine's queue with its operands read (R132, R161, R169, R175): a tile with its descriptor and
offsets, what its residue check finds and what the code finds in its operands, at a local address; a drain; or a codebook load, by slot, engines
and local address of the record, which stands in the queue of each of its engines. -/
inductive EngOp where
  | tmma (f : FmtT) (desc aofs bofs oofs : Nat) (residue : Option Nat) (ecc : Ecc) (eccAt : Nat)
  | tdrain (f : FmtT) (desc oofs : Nat)
  | tcbld (slot emask addr : Nat)
  deriving DecidableEq, Repr

/-- The same with the address of the instruction. -/
structure EngEntry where
  op : EngOp
  pc : Nat
  deriving DecidableEq, Repr

/-- The vector instructions (R162, R178). -/
inductive VecOp where
  | ld | st | add | sub | mul | fma | min | max | abs | neg | adds | muls
  | div | sqrt | rcp | rsqrt | exp2 | log2 | exp | log | tanh | sigmoid
  | eq | lt | le | ne | sel | sum | rmax | rmin | bcast | cvt
  deriving DecidableEq, Repr

/-- An instruction of the vector queue with its scalar operands read (R132, R161): sS and the scale address in VB, what the
code finds in the data, and the address of the instruction. -/
structure VecEntry where
  op : VecOp
  f : FmtV
  sv : Nat
  bv : Nat
  ecc : Ecc
  pc : Nat
  deriving DecidableEq, Repr

/-- An instruction of the sync and fabric queue with its operands read (R132, R161, R184). -/
inductive FabOp where
  | load (d size : Nat) (sext : Bool) (addr : Nat)
  | store (size addr val : Nat)
  | atom (fn d addr val cmp : Nat)
  | sadd (obj val : Nat)
  | sset (obj val : Nat)
  | sread (d obj : Nat)
  | swait (d obj val limit : Nat)
  deriving DecidableEq, Repr

/-- The same with the address of the instruction. -/
structure FabEntry where
  op : FabOp
  pc : Nat
  deriving DecidableEq, Repr

/-- A wait in progress: register, object, value, the tempo boundary (by number) at which it times out, and whether it
polls by SYNC_READ, with the value last read (R184, R346). -/
structure WaitRec where
  d : Nat
  obj : Nat
  val : Nat
  deadline : Option Nat
  polling : Bool
  polled : Option Nat
  deriving DecidableEq, Repr

/-- One instruction of the DMA queue with its operands read (R180): global addresses, and whether an end is local
(DG or SG 0). -/
structure CopyReq where
  dst : Nat
  src : Nat
  units : Nat
  pkt : Nat
  arrEn : Bool
  cmpEn : Bool
  arrive : Nat
  complete : Nat
  dl : Bool
  sl : Bool
  deriving DecidableEq, Repr

/-- An instruction of the DMA queue (R132, R180): its copy, the operands sA, sB and sC as they were read, what the code
finds in a local source, at an offset of it, and the address of the instruction. -/
structure DmaEntry where
  req : CopyReq
  a : Nat
  b : Nat
  n : Nat
  ecc : Ecc
  eccAt : Nat
  pc : Nat
  deriving DecidableEq, Repr

/-- FSTAT or DSTAT within one clock (R167): the clock, plus 1, of the latest failure, the word before that clock, and the
failures recorded in it. -/
structure FailNow where
  at_ : Nat
  before : Nat
  sts : List Nat
  deriving DecidableEq, Repr

/-- One core position, besides its registers (R132, R161). `regs` holds s1 to s31, `vregs` register × 64 + lane, `acc`
the accumulator banks at (engine × 2 + bank) × 1,024 + column × 16 + row, `accValid` and `cbValid` one bit for each bank
and for each engine × 64 + slot, `cb` the records, `tiles` the tiles that have entered an engine and not yet retired, the oldest
first, `engQ` what waits in the queues of the engines and `vecQ` in that of the vector unit, each in program order, `busy` the
scalar registers that an instruction still has to write
(R188), `wait` the pending SWAIT and `fabQ` what is queued behind it, `outstanding` the GLD, GST, ATOM and SYNC not yet
completed, `dmaQ` the copies waiting for a descriptor and `dmaLive` the descriptors in use, `fence` the mask of a FENCE in
progress, `ibuf` whether the instruction buffer holds lines (R132, R186), `clock0` the core clocks before the last core
reset, `halting` a HALT waiting for the queues to run empty, `wasWait` whether it was in MOVE_WAIT before RETAINED, `goal`
the state it is on the way to with the beat at which it started (R138), `asked` a governor request not yet admitted,
`resetAt` a core or cluster reset still draining, or the drain of a failed position, with its drain limit by tempo
number (R414, R419). -/
structure Core where
  regs : SMap Nat
  vregs : SMap Nat
  pc : Nat
  asw : Nat
  fstat : Nat
  dstat : Nat
  fnow : FailNow
  dnow : FailNow
  acc : SMap Nat
  accValid : Nat
  accInt : Nat
  cb : SMap Nat
  cbValid : Nat
  tiles : List TileRec
  engQ : List EngEntry
  vecQ : List VecEntry
  busy : List Nat
  wait : Option WaitRec
  fabQ : List FabEntry
  outstanding : Nat
  dmaQ : List DmaEntry
  dmaLive : Nat
  fence : Option Nat
  clock0 : Nat
  ibuf : Bool
  halting : Bool
  wasWait : Bool
  goal : Option (Nat × Nat)
  asked : Bool
  resetAt : Option Nat
  deriving DecidableEq, Repr

/-- A core at reset (R161): every register 0, accumulators and codebook slots invalid. -/
def Core.init : Core :=
  ⟨[], [], 0, 0, 0, 0, ⟨0, 0, []⟩, ⟨0, 0, []⟩, [], 0, 0, [], 0, [], [], [], [], none, [], 0, [], 0, none, 0, false, false, false,
    none, false, none⟩

/-! ## Sync objects (R344 to R346) -/

/-- One sync object: counter, the counter at the end of the beat before the last update with that update's instant
(R78), threshold, THR_EVT and the subscribed sites. -/
structure SyncObj where
  val : Nat
  before : Nat
  stamp : Nat
  thr : Nat
  thrEvt : Bool
  subs : Nat
  deriving DecidableEq, Repr

/-- A sync object at reset. -/
def SyncObj.init : SyncObj := ⟨0, 0, 0, 0, false, 0⟩

/-- A shadow copy at a site (R346): object, counter, counter before the last update and its instant, the order in which
it was subscribed, and whether a move list holds it. -/
structure Shadow where
  obj : Nat
  val : Nat
  before : Nat
  stamp : Nat
  order : Nat
  byMove : Bool
  deriving DecidableEq, Repr

/-! ## Packets, tags and copies (R291 to R351) -/

/-- Who waits for the answer to a request (R512). -/
inductive Issuer where
  | coreLoad (c d size : Nat) (sext : Bool)
  | coreStore (c : Nat)
  | coreAtom (c d width : Nat)
  | coreSync (c : Nat) (d : Option Nat)
  | corePoll (c : Nat)
  | copy (id : Nat)
  | moveSync (site : Nat)
  | host (part item : Nat)
  | bar2 (func ofs size : Nat)
  | engine (site : Nat)
  deriving DecidableEq, Repr

/-- A request that holds a tag (R342): slot and generation, its packet, its issuer, when it was injected (in beats) and when it
times out (by tempo number), retries sent, and whether a transmission left the site. -/
structure TagRec where
  slot : Nat
  gen : Nat
  pkt : Pkt
  issuer : Issuer
  injected : Nat
  timeout : Nat
  retries : Nat
  left : Bool
  deriving DecidableEq, Repr

/-- A packet in a send queue, with what is kept of it inside the module: exempt from credits (R300), the Veryen port it
came in by, and when it joined the queue (in beats). -/
structure QPkt where
  pkt : Pkt
  exempt : Bool
  ingress : Option Nat
  since : Nat
  deriving DecidableEq, Repr

/-- A packet started and not yet acknowledged (R305, R306): circuit (lane × 64 + wavelength, or the port wavelength),
the instant of its last start in beats, its replays, and whether it waits for an idle circuit to be replayed. -/
structure Unacked where
  q : QPkt
  circ : Nat
  at_ : Nat
  replays : Nat
  due : Bool
  deriving DecidableEq, Repr

/-- The sending end of a link: next SEQ, cells started and not returned, cells granted (Veryen), queue, unacknowledged
packets (R300 to R306). -/
structure TxLink where
  seq : Nat
  outCells : Nat
  granted : Nat
  queue : List QPkt
  unacked : List Unacked
  nextPort : Nat
  deriving DecidableEq, Repr

def TxLink.init : TxLink := ⟨0, 0, 0, [], [], 0⟩

/-- The receiving end: ACK_SEQ, the SEQ values accepted above it, cells in use, cells freed and not yet returned with
the instant of the first, and the highest SEQ accepted on each circuit (R302 to R307). -/
structure RxLink where
  ack : Nat
  above : List Nat
  used : Nat
  freed : Nat
  freedAt : Nat
  good : SMap Nat
  deriving DecidableEq, Repr

def RxLink.init : RxLink := ⟨0, [], 0, 0, 0, []⟩

/-- The kinds of copy (R338): a core's DCOPY with its own address, a table copy by its index, a move-memory load. -/
inductive CopyKind where
  | dcopy (c pc : Nat)
  | table (idx : Nat)
  | moveLoad (site : Nat)
  deriving DecidableEq, Repr

/-- A copy in flight (R339): engine's site and kind, the request, group, packets still to be answered, packets failed,
its tag, and the units of its destination whose packets have reached a local bank or were cancelled there (R197, R198). -/
structure CopyRec where
  id : Nat
  site : Nat
  kind : CopyKind
  req : CopyReq
  mgrp : Nat
  waiting : Nat
  failed : Nat
  firstFail : Nat
  tag : Nat
  got : List Nat
  deriving DecidableEq, Repr

/-- A deduplication entry (R351): source node, site, tag, status and old value, expiry by tempo number. -/
structure Dedup where
  node : Nat
  site : Nat
  tag : Nat
  status : Nat
  value : Nat
  expires : Nat
  deriving DecidableEq, Repr

/-- A request waiting in a hot-line queue (R336), with the link whose cells it holds while the queue has no room. -/
structure HotReq where
  line : Nat
  ingress : Option Nat
  pkt : Pkt
  held : Option Nat
  deriving DecidableEq, Repr

/-- A throttle in force at a source (R319). -/
structure Throttle where
  node : Nat
  site : Nat
  rate : Nat
  tokens : Nat
  expires : Nat
  deriving DecidableEq, Repr

/-- A target of a multicast packet: its word in the entry, its status once known, whether its copy has been set aside
with the tries made, and the beat from which it has waited (R321, R322). -/
structure McTarget where
  word : Nat
  status : Option Nat
  aside : Bool
  tries : Nat
  since : Nat
  deriving DecidableEq, Repr

/-- A multicast packet in progress (R321 to R324): site, its packet, the copy it belongs to, the address of its record
and its targets. -/
structure McRec where
  site : Nat
  pkt : Pkt
  copyId : Nat
  rec_ : Nat
  targets : List McTarget
  deriving DecidableEq, Repr

/-! ## Line caches and directories (R203 to R212) -/

/-- The settings that a handover of a bank is to bring into force (R196, R197), and the number of the first copy that issues
after it began. -/
structure BankNext where
  cls : Nat
  id : Nat
  inb : Nat
  rot : Nat
  pwr : Nat
  since : Nat
  deriving DecidableEq, Repr

/-- A line of a cluster cache: 1 S, 2 E, 3 M; its data; pinned while a writeback waits; the transaction of its grant; the tempo,
by number, from which a refused writeback may be sent again (R207, R210, R212). -/
structure LineRec where
  state : Nat
  data : List Byte
  pinned : Bool
  txn : Nat
  retryAt : Option Nat
  deriving DecidableEq, Repr

/-- A request of a cluster cache for a line that is outstanding (R209): whether for M, the accesses of cores that wait
for it, a message for the line that came after the home had granted it (operation, transaction number and routing version,
R210), the transaction in which the home has granted it, whether the cache held S when it asked, whether it has been sent, and
the tempo, by number, at which the accesses time out. -/
structure FillWait where
  cluster : Nat
  line : Nat
  excl : Bool
  ops : List (Nat × FabOp)
  inval : Option (Nat × Nat × Nat)
  granted : Option Nat
  upgrade : Bool
  sent : Bool
  deadline : Nat
  deriving DecidableEq, Repr

/-- A GET at its home: the cluster asking, whether for M, and the routing version of its packet (R209, R294). -/
structure DirReq where
  cl : Nat
  excl : Bool
  epoch : Nat
  deriving DecidableEq, Repr

/-- A directory entry: 0 uncached, 1 shared, 2 owned; sharers; owner; transaction number; the transaction in progress
(its request, and the acknowledgements still to come, one bit for each cluster) and the requests queued behind it (R207, R209,
R210). -/
structure DirRec where
  state : Nat
  sharers : Nat
  owner : Nat
  txn : Nat
  busy : Option (DirReq × Nat)
  waiting : List DirReq
  deriving DecidableEq, Repr

def DirRec.init : DirRec := ⟨0, 0, 0, 0, none, []⟩

/-! ## Memory stacks (R230 to R244) -/

/-- A repair copy of a stack (R239): kind (1 row, 2 bank, 3 relief, 4 channel, 5 layer), channel, item, units to copy and the
pointer, in units. -/
structure Evac where
  kind : Nat
  chan : Nat
  item : Nat
  size : Nat
  ptr : Nat
  deriving DecidableEq, Repr

/-- An item moved into the reserve (R235): kind (2 bank, 3 odd rows of a channel, 4 channel, 6 even rows of a channel), channel,
bank; its rows are those below `rows` and those of the granules used before it, and its granules are `count` from number `start`
on. -/
structure Moved where
  kind : Nat
  chan : Nat
  bank : Nat
  rows : Nat
  start : Nat
  count : Nat
  deriving DecidableEq, Repr

/-- What a stack holds besides its registers: repair copies in order, items moved into the reserve in order, banks failed by layer,
spare rows used by bank and the spare row of each row repaired (R231), corrected errors by row in the scrub period numbered
`cePeriod` and the tempos of those by lane (R230), the reset in progress (start by tempo number, length), refresh commands
postponed by bank, whether the governor has admitted the exit from self-refresh (R451), and whether the stack stays in
self-refresh after an orderly stop (R460). -/
structure Stack where
  evacs : List Evac
  moved : List Moved
  bankFails : SMap Nat
  rowReps : SMap Nat
  rowMap : SMap Nat
  rowCe : SMap Nat
  cePeriod : Nat
  laneCe : SMap (List Nat)
  resetFrom : Option Nat
  resetLen : Nat
  postponed : SMap Nat
  refreshed : SMap Nat
  exitOk : Bool
  asleep : Bool
  deriving DecidableEq, Repr

def Stack.init : Stack := ⟨[], [], [], [], [], [], 0, [], none, 42, [], [], false, false⟩

/-! ## Circuits (R257 to R283) -/

/-- A claim of a lane-table entry (R260 to R262): its issuer (`PRT_REFUSE_SRC`: 0 move list, 1 fabric manager, 2 firmware,
3 the device), the issuing site and move entry, whether pinned, the ends, the boundary E by tempo number, the ring of the
lane at each end (4: none yet), each ring's lock stamp in beats and the stamp as the other end has received it, the beat of
the claim, or of the return of light since, whether the rings have been swept again, the beats of tuning before the lane last went
dark (R267), and whether it is the pair's floor circuit, wherever it lies (R257, R282). -/
structure Claim where
  issuer : Nat
  origin : Nat
  entry : Nat
  pin : Bool
  src : Nat
  dst : Nat
  e : Nat
  txRing : Nat
  rxRing : Nat
  txLock : Option Nat
  rxLock : Option Nat
  txSeen : Option Nat
  rxSeen : Option Nat
  claimedAt : Nat
  resweep : Bool
  ran : Nat
  floor : Bool
  deriving DecidableEq, Repr

/-- A lane-table entry besides `LAN_OCC`: the claim in force or pending, a claim that follows a pending release (R266),
the boundary of a pending release with its issuer + 4 × issuing site, whether packet starts have ended for it (R265), the
clock at which the circuit becomes idle, whether it is held out of use by a ring, a calibration or darkness (R273, R276,
R279), the boundary at which it returns, training words accepted in a row (R256), the reserve circuit that serves in
its place, and whether the next boundary is to find it one, and to start the sweep of its ring or move it to another (R276, R277). -/
structure Circ where
  cur : Option Claim
  next : Option Claim
  relAt : Option Nat
  relBy : Nat
  cut : Bool
  lastSent : Nat
  held : Bool
  backAt : Option Nat
  words : Nat
  resv : Option Nat
  due : Bool
  deriving DecidableEq, Repr

def Circ.init : Circ := ⟨none, none, none, 0, false, 0, false, none, 0, none, false⟩

/-! ## Reports, messages and outputs (R516 to R523) -/

/-- A report to the error log (R519). -/
structure Report where
  seq : Nat
  cls : Nat
  status : Nat
  beat : Nat
  site : Option Nat
  part : Option Nat
  tempo : Nat
  addr : Nat
  tag : Nat
  page : Nat
  inst : Nat
  evt : Nat
  isEvent : Bool
  detail : Nat
  deriving DecidableEq, Repr

/-- The error log (R520): intake queue, item reports held at their units, entry 0, and the ring, newest first; the clock, plus 1, of
the latest report, and the places of that clock's reports in the order of R570. -/
structure LogSt where
  intake : List Report
  held : List Report
  first : Option Report
  ring : List Report
  lastAt : Nat
  places : List Nat
  deriving DecidableEq, Repr

/-- MSI-X vectors (R515, R516), by function × 32 + vector: those with an event signalled in this tempo, those with one
signalled before its boundary, and the tempo (by number, plus 1) of the last message of each. -/
structure MsixSt where
  pend : List Nat
  ready : List Nat
  last : SMap Nat
  deriving DecidableEq, Repr

/-- What the device sends out, newest first in `State.out` (log entry 6, DESIGN CHOICE). -/
inductive Out where
  | pkt (link : Link) (circ : Nat) (p : Pkt)
  | replay (link : Link) (circ : Nat) (p : Pkt)
  | answer (req : Requester) (off data : Nat) (status : Status)
  | bar2 (func data : Nat) (status : Status)
  | msix (func vec : Nat)
  | platformEvent (cls inst bit : Nat)
  | hostRead (part addr len : Nat)
  | hostWrite (addr : Nat) (data : List Byte)
  | frameBit (bit : Nat)
  | training (lane lambda : Nat) (word : Nat)
  | portTraining (port lambda word : Nat)
  | ident (port : Nat) (frame : Nat)
  | fmRecord (site : Nat) (tempo : Nat)
  | message (kind : String) (data : List Nat)
  deriving DecidableEq, Repr

/-! ## Power governor and repair (R449 to R456, R407 to R415) -/

/-- What a governor request asks for (R451). `wake` is the WAKE_CORE entry of a site's list: entry index, iteration,
cluster, cores named, booked step in mW (R74). -/
inductive GovKind where
  | corePower (c : Nat)
  | coreReturn (c : Nat)
  | coreRun (c : Nat)
  | wake (site idx iter cluster mask mw : Nat)
  | bank (cluster : Bool) (inst n : Nat)
  | dieRatio (d : Nat)
  | halfRatio (h : Nat)
  | source (i : Nat)
  | port (n : Nat)
  | stack (k : Nat)
  deriving DecidableEq, Repr

/-- A request in the governor's queue and the tempo, by number, in which it arrived (R452). -/
structure GovReq where
  kind : GovKind
  arrived : Nat
  deriving DecidableEq, Repr

/-- The governor (R452, R453): queue, requests waiting at their sources for room, debt in µA, the tempo (by number, plus
1) of the last boundary served, whether the input is out of its operating range, tempos in a row above the cap, and the tempo, by number, at which
the input returned into its range (R462). -/
structure GovSt where
  queue : List GovReq
  atSource : List GovReq
  debt : Nat
  lastAt : Nat
  inputBad : Bool
  overCap : Nat
  backAt : Nat
  deriving DecidableEq, Repr

def GovSt.init : GovSt := ⟨[], [], 0, 0, false, 0, 0⟩

/-- A spare substitution in progress (R414): the failed position and the tempo, by number, of its failure. -/
structure Subst where
  pos : Nat
  tempo : Nat
  deriving DecidableEq, Repr

/-! ## Resets and stops (R417 to R423, R460 to R463) -/

/-- A reset in progress of a partition, or of one site alone (R463): its tempo 0 by number, none until that boundary
comes; HOLD and SCRUB; whether its steps but the last are done, and whether RELEASE has been written. -/
structure ResetRec where
  tempo0 : Option Nat
  hold : Bool
  scrub : Bool
  done : Bool
  release : Bool
  deriving DecidableEq, Repr

/-- A stop of a site (R460, R461): tempo 0 by number, its drain in tempos, whether it is parked, and whether the die stops
in an emergency. -/
structure StopRec where
  tempo0 : Nat
  drain : Nat
  parked : Bool
  hard : Bool
  deriving DecidableEq, Repr

/-! ## Calibration (R464 to R469) -/

/-- A calibration slot (R465): class, site, item and its start by tempo number. `circ` is the circuit under calibration of a
ring that carries one, or the spare that carries a memory lane; `other` the ring at the other end, by site and item, or
the place on the lane table that a pair of free rings uses is `circ` with `free` set (R273, R274). -/
structure CalSlot where
  cls : Nat
  site : Nat
  item : Nat
  from_ : Nat
  circ : Option Nat
  other : Option (Nat × Nat)
  free : Bool
  deriving DecidableEq, Repr

/-- A set of taps with the temperature, in m°C, at which it was taken (R467). -/
structure CalSet where
  temp : Int
  taps : List Int
  deriving DecidableEq, Repr

/-- A Veryen port besides its registers (R353 to R359): wavelengths good at its receiver, those locked in TRAIN and the PORT
of their training words, the partner's RXMAP, valid IDENT frames in a row, the partner's GEN, the tempo, by number, before
which DETECT does not check for light, the beat at which IDENT was last sent, the tempo, by number, at which TRAIN began, and the
tempos of each wavelength's corrections in the last millisecond (R357). -/
structure PortSt where
  rxGood : Nat
  locked : Nat
  trainPort : Option Nat
  peerMap : Nat
  idents : Nat
  peerGen : Nat
  notBefore : Nat
  identAt : Nat
  trainAt : Nat
  ce : SMap (List Nat)
  deriving DecidableEq, Repr

def PortSt.init : PortSt := ⟨0, 0, none, 0, 0, 0, 0, 0, 0, []⟩

/-! ## Heat (R457 to R463) -/

/-- What the thermal watch holds besides its registers: the readings of the last round (value + kind × 2^16, by channel),
the channels that have failed (R466), the heat rates of the last tempos, newest first (by site), the level of the slow path
(by unit: a site, or 16 and 17 for the halves), the tempo, by number plus 1, at which a level reached HALT (R459), the quiet
rounds in a row since the last restored step, the units at WATCH or above since the last round, tempo 0, by number, of a
module emergency stop that no reset has ended (R462), the tempos, by number plus 1, of the last round and of the last
fast check, the rounds in a row that a site's level has been below WATCH (R463), and the tempos each comb source has fed since the
last full hour (R289), and what each site's heat rate has added to its temperature since the last round, in m°C (R467). -/
structure ThermSt where
  chans : SMap Nat
  failed : SMap Bool
  heat : SMap (List Int)
  slow : SMap Nat
  haltAt : SMap Nat
  quiet : SMap Nat
  noisy : SMap Bool
  estop : Option Nat
  lastRound : Nat
  fastAt : Nat
  calm : SMap Nat
  feed : SMap Nat
  rise : SMap Int
  deriving DecidableEq, Repr

def ThermSt.init : ThermSt := ⟨[], [], [], [], [], [], [], none, 0, 0, [], [], []⟩

/-! ## Sampler and gambit (R370 to R399) -/

/-- A run of a sampler set (R372): its number since ARM, the beat of its start, the ranked candidates of each row as
(logit, ID), highest first, and the status so far. -/
structure SmpRun where
  n : Nat
  start : Nat
  rows : List (List (Nat × Nat))
  status : Nat
  deriving DecidableEq, Repr

/-- A scan at one sampler (R394, R395): the base of its counter, the beat of its first block, blocks and scores read, its
top scores as (score, ID), and the status so far. -/
structure ScanRec where
  base : Nat
  start : Nat
  blocks : Nat
  scores : Nat
  top : List (Nat × Nat)
  status : Nat
  deriving DecidableEq, Repr

/-- A gambit round (R383 to R389): its number since EN, its start, the descriptor, the candidates of each logit row, the
status so far, and its outcome once decided: chosen branch, accepted drafts, tokens (R386, R387). -/
structure GmbRun where
  n : Nat
  start : Nat
  desc : Nat
  rows : List (List (Nat × Nat))
  status : Nat
  chosen : Option (Nat × Nat × List Nat)
  deriving DecidableEq, Repr

/-! ## The test record (R405, R406) -/

/-- The test record: serial and fuse CRC that it names, whether every step of a cold start completed, whether it is marked
clean, its age in tempos at the instant `at_`, by tempo number. -/
structure TestRec where
  serial : Nat
  crc : Nat
  complete : Bool
  clean : Bool
  age : Nat
  at_ : Nat
  deriving DecidableEq, Repr

/-! ## Images, twins (R430 to R444, R487 to R489) -/

/-- An image in a slot of the flash store: its header and its body. -/
structure Img where
  header : List Byte
  body : List Byte
  deriving DecidableEq, Repr

/-- A pair of twins besides its registers: the tempos, by number, of its last heartbeat and of its entry into PAIRED. -/
structure TwinSt where
  beat : Nat
  pairedAt : Nat
  deriving DecidableEq, Repr

/-- A live update: pair, slot, and the tempo, by number, of its START. -/
structure UpdRec where
  pair : Nat
  slot : Nat
  start : Nat
  deriving DecidableEq, Repr

/-! ## The host port (R481 to R486) -/

/-- A work item taken from a submission area and in flight (R482, R483): its number in the area, operation, tag, CMP,
arguments, whether its reserved fields are 0, and whether it has started. -/
structure HostItem where
  idx : Nat
  op : Nat
  tag : Nat
  cmp : Bool
  a0 : Nat
  a1 : Nat
  good : Bool
  begun : Bool
  deriving DecidableEq, Repr

/-- What a partition's submission area, completion ring and mailbox hold besides their registers: items in flight, the
number of the next, the scan read outstanding (its clock, head and entries) and the beat, plus 1, of the last scan,
completions not yet written (item, status, value), and the mailbox's base count with the records pushed (R485, R486). -/
structure HostArea where
  items : List HostItem
  next : Nat
  scan : Option (Nat × Nat × Nat)
  lastScan : Nat
  held : List (HostItem × Nat × Nat)
  mbxBase : Nat
  pushed : Nat
  deriving DecidableEq, Repr

def HostArea.init : HostArea := ⟨[], 0, none, 0, [], 0, 0⟩

/-! ## The test access port (R562) -/

/-- The classes of instructions of the test access port (R562). -/
inductive TapInstr where
  | boundaryScan
  | debug
  | memoryReadout
  | other
  deriving DecidableEq, Repr

/-- What the instruction of the test access port selects: a boundary-scan register, a debug register, readout of the twins'
memories, or the bypass register. -/
inductive TapSel where
  | bypass
  | boundary
  | debug
  | readout
  deriving DecidableEq, Repr

/-- The test access port: what is selected, and the one bit of the bypass register. -/
structure TapSt where
  sel : TapSel
  bypass : Bool
  deriving DecidableEq, Repr

/-- At power-on the bypass register is selected and holds 0 (PRESUMED: IEEE 1149.1 for a port without a device identification
register; log entry 139). -/
def TapSt.init : TapSt := ⟨.bypass, false⟩

/-! ## The state -/

/-- The whole state of the block. -/
structure State where
  /-- Count, beat, clock and boundaries since power-on (R57). -/
  time : TimeSt
  /-- The Tempo unit (R49 to R71). -/
  tempo : TempoSt
  /-- Every register field that is stored, by key; an unlisted field holds its reset value. -/
  regs : SMap Nat
  /-- The clock of the last raise of each event bit, plus 1 (R537). -/
  raised : SMap Nat
  /-- The upper halves latched by reads of `_LO`, for each requester and pair, plus 1 (R14). -/
  hiLatch : SMap Nat
  /-- The write holding registers, for each requester and pair, plus 1 (R15). -/
  hold : SMap Nat
  /-- Count, beat and clock latched by reads of `TMP_COUNT_LO`, for each requester, as 1 + upper half × 2^12 + clock ×
  2^8 + beat (R60). -/
  tmpLatch : SMap Nat
  /-- The log entry latched for each requester (R521). -/
  errLatch : SMap Report
  /-- `ERR_RD_IDX` of each requester (R521). -/
  errIdx : SMap Nat
  log : LogSt
  msix : MsixSt
  seqs : SMap Seq
  /-- Move memory, site × 4,096 + index (R72). -/
  moveMem : SMap Nat
  /-- Entries with an uncorrectable error (R81). -/
  moveEcc : SMap Bool
  cores : SMap Core
  /-- The memory of the device, by physical byte address (Machine/Memory.lean), in canonical form; an unlisted byte
  reads 0 (R402). -/
  mem : List Host.Cell
  /-- The losses of contents of each SRAM bank or stack (R201, R202, R414), odd while they are undefined. -/
  lost : SMap Nat
  /-- Bytes of such banks written since the loss. -/
  since : SMap Bool
  /-- Words of 8 bytes (SRAM) and bursts of 64 (DRAM) that cannot be corrected (R191, R226). -/
  ue : SMap Bool
  /-- Handovers, wakes and sleeps of banks in progress (R197, R201): tempo at which the drain limit falls due, plus 1. -/
  bankJobs : SMap Nat
  /-- The settings that each bank's handover brings into force (R196, R197), by the bank's key. -/
  bankNext : SMap BankNext
  /-- Lines of the cluster caches, cluster × 2^50 + line, a line being named by its physical address over 128
  (R207). -/
  lines : SMap LineRec
  fills : List FillWait
  /-- Directories, by line (R207). -/
  dirs : SMap DirRec
  syncs : SMap SyncObj
  /-- Shadows by site (R346). -/
  shadows : SMap (List Shadow)
  /-- Sync updates on their way to subscribed sites, oldest first: site, object, counter (R346). -/
  shadowMsgs : List (Nat × Nat × Nat)
  /-- Tags in use, site × 4,096 + slot (R342). -/
  tags : SMap TagRec
  /-- The generation of each tag slot at its next use (R342). -/
  gens : SMap Nat
  /-- Requests waiting for a tag, oldest first: site, packet, issuer (R342). -/
  tagWait : List (Nat × Pkt × Issuer)
  tx : SMap TxLink
  rx : SMap RxLink
  copies : List CopyRec
  copyNext : Nat
  /-- Copies waiting for an engine, oldest first: site, table index (R338). -/
  copyWait : List (Nat × Nat)
  /-- Copy tables, site × 1,024 + index (R341), and the indirect load in progress: words so far. -/
  copyTab : SMap Nat
  copyLoad : SMap Nat
  /-- Words for descriptors that a copy in flight still uses, waiting for its end: site, index, word, value (R341). -/
  copyHeld : List (Nat × Nat × Nat × Nat)
  dedups : SMap (List Dedup)
  hot : SMap (List HotReq)
  /-- The clock of the last operation on a line, plus 1 (R336). -/
  hotAt : SMap Nat
  /-- Routing entries, version × 16,384 + node (R310). -/
  routes : SMap Nat
  /-- The tempo count of the armed switch, and the tempo (by number) of the last switch (R312, R313). -/
  rtArmed : Option Nat
  rtSwitched : Nat
  throttles : SMap (List Throttle)
  mcs : List McRec
  /-- Cached multicast entries, site × 4,096 + group: record address and targets (R320). -/
  mcCache : SMap (List Nat)
  /-- Congestion counters of the interval (R317), and idle gatherings by pair (R319): `cmapKey`, `hotCount`. -/
  cmap : SMap Nat
  /-- The last map gathered: its tempo plus 1 (by number), its records of 64 words, and whether the fabric manager has acted
  on it and whether it has been copied (R316 to R319). -/
  mapAt : Nat
  mapRecs : List (List Nat)
  mapActed : Bool
  mapCopied : Bool
  stackSt : SMap Stack
  circs : SMap Circ
  /-- By ring key × 4: mislocks in this round (R277), the beat of a sweep's start plus 1 (R276). -/
  ringData : SMap Nat
  /-- Runs started since ARM, by lead die (R372), and rounds started since EN, by context (R383), with a round
  pending. -/
  smpStarted : SMap Nat
  gmbStarted : SMap Nat
  gmbPending : SMap Bool
  /-- Host items that have completed and whose completion entry is still to be written: partition, item, status code,
  value (R484). -/
  hostDone : List (Nat × Nat × Nat × Nat)
  gov : GovSt
  /-- Thermal and governor ratios of the dies and thermal ratios of the halves (R454, R455), 0 for ratio 1: by die,
  by 8 + die, by 16 + half. -/
  ratios : SMap Nat
  substs : List Subst
  /-- Spare units used by an SRAM bank and corrected errors of its units in this round (R413): by bank key. -/
  sramSpares : SMap Nat
  sramCe : SMap Nat
  /-- The field fuse bank and the entries waiting to be blown, the one being blown first (R410). -/
  fuseBank : List Nat
  fuseQueue : List Nat
  /-- Core clocks of each die up to its last change of ratio, and the instant of that change: by 2 × die and 2 × die + 1
  (R62, R149). -/
  dieClk : SMap Nat
  /-- Resets in progress: of a partition p by p, of a site alone by 16 + site (R422, R463). -/
  resets : SMap ResetRec
  /-- Cluster resets in progress, by cluster: the tempo, by number, of the trigger (R419). -/
  cluResets : SMap Nat
  /-- Sites stopping or stopped (R460, R461). -/
  stops : SMap StopRec
  /-- Sites whose rail has failed, one bit each (R416). -/
  railDown : Nat
  /-- Line-cache sizes being applied, by cluster: the size plus 1 (R204). -/
  lcNext : SMap Nat
  /-- Comb sources with an armed switch, one bit each (R280). -/
  lsrArmed : Nat
  /-- Calibration windows: the beat at which each ends, by site × 4 + class (R465). -/
  calWin : SMap Nat
  calSlots : List CalSlot
  /-- By item (class × 2^24 + site × 2^20 + item): consecutive refusals, the tempo, by number, of the last accepted
  result, whether stale, and the sets of taps (R466 to R468). -/
  calFails : SMap Nat
  calLast : SMap Nat
  calStale : SMap Bool
  calSets : SMap (List CalSet)
  /-- The first sets, which bring-up fills (R467): the free value behind them and the tempo, by number, of step 3 (keys 0
  and 1) and of step 4 (keys 2 and 3). -/
  calFirst : SMap Nat
  /-- Veryen ports. -/
  ports : SMap PortSt
  /-- The tempo count N of an announced module reset, and the tempo (by number) of the last NOTICE (R363). -/
  rstAt : Option Nat
  noticeAt : Nat
  therm : ThermSt
  /-- The seam wires, as `SEA_MAP_DATA` codes them: state × 2^12 + PEER_VALID × 2^11 + peer (R547). -/
  seam : SMap Nat
  /-- Errors of a wire in this housekeeping round (R546). -/
  seamErrs : SMap Nat
  /-- Runs in progress, by lead die (R372); scans, by die (R394); rounds in progress, by context (R383). -/
  smpRuns : SMap SmpRun
  scans : SMap ScanRec
  gmbRuns : SMap GmbRun
  /-- What `SMP_EXT_SYNC` has to pass before the next external lists count, by lead die (R379). -/
  extBase : SMap Nat
  /-- Sets to go to IDLE after the current run, by lead die (R396). -/
  smpDisarm : SMap Bool
  /-- The partition map accepted for the next boundary (R425). -/
  mapNext : Option Nat
  /-- A module reset (R423): 0 none, 1 triggered, 2 past tempo N with the ports not yet dark, 3 in the bring-up that it
  runs (R503). -/
  modRst : Nat
  /-- The factory fuse map, and the repairs that the full field bank could not record (R407, R411). -/
  fuseFactory : List Nat
  unsaved : List Nat
  testRec : Option TestRec
  /-- The two image slots (R487). -/
  image0 : Option Img
  image1 : Option Img
  twins : SMap TwinSt
  update : Option UpdRec
  /-- Areas by partition. -/
  areas : SMap HostArea
  /-- The slot whose check runs (R489, `SEC_IMG_STAT.BUSY`). -/
  verify : Option Nat
  /-- The log as the last module reset saved it (R523). -/
  errSaved : Option LogSt
  /-- The clock, plus 1, of the last write of 1 to each bit of `PG_EVT_FORCE`, which reads 1 within that clock (R538). -/
  forcedAt : SMap Nat
  /-- The clock, plus 1, of the last refusal on each `CLU` page (R13, R215). -/
  denyAt : SMap Nat
  /-- The tempo, by number plus 1, of the last publication of the capacity (R46). -/
  capAt : Nat
  /-- Free values drawn so far. -/
  draws : Nat
  /-- The test access port (R562). -/
  tap : TapSt
  out : List Out
  /-- The commands that are waiting, first in first out. -/
  pending : List Instr
  deriving DecidableEq, Repr

/-- The state right after power-on reset, before bring-up (R400): every register field at its reset value, which
`Field.reset` gives for a field that `regs` does not list, and nothing held, queued or waiting. -/
def State.reset : State :=
  { time := ⟨0, 0, 0, 0⟩
    tempo := TempoSt.init
    regs := []
    raised := []
    hiLatch := []
    hold := []
    tmpLatch := []
    errLatch := []
    errIdx := []
    log := ⟨[], [], none, [], 0, []⟩
    msix := ⟨[], [], []⟩
    seqs := []
    moveMem := []
    moveEcc := []
    cores := []
    mem := []
    lost := []
    since := []
    ue := []
    bankJobs := []
    bankNext := []
    lines := []
    fills := []
    dirs := []
    syncs := []
    shadows := []
    shadowMsgs := []
    tags := []
    gens := []
    tagWait := []
    tx := []
    rx := []
    copies := []
    copyNext := 0
    copyWait := []
    copyTab := []
    copyLoad := []
    copyHeld := []
    dedups := []
    hot := []
    hotAt := []
    routes := []
    rtArmed := none
    rtSwitched := 0
    throttles := []
    mcs := []
    mcCache := []
    cmap := []
    mapAt := 0
    mapRecs := []
    mapActed := false
    mapCopied := false
    stackSt := []
    circs := []
    ringData := []
    smpStarted := []
    gmbStarted := []
    gmbPending := []
    hostDone := []
    gov := GovSt.init
    ratios := []
    substs := []
    sramSpares := []
    sramCe := []
    fuseBank := []
    fuseQueue := []
    dieClk := []
    resets := []
    cluResets := []
    stops := []
    railDown := 0
    lcNext := []
    lsrArmed := 0
    calWin := []
    calSlots := []
    calFails := []
    calLast := []
    calStale := []
    calSets := []
    calFirst := []
    ports := []
    rstAt := none
    noticeAt := 0
    therm := ThermSt.init
    seam := []
    seamErrs := []
    smpRuns := []
    scans := []
    gmbRuns := []
    extBase := []
    smpDisarm := []
    mapNext := none
    modRst := 0
    fuseFactory := []
    unsaved := []
    testRec := none
    image0 := none
    image1 := none
    twins := []
    update := none
    areas := []
    verify := none
    errSaved := none
    forcedAt := []
    denyAt := []
    capAt := 0
    draws := 0
    tap := TapSt.init
    out := []
    pending := []
  }

end Sys2Proof.Machine
end

