-- ==== Sys2Proof/Machine/Ops.lean ====
section
/-! DEFINITION. Machine/Ops.lean: the operations every family shares: register fields, free values, outputs, sites and
partitions, events and their routing, reports to the log, and the clock instants. -/

namespace Sys2Proof.Machine

/-! ## Register fields (R10 to R15) -/

/-- The key of a field: class, instance, offset of its n-th register, bottom bit. -/
def Field.key (f : Field) (inst n : Nat) : Nat :=
  ((f.cls * 2048 + inst) * 4096 + (f.off + n * f.stride)) * 32 + f.lo

/-- The reset value of a field: from its table row, or from the fuses or a strap (R13). -/
def Field.reset (f : Field) (inst n : Nat) : Nat :=
  if f.fused then Config.fusedValue (f.key inst n) % 2 ^ f.width else f.rsts.getD n f.rst

/-- The value of a field. -/
def getF (s : State) (f : Field) (inst n : Nat) : Nat := SMap.get s.regs (f.reset inst n) (f.key inst n)

/-- A field given a value, which is cut to the field's width. -/
def setF (s : State) (f : Field) (inst n v : Nat) : State :=
  { s with regs := SMap.set s.regs (f.reset inst n) (f.key inst n) (v % 2 ^ f.width) }

/-- A saturating counter advanced by `k`. -/
def bumpF (s : State) (f : Field) (inst n k : Nat) : State :=
  setF s f inst n (satAdd f.width (getF s f inst n) k)

/-- A wrapping counter advanced by `k`. -/
def wrapF (s : State) (f : Field) (inst n k : Nat) : State := setF s f inst n (getF s f inst n + k)

/-- The value that a write stores in a field, held in the field's range (the "is stored as" clauses of the tables). -/
def Field.stored (f : Field) (v : Nat) : Nat :=
  let w := max (v % 2 ^ f.width) f.clampLo
  match f.clampHi with
  | some h => min w h
  | none => w

/-- A field back at its reset value. -/
def resetF (s : State) (f : Field) (inst n : Nat) : State := setF s f inst n (f.reset inst n)

/-! ## Free values, outputs, instants -/

/-- One free value drawn (log entry 11, DESIGN CHOICE). -/
def draw (s : State) : Nat × State :=
  ((Config.freeValue s.draws).toNat, { s with draws := s.draws + 1 })

/-- The device sends something out (log entry 6, DESIGN CHOICE). -/
def emit (s : State) (o : Out) : State := { s with out := o :: s.out }

/-- The clock instant: core clocks since power-on. -/
def nowClk (s : State) : Nat := (s.time.tempoNo * 100 + s.time.beat) * 16 + s.time.clk

/-- The instant in beats since power-on. -/
def nowBeat (s : State) : Nat := s.time.tempoNo * 100 + s.time.beat

/-! ## Sites, dies, stacks, partitions (R16 to R20, R424) -/

/-- The site of compute die `d` (R17). -/
def dieSite (d : Nat) : Nat := [0, 2, 5, 7, 8, 10, 13, 15].getD d 0

/-- The site of memory stack `k` (R17). -/
def stackSite (k : Nat) : Nat := [1, 3, 4, 6, 9, 11, 12, 14].getD k 0

/-- The compute die of a site (R17). -/
def siteDie (site : Nat) : Option Nat := (List.range 8).find? fun d => dieSite d == site

/-- The memory stack of a site (R17). -/
def siteStack (site : Nat) : Option Nat := (List.range 8).find? fun k => stackSite k == site

/-- Is the site on the West half: files a and b (R16). -/
def westSite (site : Nat) : Bool := site % 4 < 2

/-- The site of an instance of a site-scoped class (R534). -/
def siteOfInst (c inst : Nat) : Option Nat :=
  if c = cMOV ∨ c = cPRT ∨ c = cVLK then some inst
  else if c = cSYN then some (inst / 8)
  else if c = cCDI ∨ c = cSMP then some (dieSite inst)
  else if c = cCLU then some (dieSite (inst / 4))
  else if c = cCOR then some (dieSite (inst / 160))
  else if c = cMST then some (stackSite inst)
  else if c = cMCH then some (stackSite (inst / 128))
  else none

/-- The nibble of `MGT_PART_MAP` of a site: ASSIGNED and partition (R426). -/
def partNibble (s : State) (site : Nat) : Nat := bitsOf (getF s MGT_PART_MAP 0 0) (4 * site + 3) (4 * site)

/-- The partition of a site, none when it is not assigned (R424). -/
def partOf (s : State) (site : Nat) : Option Nat :=
  if hasBit (partNibble s site) 3 then some (partNibble s site % 8) else none

/-- The sites of a partition. -/
def sitesOf (s : State) (p : Nat) : List Nat := (List.range 16).filter fun x => partOf s x == some p

/-- The partition of an instance, none for a class that belongs to no site. -/
def partOfInst (s : State) (c inst : Nat) : Option Nat := (siteOfInst c inst).bind (partOf s)

/-- Is VF n + 1 enabled: it then owns the partition's area (R477). -/
def vfEnabled (s : State) (p : Nat) : Bool := getF s HST_SQ_CFG_OWNER 0 p == 1

/-- The position of a packed logical ID: the `COR` instance, none for a column above 8, an absent column or a site
without a die (R18, R20, R143, R144). -/
def corOfLid (s : State) (lid : Nat) : Option Nat :=
  let site := bitsOf lid 11 8
  let cl := bitsOf lid 7 6
  let row := bitsOf lid 5 4
  let col := lid % 16
  match siteDie site with
  | none => none
  | some d =>
    let clu := d * 4 + cl
    if 8 < col ∨ hasBit (getF s CLU_ROW_MAP_ABSENT clu row) col then none
    else
      let pos := if getF s CLU_ROW_MAP_SPARE_FOR clu row = col then 9 else col
      some (d * 160 + cl * 40 + row * 10 + pos)

/-- The logical ID that a position holds, if it holds one (R143). -/
def lidOfCor (s : State) (c : Nat) : Option Nat :=
  let d := c / 160
  let cl := c % 160 / 40
  let row := c % 40 / 10
  let pos := c % 10
  let sp := getF s CLU_ROW_MAP_SPARE_FOR (d * 4 + cl) row
  let abs := getF s CLU_ROW_MAP_ABSENT (d * 4 + cl) row
  let lid := fun col => dieSite d * 256 + cl * 64 + row * 16 + col
  if pos = 9 then (if sp = 15 then none else some (lid sp))
  else if sp = pos ∨ hasBit abs pos then none else some (lid pos)

/-- The site, cluster page and die of a `COR` instance. -/
def corDie (c : Nat) : Nat := c / 160
def corSite (c : Nat) : Nat := dieSite (c / 160)
def corClu (c : Nat) : Nat := c / 160 * 4 + c % 160 / 40

/-- Core clocks of one beat at the clock ratio of a die (R62): 16, 8 or 4. -/
def clocksPerBeat (s : State) (die : Nat) : Nat := 16 / 2 ^ getF s CDI_CLK_RATIO die 0

/-- Core clocks of a die since power-on (R57, R62, R149): a core clock lasts 2 to the power of its ratio nominal ones. -/
def dieClock (s : State) (d : Nat) : Nat :=
  SMap.get s.dieClk 0 (2 * d) + (nowClk s - SMap.get s.dieClk 0 (2 * d + 1)) / 2 ^ getF s CDI_CLK_RATIO d 0

/-! ## The error log's intake (R517 to R520) -/

/-- Room in the intake queue (R520). -/
abbrev intakeMax : Nat := 64

/-- A raise of an `ERR` event: flag, count, and MSI-X of the PF; never logged (R527). -/
def msixPend (s : State) (v : Nat) : State :=
  if s.msix.pend.contains v then s else { s with msix := { s.msix with pend := s.msix.pend ++ [v] } }

/-- The header's part of a raise (R537, R539): flag, instant of the raise, tempo count, event count. A bit at or above
EVT_TOP is ignored, and raises of one bit within one clock are one raise; the answer says whether this one is new. -/
def raiseHeader (s : State) (c inst bit : Nat) : State × Bool :=
  let k := (c * 2048 + inst) * 32 + bit
  if (classRow c).evtTop ≤ bit then (s, false)
  else if SMap.get s.raised 0 k = nowClk s + 1 then (s, false)
  else
    let s := { s with raised := SMap.set s.raised 0 k (nowClk s + 1) }
    let s := setF s (PG_EVT_FLAG c) inst 0 (setBit (getF s (PG_EVT_FLAG c) inst 0) bit)
    let s := setF s (PG_EVT_TEMPO c) inst 0 s.time.count
    let sel := getF s (PG_EVT_CNT_SEL_ALL c) inst 0 = 1 ∨ getF s (PG_EVT_CNT_SEL_BIT c) inst 0 = bit
    let s := if sel ∧ getF s (PG_CTRL_CNT_HOLD c) inst 0 = 0 then bumpF s (PG_EVT_CNT c) inst 0 1 else s
    (s, true)

/-- Is the event unmasked (R514). -/
def unmasked (s : State) (c inst bit : Nat) : Bool := !hasBit (getF s (PG_EVT_MASK c) inst 0) bit

/-- To whom an event belongs: the partition of its instance's site, one partition, every partition, or none (R515,
R571). -/
inductive Belongs where
  | site
  | part (p : Nat)
  | all
  | noPart
  deriving DecidableEq, Repr

/-- The partitions of an event. -/
def belongsTo (s : State) (c inst : Nat) : Belongs → List Nat
  | .site => (partOfInst s c inst).toList
  | .part p => [p]
  | .all => List.range 8
  | .noPart => []

/-- The VF vector of a page class (R515). -/
def vfVector (c : Nat) : Nat :=
  if c = cMOV then 1 else if c = cSYN then 2 else if c = cSMP ∨ c = cGMB then 3 else if c = cHST then 4
  else if c = cCDI ∨ c = cCLU ∨ c = cCOR then 5 else if c = cMST ∨ c = cMCH then 6 else 7

/-- A signalled event on its MSI-X vectors and the sideband (R515). -/
def route (s : State) (c inst bit : Nat) (b : Belongs) : State :=
  let s := msixPend s c
  let s := (belongsTo s c inst b).foldl (fun s p =>
    if vfEnabled s p then msixPend s ((p + 1) * 32 + vfVector c) else s) s
  if hasBit (getF s ERR_SB_MASK 0 0) c then emit s (.platformEvent c inst bit) else s

/-- An `ERR` event (R527): it routes and is never logged. -/
def raiseErr (s : State) (bit : Nat) : State :=
  let p := raiseHeader s cERR 0 bit
  if p.2 && unmasked p.1 cERR 0 bit then route p.1 cERR 0 bit .noPart else p.1

/-- The detail of a report is lost (R520): counted by class and partition, LOST_DETAIL set and raised. -/
def loseDetail (s : State) (r : Report) : State :=
  let s := bumpF s ERR_OVF 0 r.cls 1
  let s := match r.part with
    | some p => bumpF s ERR_PART_CNT_OVF 0 p 1
    | none => s
  raiseErr (setF s ERR_STAT_LOST_DETAIL 0 0 1) 1

/-- The place of a report among those of its clock (R570): page class, instance, event reports by event bit, item reports. -/
def Report.place (r : Report) : Nat := (r.page * 2 ^ 11 + r.inst) * 64 + (if r.isEvent then r.evt % 32 else 32)

/-- How many reports a SEQ lies after another. -/
def seqAfter (q from_ : Nat) : Nat := (q + 2 ^ 32 - from_) % 2 ^ 32

/-- A report takes its SEQ among those of its clock, of which `first` is the first: those that R570 puts after it move up. -/
def LogSt.order (l : LogSt) (first before n : Nat) : LogSt :=
  if before = n then l
  else
    let up := fun (x : Report) =>
      if before ≤ seqAfter x.seq first ∧ seqAfter x.seq first < n then { x with seq := (x.seq + 1) % 2 ^ 32 } else x
    { l with intake := l.intake.map up, held := l.held.map up, first := l.first.map up, ring := l.ring.map up }

/-- A report in a queue: before those of its clock that R570 puts after it. -/
def putReport (first : Nat) (r : Report) (l : List Report) : List Report :=
  let later := fun (x : Report) => decide (seqAfter r.seq first < seqAfter x.seq first) && decide (seqAfter x.seq first < 2 ^ 31)
  l.takeWhile (fun x => !later x) ++ r :: l.dropWhile fun x => !later x

/-- A report (R517, R520): it takes the next SEQ, in the order of R570 among the reports of its clock, and counts; an event report
without room at intake loses its detail, an item report waits at its unit. -/
def report (s : State) (r : Report) : State :=
  let q := (getF s ERR_SEQ 0 0 + 1) % 2 ^ 32
  let s := setF s ERR_SEQ 0 0 q
  let s := bumpF s ERR_CNT 0 r.cls 1
  let s := match r.part with
    | some p => bumpF s ERR_PART_CNT_CNT 0 p 1
    | none => s
  let places := if s.log.lastAt = nowClk s + 1 then s.log.places else []
  let n := places.length
  let before := (places.filter fun k => decide (k ≤ r.place)).length
  let first := seqAfter q n
  let r := { r with seq := (first + before) % 2 ^ 32, beat := s.time.beat, tempo := s.time.count }
  let s := { s with log := { s.log.order first before n with lastAt := nowClk s + 1, places := r.place :: places } }
  if s.log.intake.length < intakeMax ∧ s.log.held = [] then
    { s with log := { s.log with intake := putReport first r s.log.intake } }
  else if r.isEvent then loseDetail s r
  else { s with log := { s.log with held := putReport first r s.log.held } }

/-- The log class of the events of a page (R518). -/
def logClass (c bit : Nat) : Nat :=
  if c = cFAB then 4 else if c = cMST ∨ c = cMCH then 5 else if c = cCLU then 6 else if c = cCOR ∨ c = cCDI then 7
  else if c = cPRT ∨ c = cLAN ∨ c = cLSR ∨ c = cSEA then 8 else if c = cVLK then 9
  else if c = cMOV ∨ c = cTMP ∨ c = cSYN then 0xA else if c = cSMP ∨ c = cGMB then 0xB
  else if c = cDEV ∨ c = cFUS then 0xC else if c = cMGT then (if 16 ≤ bit then 0xC else 0xF)
  else if c = cPWR ∨ c = cTHM ∨ c = cCAL then 0xD else if c = cHST ∨ c = cSEC then 0xE else 0xF

/-- The partition that an event's report carries, if it is exactly one (R519, R571). -/
def reportPart (s : State) (c inst : Nat) : Belongs → Option Nat
  | .site => partOfInst s c inst
  | .part p => some p
  | _ => none

/-- An unmasked event is signalled: routed, and one report to the log, with a detail (R514, R515, R517, R519, R537). -/
def signal (s : State) (c inst bit : Nat) (b : Belongs) (detail : Nat) : State :=
  let s := route s c inst bit b
  if c = cERR then s
  else report s ⟨0, logClass c bit, 0, 0, siteOfInst c inst, reportPart s c inst b, 0, 0, 0, c, inst, bit, true, detail⟩

/-- A raise of an event (R537), with the partitions it belongs to and the detail of its report (R519). -/
def raiseWith (s : State) (c inst bit : Nat) (b : Belongs) (detail : Nat) : State :=
  let p := raiseHeader s c inst bit
  if p.2 && unmasked p.1 c inst bit then signal p.1 c inst bit b detail else p.1

/-- A raise of an event, with the partitions it belongs to. -/
def raiseFor (s : State) (c inst bit : Nat) (b : Belongs) : State := raiseWith s c inst bit b 0

/-- A raise of an event of a page whose site, if any, gives the partition. -/
def raise (s : State) (c inst bit : Nat) : State := raiseFor s c inst bit .site

/-- An event of a stack's channel raises the stack's own event too (R248): the `MST` bit of an `MCH` bit. -/
def mchToMst (bit : Nat) : Nat := [4, 5, 6, 7, 3, 2, 1].getD bit 0

/-- A raise of an `MCH` event (R248). -/
def raiseMch (s : State) (ch bit : Nat) : State := raise (raise s cMCH ch bit) cMST (ch / 128) (mchToMst bit)

/-- An item report (R519, R570): class, status, reporting page, address, tag, detail, site. -/
def reportItem (s : State) (lc st page inst addr tag detail : Nat) (site : Option Nat) (part : Option Nat) : State :=
  report s ⟨0, lc, st, 0, site, part, 0, addr, tag, page, inst, 0, false, detail⟩

/-- The log class of a request that ended without an answer (R350, R518): INDETERMINATE, else TIMEOUT. -/
def itemClass (st : Status) : Nat := if st = .indeterminate then 2 else 1

/-! ## Maps of structures -/

def getSeq (s : State) (site : Nat) : Seq := SMap.get s.seqs Seq.init site
def putSeq (s : State) (site : Nat) (q : Seq) : State := { s with seqs := SMap.set s.seqs Seq.init site q }
def getCore (s : State) (c : Nat) : Core := SMap.get s.cores Core.init c
def putCore (s : State) (c : Nat) (k : Core) : State := { s with cores := SMap.set s.cores Core.init c k }
def getSync (s : State) (o : Nat) : SyncObj := SMap.get s.syncs SyncObj.init o
def putSync (s : State) (o : Nat) (k : SyncObj) : State := { s with syncs := SMap.set s.syncs SyncObj.init o k }
def getTx (s : State) (l : Nat) : TxLink := SMap.get s.tx TxLink.init l
def putTx (s : State) (l : Nat) (k : TxLink) : State := { s with tx := SMap.set s.tx TxLink.init l k }
def getRx (s : State) (l : Nat) : RxLink := SMap.get s.rx RxLink.init l
def putRx (s : State) (l : Nat) (k : RxLink) : State := { s with rx := SMap.set s.rx RxLink.init l k }
def getStack (s : State) (k : Nat) : Stack := SMap.get s.stackSt Stack.init k
def putStack (s : State) (k : Nat) (x : Stack) : State := { s with stackSt := SMap.set s.stackSt Stack.init k x }
def getCirc (s : State) (k : Nat) : Circ := SMap.get s.circs Circ.init k
def putCirc (s : State) (k : Nat) (x : Circ) : State := { s with circs := SMap.set s.circs Circ.init k x }
def getDir (s : State) (k : Nat) : DirRec := SMap.get s.dirs DirRec.init k
def putDir (s : State) (k : Nat) (x : DirRec) : State := { s with dirs := SMap.set s.dirs DirRec.init k x }

/-! ## Counters of the congestion record (R317) -/

/-- The key of a link's counter of the interval: 0 bytes sent, 1 bytes received, 2 peak cells in use, 3 beats in which the
head waited for credits, 4 gatherings in a row without traffic. -/
def cmapKey (k l : Nat) : Nat := k * 1024 + l

/-- The key of a source's counter on one line at a site: its cells of stores and atomics. -/
def hotCount (site line node src : Nat) : Nat := 2 ^ 60 + site * 2 ^ 48 + line % 2 ^ 30 * 2 ^ 18 + src * 2 ^ 14 + node

def cmapAdd (s : State) (key n : Nat) : State := { s with cmap := SMap.set s.cmap 0 key (SMap.get s.cmap 0 key + n) }
def cmapMax (s : State) (key n : Nat) : State := { s with cmap := SMap.set s.cmap 0 key (max (SMap.get s.cmap 0 key) n) }

/-- A fold of a state operation over a list. -/
def forAll {α : Type} (l : List α) (s : State) (f : State → α → State) : State := l.foldl f s

/-- Is a pair of twins, the management core 0 or the fabric manager 1, in a management restart or FAILED: its functions rest until
it boots (R430, R442). -/
def managerDown (s : State) (n : Nat) : Bool :=
  getF s ARB_PAIR_STAT_STATE 0 n == 4 || getF s ARB_PAIR_STAT_STATE 0 n == 6

/-- Has step `k` of bring-up completed (R400, R426). -/
def bootDone (s : State) (k : Nat) : Bool := hasBit (getF s MGT_BOOT_STAT_DONE 0 0) (k - 1)

end Sys2Proof.Machine
end

