-- ==== Sys2Proof/Machine/Memory.lean ====
section
/-! DEFINITION. Machine/Memory.lean: the memories of the device as one space of physical bytes, the SRAM banks with
their owners, rotation and power (R135, R190 to R202), and the decode of global addresses (R328 to R330). -/

namespace Sys2Proof.Machine

/-! ## Physical bytes -/

/-- Byte `x` of the scratchpad of position `c`, physical view. -/
def physScratch (c x : Nat) : Nat := 2 ^ 52 + c * 2 ^ 20 + x

/-- Byte `x` of the memory of cluster `clu`, physical view. -/
def physCluster (clu x : Nat) : Nat := 2 ^ 53 + clu * 2 ^ 23 + x

/-- Stack offset `x` of stack `k`. -/
def physStack (k x : Nat) : Nat := k * 2 ^ 46 + x

/-- The unit whose contents a loss takes together: a scratchpad bank, a cluster bank, or a stack. -/
def lossUnit (a : Nat) : Nat :=
  if 2 ^ 53 ≤ a then 2 ^ 21 + (a - 2 ^ 53) / 2 ^ 18
  else if 2 ^ 52 ≤ a then 2 ^ 20 + (a - 2 ^ 52) / 2 ^ 17
  else a / 2 ^ 46

/-- The byte at a physical address: the byte written last; 0 where none was and the contents were never lost (R402); a
free value where they were lost and the byte has not been written since (log entry 12, DESIGN CHOICE). -/
def readByte (s : State) (a : Nat) : Byte :=
  let u := lossUnit a
  let n := SMap.get s.lost 0 u
  if n % 2 = 0 ∨ SMap.get s.since false a then SMap.get s.mem 0 a
  else Config.freeByte (u * 2 ^ 32 + n) a

/-- A byte written. -/
def writeByte (s : State) (a : Nat) (b : Byte) : State :=
  let s := { s with mem := SMap.set s.mem 0 a b }
  if SMap.get s.lost 0 (lossUnit a) % 2 = 0 then s else { s with since := SMap.set s.since false a true }

/-- Consecutive bytes read. -/
def readBytes (s : State) (a n : Nat) : List Byte := (List.range n).map fun i => readByte s (a + i)

/-- Consecutive bytes written. -/
def writeBytes (s : State) : Nat → List Byte → State
  | _, [] => s
  | a, b :: bs => writeBytes (writeByte s a b) (a + 1) bs

/-- The contents of a unit are lost: what was written is gone (R201, R202, R414). The count in `lost` is odd while the
contents are undefined. -/
def loseUnit (s : State) (u : Nat) : State :=
  { s with
    lost := SMap.set s.lost 0 u ((SMap.get s.lost 0 u + 1) / 2 * 2 + 1)
    mem := s.mem.filter fun e => lossUnit e.1 != u
    since := s.since.filter fun e => lossUnit e.1 != u
    ue := s.ue.filter fun e => decide (2 ^ 60 ≤ e.1) || lossUnit (8 * e.1) != u }

/-- Every byte of a unit becomes 0, defined (the SCRUB of R422). -/
def zeroUnit (s : State) (u : Nat) : State :=
  { s with
    lost := SMap.set s.lost 0 u ((SMap.get s.lost 0 u + 1) / 2 * 2)
    mem := s.mem.filter fun e => lossUnit e.1 != u
    since := s.since.filter fun e => lossUnit e.1 != u
    ue := s.ue.filter fun e => lossUnit (if 2 ^ 60 ≤ e.1 then 64 * (e.1 - 2 ^ 60) else 8 * e.1) != u }

/-- The first bytes of the 8-byte words that `n` bytes at `a` cover only in part (R191). -/
def partWords (a n : Nat) : List Nat :=
  (if a % 8 ≠ 0 ∨ n < 8 then [a] else []) ++ (if (a + n) % 8 ≠ 0 then [a + n - 1] else [])

/-- The error-correction word of an address: 8 bytes of SRAM, or a 64-byte burst of DRAM (R190, R225). -/
def eccWord (a : Nat) : Nat := if 2 ^ 52 ≤ a then a / 8 else 2 ^ 60 + a / 64

/-- Is a byte in a word that cannot be corrected. -/
def isUe (s : State) (a : Nat) : Bool := SMap.get s.ue false (eccWord a)

/-- Is any of `n` bytes in such a word. -/
def anyUe (s : State) (a n : Nat) : Bool := (List.range n).any fun i => isUe s (a + i)

/-- A word marked or cleared. -/
def markUe (s : State) (a : Nat) (b : Bool) : State := { s with ue := SMap.set s.ue false (eccWord a) b }

/-- Writing whole words makes them correct again (R226). -/
def clearUe (s : State) (a n : Nat) : State :=
  forAll (List.range n) s fun s i => if isUe s (a + i) then markUe s (a + i) false else s

/-! ## Banks (R190 to R202) -/

/-- A bank: of the scratchpad of a position, or of a cluster's memory. -/
structure Bank where
  cluster : Bool
  inst : Nat
  n : Nat
  deriving DecidableEq, Repr

/-- The fields of a bank's `_STAT` and `_SET` registers (R213, R214). -/
def Bank.sClass (b : Bank) : Field := if b.cluster then CLU_BANK_STAT_CLASS else COR_BANK_STAT_CLASS
def Bank.sRot (b : Bank) : Field := if b.cluster then CLU_BANK_STAT_ROT else COR_BANK_STAT_ROT
def Bank.sIn (b : Bank) : Field := if b.cluster then CLU_BANK_STAT_INBOUND else COR_BANK_STAT_INBOUND
def Bank.sPwr (b : Bank) : Field := if b.cluster then CLU_BANK_STAT_PWR else COR_BANK_STAT_PWR
def Bank.sState (b : Bank) : Field := if b.cluster then CLU_BANK_STAT_STATE else COR_BANK_STAT_STATE
def Bank.sLast (b : Bank) : Field := if b.cluster then CLU_BANK_STAT_LAST else COR_BANK_STAT_LAST
def Bank.tClass (b : Bank) : Field := if b.cluster then CLU_BANK_SET_CLASS else COR_BANK_SET_CLASS
def Bank.tRot (b : Bank) : Field := if b.cluster then CLU_BANK_SET_ROT else COR_BANK_SET_ROT
def Bank.tIn (b : Bank) : Field := if b.cluster then CLU_BANK_SET_INBOUND else COR_BANK_SET_INBOUND
def Bank.tPwr (b : Bank) : Field := if b.cluster then CLU_BANK_SET_PWR else COR_BANK_SET_PWR

/-- The value of a bank's field. -/
def Bank.get (s : State) (b : Bank) (f : Field) : Nat := getF s f b.inst b.n

/-- The owner ID in force; scratchpad banks have none. -/
def Bank.id (s : State) (b : Bank) : Nat := if b.cluster then getF s CLU_BANK_STAT_ID b.inst b.n else 0

/-- The key of a bank. -/
def Bank.key (b : Bank) : Nat := (if b.cluster then 2 ^ 20 else 0) + b.inst * 64 + b.n

/-- The settings that the handover in progress brings into force; without one, those in force (R197). -/
def Bank.next (s : State) (b : Bank) : BankNext :=
  match SMap.find s.bankNext b.key with
  | some t => t
  | none => ⟨b.get s b.sClass, b.id s, b.get s b.sIn, b.get s b.sRot, b.get s b.sPwr, 0⟩

/-- The cluster page that records a bank's refusals (R194). -/
def Bank.clu (b : Bank) : Nat := if b.cluster then b.inst else corClu b.inst

/-- The size of a bank (R190). -/
def Bank.size (b : Bank) : Nat := if b.cluster then 2 ^ 18 else 2 ^ 17

/-- The physical address of byte `x` of a bank. -/
def Bank.phys (b : Bank) (x : Nat) : Nat :=
  if b.cluster then physCluster b.inst (b.n * 2 ^ 18 + x) else physScratch b.inst (b.n * 2 ^ 17 + x)

/-- Byte `x` of a bank in the rotated view (R200). -/
def Bank.rotated (s : State) (b : Bank) (x : Nat) : Nat := b.phys ((x + b.get s b.sRot) % b.size)

/-- The position is RETAINED or OFF, which overrides the settings of its scratchpad banks (R202). -/
def coreAsleep (s : State) (c : Nat) : Bool :=
  let st := getF s COR_STAT_STATE c 0
  st == 0 || st == 1 || st == 6

/-- Is the bank ON: its level in force, not waking or sleeping, and its core not asleep (R201, R202). -/
def Bank.on (s : State) (b : Bank) : Bool :=
  b.get s b.sPwr == 0 && b.get s b.sState != 2 && b.get s b.sState != 3 && (b.cluster || !coreAsleep s b.inst)

/-- The bank and the offset in it of a local address of position `c` (R135, R190). -/
def localBank (c a : Nat) : Option (Bank × Nat) :=
  if a < 0x100000 then some (⟨false, c, a / 2 ^ 17⟩, a % 2 ^ 17)
  else if 0x1000000 ≤ a ∧ a < 0x1800000 then
    let x := a - 0x1000000
    some (⟨true, corClu c, x / 2 ^ 18⟩, x % 2 ^ 18)
  else none

/-- What a bank answers to an access: served at a physical address, to wait, or refused with a reason of `CLU_DENY`. -/
inductive Grant where
  | served
  | wait
  | refused (reason : Nat)
  | noBank
  deriving DecidableEq, Repr

/-- Do a class and an ID make the core the owner of the bank (R192). -/
def Bank.ownedBy (s : State) (b : Bank) (c cls id : Nat) : Bool := cls == 1 && (!b.cluster || lidOfCor s c == some id)

/-- An access of a unit of core `c` to a bank (R192, R194, R197, R201): while the bank drains, the new owner's waits. -/
def coreGrant (s : State) (b : Bank) (c : Nat) : Grant :=
  let own := b.ownedBy s c (b.get s b.sClass) (b.id s)
  if !b.on s then .refused 3
  else if b.get s b.sState = 1 then
    (if b.ownedBy s c (b.next s).cls (b.next s).id then .wait else .refused (if own then 4 else 1))
  else if own then .served
  else .refused 1

/-- The same for data of copy `id`: what the bank accepted before its handover began runs to completion (R197). -/
def copyBankGrant (s : State) (id : Nat) (b : Bank) (c : Nat) : Grant :=
  if b.get s b.sState = 1 ∧ id < (b.next s).since ∧ b.on s ∧ b.ownedBy s c (b.get s b.sClass) (b.id s) then .served
  else coreGrant s b c

/-- INBOUND of a class and a setting: 3 for a PORT bank, 0 for a CACHE bank (R193). -/
def inboundOf (cls inb : Nat) : Nat := if cls = 3 then 3 else if cls = 5 then 0 else inb

/-- INBOUND in force (R193). -/
def Bank.inbound (s : State) (b : Bank) : Nat := inboundOf (b.get s b.sClass) (b.get s b.sIn)

/-- An access of inbound traffic: bit 0 of `rw` for a write, bit 1 for a read (R193, R197, R201). During a handover the
accesses of a new PORT owner wait, and of others those are served that the old and the new settings both let in. -/
def inboundGrant (s : State) (b : Bank) (rw : Nat) : Grant :=
  let adm := fun m => m &&& rw == rw
  let t := b.next s
  if !b.on s then .refused 3
  else if b.get s b.sState = 1 then
    (if t.cls = 3 ∧ rw ≠ 0 then .wait
      else if adm (b.inbound s) && adm (inboundOf t.cls t.inb) then .served else .refused 2)
  else if adm (b.inbound s) then .served else .refused 2

/-- A refusal recorded in `CLU_DENY`, the first since VALID was cleared (R194, R215): class of the requester, bank, ID,
reason. -/
def deny (s : State) (b : Bank) (cls id reason : Nat) : State :=
  let u := b.clu
  let s := { s with denyAt := SMap.set s.denyAt 0 u (nowClk s + 1) }
  if getF s CLU_DENY_VALID u 0 = 1 then s
  else
    let s := setF s CLU_DENY_VALID u 0 1
    let s := setF s CLU_DENY_CLASS u 0 cls
    let s := setF s CLU_DENY_BANK u 0 b.n
    let s := setF s CLU_DENY_SCOPE u 0 (if b.cluster then 1 else 0)
    let s := setF s CLU_DENY_ID u 0 id
    setF s CLU_DENY_REASON u 0 reason

/-- The unit addresses that an access of `n` bytes at `a` touches, one for each 64-byte unit. -/
def unitsOf (a n : Nat) : List Nat :=
  (List.range ((a % 64 + n + 63) / 64)).map fun i => if i = 0 then a else a / 64 * 64 + 64 * i

/-- The first answer that is not `served` among the banks of an access of `n` bytes, with its bank. -/
def grantOver (ask : Bank → Grant) (c a n : Nat) : Grant × Option Bank :=
  (unitsOf a n).foldl (fun (g : Grant × Option Bank) u =>
    if g.1 == .served then
      match localBank c u with
      | none => (.noBank, none)
      | some (b, _) => (ask b, some b)
    else g) (.served, none)

/-- An access of a unit of core `c` to `n` bytes at local address `a`. -/
def localGrant (s : State) (c a n : Nat) : Grant × Option Bank := grantOver (fun b => coreGrant s b c) c a n

/-- The physical address of a byte that a unit of core `c` reaches at local address `a`, in the rotated view (R200). -/
def localPhys (s : State) (c a : Nat) : Nat :=
  match localBank c a with
  | some (b, x) => b.rotated s x
  | none => 0

/-- Bytes at a local address. -/
def readLocal (s : State) (c a : Nat) : Byte := readByte s (localPhys s c a)

/-- Bytes written at a local address; whole words become correct again. -/
def writeLocal (s : State) (c : Nat) : Nat → List Byte → State
  | _, [] => s
  | a, b :: bs => writeLocal (writeByte s (localPhys s c a) b) c (a + 1) bs

/-- Does any byte of a local access lie in a word that cannot be corrected. -/
def localUe (s : State) (c a n : Nat) : Bool := (List.range n).any fun i => isUe s (localPhys s c (a + i))

/-! ## Global addresses (R328 to R330) -/

def gaNode (a : Nat) : Nat := bitsOf a 63 50
def gaSite (a : Nat) : Nat := bitsOf a 49 46
def gaOfs (a : Nat) : Nat := bitsOf a 45 0

/-- A global address of this module. -/
def gaHere (s : State) (site ofs : Nat) : Nat := getF s FAB_NODE_NODE 0 0 * 2 ^ 50 + site * 2 ^ 46 + ofs

/-- Is the address one of this module. -/
def isHere (s : State) (a : Nat) : Bool := gaNode a == getF s FAB_NODE_NODE 0 0

/-- The global address of a local address of core `c` (R330). -/
def gaOfLocal (s : State) (c a : Nat) : Nat :=
  if a < 0x100000 then
    gaHere s (corSite c) (0x10000000 + ((lidOfCor s c).getD 0 % 256) * 2 ^ 20 + a)
  else gaHere s (corSite c) (c % 160 / 40 * 0x800000 + (a - 0x1000000))

/-- What an offset at a site names (R219, R220, R329). -/
inductive Place where
  | bank (b : Bank) (x : Nat)
  | stack (k x : Nat)
  | none
  deriving DecidableEq, Repr

/-- The decode of an offset at a site (R329, R220). -/
def placeOf (s : State) (site ofs : Nat) : Place :=
  match siteDie site with
  | some d =>
    if ofs < 4 * 0x800000 then .bank ⟨true, d * 4 + ofs / 0x800000, ofs % 0x800000 / 2 ^ 18⟩ (ofs % 2 ^ 18)
    else if 0x10000000 ≤ ofs ∧ ofs < 0x20000000 then
      let l := (ofs - 0x10000000) / 2 ^ 20
      if 256 ≤ l then .none
      else match corOfLid s (site * 256 + l) with
        | some c => .bank ⟨false, c, ofs % 2 ^ 20 / 2 ^ 17⟩ (ofs % 2 ^ 17)
        | none => .none
    else .none
  | none =>
    match siteStack site with
    | some k => if ofs < getF s MST_CAP_MIB k 0 * 2 ^ 20 then .stack k ofs else .none
    | none => .none

/-- The physical address of a place, physical view. -/
def Place.phys : Place → Nat
  | .bank b x => b.phys x
  | .stack k x => physStack k x
  | .none => 0

/-- The MCH instance of a stack offset (R219, R20). -/
def chanOf (k ofs : Nat) : Nat := k * 128 + bitsOf ofs 12 6

end Sys2Proof.Machine
end

