-- ==== Sys2Proof/Machine/Sync.lean ====
section
/-! DEFINITION. Machine/Sync.lean: sync objects, their thresholds, shadows and subscriptions (R344 to R347, R366), and
what an update may bring about besides (R379, R399). -/

namespace Sys2Proof.Machine

/-- The counter has reached a value: their difference modulo 2^48 is below 2^47 (R78, R184, R345). -/
def reached (v target : Nat) : Bool := decide ((v + 2 ^ 48 - target % 2 ^ 48) % 2 ^ 48 < 2 ^ 47)

/-- The site that holds an object (R344). -/
def syncSite (o : Nat) : Nat := o / 4096 % 16

/-- The counter as a wait at its site sees it: updates of the present beat are seen in the next (R78). -/
def SyncObj.visible (s : State) (o : SyncObj) : Nat := if o.stamp = nowBeat s + 1 then o.before else o.val

/-- The shadow of an object at a site (R346). -/
def shadowOf (s : State) (site obj : Nat) : Option Shadow := (SMap.get s.shadows [] site).find? fun h => h.obj == obj

/-- The counter as a shadow shows it. -/
def Shadow.visible (s : State) (h : Shadow) : Nat := if h.stamp = nowBeat s + 1 then h.before else h.val

/-- What a wait at a site sees of an object: its counter at the holding site, its shadow elsewhere (R78, R346). -/
def seenAt (s : State) (site obj : Nat) : Nat :=
  if syncSite obj = site then (getSync s obj).visible s
  else match shadowOf s site obj with
    | some h => h.visible s
    | none => 0

/-- How many start conditions beyond the first `n` a counter has reached (R372). -/
def startsBeyond (v stride n : Nat) : Nat :=
  let d := (v + 2 ^ 48 - stride * n % 2 ^ 48) % 2 ^ 48
  if d < 2 ^ 47 then d / max stride 1 else 0

/-- The dies of the set that a sampler names (R370). -/
def smpMembers (s : State) (d : Nat) : List Nat := (List.range 8).filter fun x => hasBit (getF s SMP_CTRL_SET d 0) x

/-- A context has a round in progress (R383). -/
def gmbBusy (s : State) (c : Nat) : Bool := (SMap.find s.gmbRuns c).isSome

/-- A start condition reached by an update while a run of the set led by die `d` is in progress: PENDING, and OVERRUN for a
further one (R372). -/
def smpStartHook (s : State) (obj old new : Nat) (d : Nat) : State :=
  if (SMap.find s.smpRuns d).isSome ∧ getF s SMP_START_SYNC d 0 = obj then
    let st := getF s SMP_START_STRIDE d 0
    let n := SMap.get s.smpStarted 0 d
    let a := startsBeyond old st n
    let b := startsBeyond new st n
    if b ≤ a then s
    else
      let pend := getF s SMP_STAT_PENDING d 0 = 1
      let s := forAll (smpMembers s d) s fun s x => setF s SMP_STAT_PENDING x 0 1
      if pend ∨ 2 ≤ b then forAll (smpMembers s d) s fun s x => raise s cSMP x 1 else s
  else s

/-- To whom an event of a context belongs: the partition that holds its LEAD die (R571). -/
def ctxBelongs (s : State) (c : Nat) : Belongs :=
  match partOf s (dieSite (getF s GMB_CTX_CTRL_LEAD 0 c)) with
  | some p => .part p
  | none => .noPart

/-- The same for a gambit context (R383). -/
def gmbStartHook (s : State) (obj old new : Nat) (c : Nat) : State :=
  if gmbBusy s c ∧ getF s GMB_CTX_START_SYNC 0 c = obj then
    let st := getF s GMB_CTX_START_STRIDE 0 c
    let n := SMap.get s.gmbStarted 0 c
    let a := startsBeyond old st n
    let b := startsBeyond new st n
    if b ≤ a then s
    else
      let pend := SMap.get s.gmbPending false c
      let s := { s with gmbPending := SMap.set s.gmbPending false c true }
      if pend ∨ 2 ≤ b then
        raiseFor s cGMB 0 5 (ctxBelongs s c)
      else s
  else s

/-- A sync object takes a value at its holding site, whole (R344): the threshold event when the update makes it reached
(R345), the update on its way to every subscribed site (R346), and the start conditions that wait on it. -/
def syncSet (s : State) (obj v : Nat) : State :=
  let o := getSync s obj
  let v := v % 2 ^ 48
  let before := if o.stamp = nowBeat s + 1 then o.before else o.val
  let s1 := putSync s obj { o with val := v, before := before, stamp := nowBeat s + 1 }
  let s2 := forAll (List.range 16) s1 fun s x =>
    if hasBit o.subs x then { s with shadowMsgs := s.shadowMsgs ++ [(x, obj, v)] } else s
  let s3 := if !reached o.val o.thr && reached v o.thr && o.thrEvt then
      raise (setF s2 SYN_THR_LAST (obj / 512) 0 (obj % 512)) cSYN (obj / 512) 0
    else s2
  let s4 := forAll (List.range 8) s3 fun s d => smpStartHook s obj o.val v d
  forAll (List.range 8) s4 fun s c => gmbStartHook s obj o.val v c

/-- A sync object advanced (R344). -/
def syncAdd (s : State) (obj k : Nat) : State := syncSet s obj ((getSync s obj).val + k)

/-- Shadows a site can hold (R346). -/
abbrev shadowMax : Nat := 1024

/-- A site's shadow list put back, with `PRT_SHADOW.USED`. -/
def putShadows (s : State) (site : Nat) (l : List Shadow) : State :=
  setF { s with shadows := SMap.set s.shadows [] site l } PRT_SHADOW_USED site 0 l.length

/-- The holding site records or drops a subscriber (R346, `SYN_CFG.SUBS`). -/
def setSub (s : State) (obj site : Nat) (on : Bool) : State :=
  let o := getSync s obj
  putSync s obj { o with subs := if on then setBit o.subs site else clearBit o.subs site }

/-- A site subscribes to an object (R346): a SWAIT only while a shadow is free, a move list also in the place of the
SWAIT shadow subscribed last. The answer is the object whose shadow gave way, and whether there is a shadow now. -/
def subscribe (s : State) (site obj : Nat) (byMove : Bool) : State × Option Nat × Bool :=
  let l := SMap.get s.shadows [] site
  match l.find? (fun h => h.obj == obj) with
  | some _ =>
    (if byMove then putShadows s site (l.map fun h => if h.obj = obj then { h with byMove := true } else h) else s,
      none, true)
  | none =>
    let v := (getSync s obj).val
    let h : Shadow := ⟨obj, v, v, 0, nowClk s, byMove⟩
    if l.length < shadowMax then (setSub (putShadows s site (l ++ [h])) obj site true, none, true)
    else if byMove then
      match (l.filter fun h => !h.byMove).getLast? with
      | some w =>
        let s := setSub s w.obj site false
        (setSub (putShadows s site ((l.filter fun h => h.obj != w.obj) ++ [h])) obj site true, some w.obj, true)
      | none => (s, none, false)
    else (s, none, false)

/-- A subscription of a site ends (R346). -/
def unsubscribe (s : State) (site obj : Nat) : State :=
  setSub (putShadows s site ((SMap.get s.shadows [] site).filter fun h => h.obj != obj)) obj site false

/-- The oldest update on its way to a site arrives there, and its shadow takes it (R346, R456). -/
def deliverShadow (s : State) (site : Nat) : State :=
  match s.shadowMsgs.find? fun m => m.1 == site with
  | none => s
  | some m =>
    let s := { s with shadowMsgs := s.shadowMsgs.erase m }
    putShadows s site ((SMap.get s.shadows [] site).map fun h =>
      if h.obj = m.2.1 then
        { h with val := m.2.2, before := (if h.stamp = nowBeat s + 1 then h.before else h.val), stamp := nowBeat s + 1 }
      else h)

end Sys2Proof.Machine
end

