-- ==== Sys2Proof/Machine/Numbers.lean ====
section
/-! DEFINITION. Machine/Numbers.lean: the number formats of R94 to R107, exact values, and the rounding and conversion
rules of R114 to R119. Flags are bits of the arithmetic status word (R120). -/

namespace Sys2Proof.Machine

/-! ## Flags of the arithmetic status word (R120) -/

abbrev fINVALID : Nat := 1
abbrev fDIV0 : Nat := 2
abbrev fOVERFLOW : Nat := 4
abbrev fUNDERFLOW : Nat := 8
abbrev fINEXACT : Nat := 16
abbrev fSATURATED : Nat := 32
abbrev fNAN_SCALE : Nat := 64
abbrev fINT_SAT : Nat := 128

/-- A result code and the flags that making it sets. -/
structure Res where
  code : Nat
  flags : Nat
  deriving DecidableEq, Repr

/-! ## Exact values -/

/-- The value of an element: NaN, an infinity, or an exact number `± m × 2^e`. Zero keeps its sign (R96). -/
inductive Val where
  | nan
  | inf (neg : Bool)
  | fin (neg : Bool) (m : Nat) (e : Int)
  deriving DecidableEq, Repr

/-- A floating-point element format (R94): exponent and mantissa bits, bias, largest finite code, the code of infinity
where the format has one, and the canonical NaN where it has one (R98). -/
structure FFmt where
  ebits : Nat
  mbits : Nat
  bias : Nat
  maxCode : Nat
  infCode : Option Nat
  nanCode : Option Nat
  deriving DecidableEq, Repr

def fp32 : FFmt := ⟨8, 23, 127, 0x7F7FFFFF, some 0x7F800000, some 0x7FC00000⟩
def fp16 : FFmt := ⟨5, 10, 15, 0x7BFF, some 0x7C00, some 0x7E00⟩
def bf16 : FFmt := ⟨8, 7, 127, 0x7F7F, some 0x7F80, some 0x7FC0⟩
def e5m2 : FFmt := ⟨5, 2, 15, 0x7B, some 0x7C, some 0x7E⟩
def e4m3 : FFmt := ⟨4, 3, 7, 0x7E, none, some 0x7F⟩
def e3m2 : FFmt := ⟨3, 2, 3, 0x1F, none, none⟩
def e2m3 : FFmt := ⟨2, 3, 1, 0x1F, none, none⟩
def e2m1 : FFmt := ⟨2, 1, 1, 0x7, none, none⟩

/-- The width of a format's codes. -/
def FFmt.width (f : FFmt) : Nat := 1 + f.ebits + f.mbits

/-- The exponent of the least significant bit of the smallest subnormal. -/
def FFmt.qmin (f : FFmt) : Int := 1 - (f.bias : Int) - (f.mbits : Int)

/-- The magnitude of a finite code without its sign: mantissa and exponent (R94, R95, R97). -/
def FFmt.magOf (f : FFmt) (code : Nat) : Nat × Int :=
  let ex := code / 2 ^ f.mbits
  let ma := code % 2 ^ f.mbits
  if ex = 0 then (ma, f.qmin) else (2 ^ f.mbits + ma, f.qmin + (ex : Int) - 1)

/-- The value of a code (R94 to R98). -/
def FFmt.decode (f : FFmt) (code : Nat) : Val :=
  let neg := hasBit code (f.width - 1)
  let mag := code % 2 ^ (f.width - 1)
  if mag ≤ f.maxCode then
    let p := f.magOf mag
    .fin neg p.1 p.2
  else if f.infCode = some mag then .inf neg
  else .nan

/-- The sign bit of a format, set or clear. -/
def FFmt.signed (f : FFmt) (neg : Bool) (mag : Nat) : Nat := if neg then 2 ^ (f.width - 1) + mag else mag

/-- The canonical NaN (R98); a format without one is never asked. -/
def FFmt.nan (f : FFmt) : Nat := f.nanCode.getD 0

/-- The number of bits of a number. -/
def bitLen (n : Nat) : Nat := if n = 0 then 0 else Nat.log2 n + 1

/-- `m × 2^e` brought to a multiple of `2^q` from below: the multiple, and whether anything was lost. -/
def shiftDown (m : Nat) (e q : Int) : Nat × Bool :=
  if q ≤ e then (m * 2 ^ (e - q).toNat, false)
  else
    let d := (q - e).toNat
    (m / 2 ^ d, m % 2 ^ d != 0)

/-- The 16 bits of `m × 2^e` immediately below `2^q` (R116). -/
def bitsBelow (m : Nat) (e q : Int) : Nat :=
  if q ≤ e then 0 else (m * 2 ^ 16 / 2 ^ (q - e).toNat) % 2 ^ 16

/-- Twice `m × 2^e` compared with an odd multiple of `2^q`: is the part below `2^q` above, at or below one half. -/
def halfCmp (m : Nat) (e q : Int) : Ordering :=
  if q ≤ e then .lt
  else
    let d := (q - e).toNat
    compare (2 * (m % 2 ^ d)) (2 ^ d)

/-- The exponent of the unit that a value with this magnitude is rounded to. -/
def FFmt.unitExp (f : FFmt) (m : Nat) (e : Int) : Int :=
  max (e + (bitLen m : Int) - 1 - (f.mbits : Int)) f.qmin

/-- `m₁ × 2^e₁ ≤ m₂ × 2^e₂`. -/
def magLE (m₁ : Nat) (e₁ : Int) (m₂ : Nat) (e₂ : Int) : Bool :=
  let q := min e₁ e₂
  decide (m₁ * 2 ^ (e₁ - q).toNat ≤ m₂ * 2 ^ (e₂ - q).toNat)

/-- A finite magnitude overflows when it is at least max finite plus half a unit (R118). -/
def FFmt.overflows (f : FFmt) (m : Nat) (e : Int) : Bool :=
  let p := f.magOf f.maxCode
  magLE (2 * p.1 + 1) (p.2 - 1) m e

/-- The code of `n × 2^q`, where `q` is the unit exponent that goes with `n` (R94). -/
def FFmt.codeOf (f : FFmt) (n : Nat) (q : Int) : Nat := (q - f.qmin).toNat * 2 ^ f.mbits + n

/-- How a narrowing conversion rounds (R115): to nearest even, or stochastically with the 16-bit draw `r`. -/
inductive Rnd where
  | rne
  | sr (r : Nat)
  deriving DecidableEq, Repr

/-- The flags of a finite rounding: INEXACT when the value changed, UNDERFLOW when the result is then subnormal or zero
(R120). -/
def roundFlags (f : FFmt) (inexact : Bool) (code : Nat) : Nat :=
  if inexact then fINEXACT ||| (if code < 2 ^ f.mbits then fUNDERFLOW else 0) else 0

/-- A finite value below the overflow threshold, rounded (R115, R116, R118): the code of the magnitude and the flags. -/
def FFmt.roundMag (f : FFmt) (rnd : Rnd) (m : Nat) (e : Int) : Res :=
  if m = 0 then ⟨0, 0⟩
  else
    let q := f.unitExp m e
    let p := shiftDown m e q
    let up : Bool := match rnd with
      | .rne => match halfCmp m e q with
        | .gt => true
        | .eq => p.1 % 2 == 1
        | .lt => false
      | .sr r => decide (65536 ≤ bitsBelow m e q + r)
    let c := min (f.codeOf (if up then p.1 + 1 else p.1) q) f.maxCode
    ⟨c, roundFlags f p.2 c⟩

/-- A value converted to a floating format under a rounding mode and the saturation choice (R118). -/
def FFmt.convert (f : FFmt) (rnd : Rnd) (sat : Bool) : Val → Res
  | .nan => ⟨f.nan, 0⟩
  | .inf neg =>
    match f.infCode with
    | some c => ⟨f.signed neg c, 0⟩
    | none => if sat then ⟨f.signed neg f.maxCode, fSATURATED⟩ else ⟨f.nan, 0⟩
  | .fin neg m e =>
    if f.overflows m e then
      if sat then ⟨f.signed neg f.maxCode, fSATURATED ||| fINEXACT⟩
      else match f.infCode with
        | some c => ⟨f.signed neg c, fOVERFLOW ||| fINEXACT⟩
        | none => ⟨f.nan, fOVERFLOW ||| fINEXACT⟩
    else
      let r := f.roundMag rnd m e
      ⟨f.signed neg r.code, r.flags⟩

/-- A value rounded to FP32, to nearest even; beyond the range it is an infinity (R110, R114). -/
def toFp32 (v : Val) : Res := fp32.convert .rne false v

/-- A value rounded to an integer, then clamped to `[lo, hi]` (R118), with the flags of R120. -/
def toInt (rnd : Rnd) (lo hi : Int) : Val → Int × Nat
  | .nan => (0, fINVALID)
  | .inf neg => (if neg then lo else hi, fINT_SAT)
  | .fin neg m e =>
    let p := shiftDown m e 0
    let up : Bool := match rnd with
      | .rne => match halfCmp m e 0 with
        | .gt => true
        | .eq => p.1 % 2 == 1
        | .lt => false
      | .sr r => decide (65536 ≤ bitsBelow m e 0 + r)
    let n : Nat := if up then p.1 + 1 else p.1
    let i : Int := if neg then -(n : Int) else n
    let fl := if p.2 then fINEXACT ||| (if n = 0 then fUNDERFLOW else 0) else 0
    if i < lo then (lo, fINT_SAT ||| fINEXACT)
    else if hi < i then (hi, fINT_SAT ||| fINEXACT)
    else (i, fl)

/-- The value of an integer. -/
def Val.ofInt (i : Int) : Val := .fin (decide (i < 0)) i.natAbs 0

/-- A signed number `± m` of a finite value at a common exponent `q ≤ e`. -/
def signedAt (neg : Bool) (m : Nat) (e q : Int) : Int :=
  let n : Int := (m * 2 ^ (e - q).toNat : Nat)
  if neg then -n else n

/-- The exact product (R109, R112): infinity times zero is NaN with INVALID. -/
def Val.mul : Val → Val → Val × Nat
  | .nan, _ => (.nan, 0)
  | _, .nan => (.nan, 0)
  | .inf a, .inf b => (.inf (xor a b), 0)
  | .inf a, .fin b m _ => if m = 0 then (.nan, fINVALID) else (.inf (xor a b), 0)
  | .fin a m _, .inf b => if m = 0 then (.nan, fINVALID) else (.inf (xor a b), 0)
  | .fin a m e, .fin b m' e' => (.fin (xor a b) (m * m') (e + e'), 0)

/-- The exact sum of two values: opposite infinities are NaN with INVALID; a zero sum is +0 unless both are −0
(R112). -/
def Val.add : Val → Val → Val × Nat
  | .nan, _ => (.nan, 0)
  | _, .nan => (.nan, 0)
  | .inf a, .inf b => if a = b then (.inf a, 0) else (.nan, fINVALID)
  | .inf a, .fin _ _ _ => (.inf a, 0)
  | .fin _ _ _, .inf b => (.inf b, 0)
  | .fin a m e, .fin b m' e' =>
    let q := min e e'
    let i := signedAt a m e q + signedAt b m' e' q
    if i = 0 then (.fin (a && b && m == 0 && m' == 0) 0 q, 0) else (.fin (decide (i < 0)) i.natAbs q, 0)

/-- The value with its sign changed. -/
def Val.neg : Val → Val
  | .nan => .nan
  | .inf a => .inf (!a)
  | .fin a m e => .fin (!a) m e

/-- The value scaled by `2^k` (R99, R102). -/
def Val.scale (k : Int) : Val → Val
  | .fin a m e => .fin a m (e + k)
  | v => v

/-! ## FP32 arithmetic (R114) -/

/-- The value of an FP32 code. -/
def f32 (c : Nat) : Val := fp32.decode c

/-- The FP32 result of an exact operation. -/
def finish32 (p : Val × Nat) : Res :=
  let r := toFp32 p.1
  ⟨r.code, r.flags ||| p.2⟩

def f32add (a b : Nat) : Res := finish32 ((f32 a).add (f32 b))
def f32sub (a b : Nat) : Res := finish32 ((f32 a).add (f32 b).neg)
def f32mul (a b : Nat) : Res := finish32 ((f32 a).mul (f32 b))

/-- Fused multiply-add, one rounding. -/
def f32fma (a b c : Nat) : Res :=
  let p := (f32 a).mul (f32 b)
  let q := p.1.add (f32 c)
  finish32 (q.1, p.2 ||| q.2)

/-- Is the FP32 code a NaN. -/
def f32isNan (c : Nat) : Bool := f32 c == .nan

/-- A total order key of a non-NaN FP32 code, with −0 below +0 (R114). -/
def f32key (c : Nat) : Int := if hasBit c 31 then -((c % 2 ^ 31 : Nat) : Int) - 1 else (c % 2 ^ 31 : Nat)

/-- min and max return the number when exactly one operand is NaN, canonical NaN when both are (R114). -/
def f32min (a b : Nat) : Res :=
  if f32isNan a then (if f32isNan b then ⟨fp32.nan, 0⟩ else ⟨b, 0⟩)
  else if f32isNan b then ⟨a, 0⟩ else ⟨if f32key a ≤ f32key b then a else b, 0⟩

def f32max (a b : Nat) : Res :=
  if f32isNan a then (if f32isNan b then ⟨fp32.nan, 0⟩ else ⟨b, 0⟩)
  else if f32isNan b then ⟨a, 0⟩ else ⟨if f32key a ≤ f32key b then b else a, 0⟩

/-- abs and negate; a NaN gives the canonical NaN (R98). -/
def f32abs (a : Nat) : Res := if f32isNan a then ⟨fp32.nan, 0⟩ else ⟨a % 2 ^ 31, 0⟩
def f32neg (a : Nat) : Res := if f32isNan a then ⟨fp32.nan, 0⟩ else ⟨a ^^^ 2 ^ 31, 0⟩

/-- An FP32 code as a unit produces it: every NaN is the canonical one (R98). -/
def canon32 (a : Nat) : Nat := if f32isNan a then fp32.nan else a

/-- Quiet comparisons; −0 equals +0 (R96, R114, R178). -/
def f32eq (a b : Nat) : Bool :=
  !f32isNan a && !f32isNan b && (a == b || (a % 2 ^ 31 == 0 && b % 2 ^ 31 == 0))
def f32lt (a b : Nat) : Bool :=
  !f32isNan a && !f32isNan b && !f32eq a b && decide (f32key a < f32key b)
def f32le (a b : Nat) : Bool := f32lt a b || f32eq a b
def f32ne (a b : Nat) : Bool := !f32eq a b

/-! ## Format codes (R170) -/

/-- What a format code of R170 names: a plain floating format, integers of 8 or 32 bits, a block-scaled floating
format, MXINT8, or a palette format by its index width. -/
inductive Fmt where
  | flt (f : FFmt)
  | int8
  | int32
  | mx (f : FFmt)
  | mxint8
  | pal (ibits : Nat)
  deriving DecidableEq, Repr

/-- The format of a code, none for the reserved codes (R170). -/
def fmtOf : Nat → Option Fmt
  | 0x00 => some (.flt fp32)
  | 0x01 => some (.flt fp16)
  | 0x02 => some (.flt bf16)
  | 0x03 => some (.flt e4m3)
  | 0x04 => some (.flt e5m2)
  | 0x05 => some .int8
  | 0x06 => some .int32
  | 0x08 => some (.mx e4m3)
  | 0x09 => some (.mx e5m2)
  | 0x0A => some (.mx e3m2)
  | 0x0B => some (.mx e2m3)
  | 0x0C => some (.mx e2m1)
  | 0x0D => some .mxint8
  | 0x10 => some (.pal 4)
  | 0x11 => some (.pal 3)
  | 0x12 => some (.pal 2)
  | _ => none

/-- Bits of one element (R94, R100, R104). -/
def Fmt.bits : Fmt → Nat
  | .flt f => f.width
  | .int8 => 8
  | .int32 => 32
  | .mx f => f.width
  | .mxint8 => 8
  | .pal i => i

/-- Does the format carry a scale byte for each block (R100, R104). -/
def Fmt.scaled : Fmt → Bool
  | .mx _ => true
  | .mxint8 => true
  | .pal _ => true
  | _ => false

/-- Is it a palette format. -/
def Fmt.isPal : Fmt → Bool
  | .pal _ => true
  | _ => false

/-- Bytes of one 32-element block (R100, R104). -/
def Fmt.blockBytes (f : Fmt) : Nat := f.bits * 4

/-- The largest exponent of an element format, for R119. -/
def Fmt.emax : Fmt → Int
  | .mx f =>
    let p := f.magOf f.maxCode
    p.2 + (bitLen p.1 : Int) - 1
  | _ => 0

/-- The value of an element code before scaling; a palette index goes through the codebook's E4M3 entry (R102,
R106). -/
def Fmt.elem (f : Fmt) (entry : Nat → Nat) (code : Nat) : Val :=
  match f with
  | .flt g => g.decode code
  | .int8 => Val.ofInt (toSigned 8 code)
  | .int32 => Val.ofInt (toSigned 32 code)
  | .mx g => g.decode code
  | .mxint8 => (Val.ofInt (toSigned 8 code)).scale (-6)
  | .pal _ => e4m3.decode (entry code)

/-- Element `i` of a block, which is read as one little-endian integer (R101). -/
def Fmt.code (f : Fmt) (block i : Nat) : Nat := bitsOf block (f.bits * i + f.bits - 1) (f.bits * i)

/-- An element under its block scale: code 0xFF makes it NaN (R99). -/
def scaledElem (s : Nat) (v : Val) : Val := if s = 0xFF then .nan else v.scale ((s : Int) - 127)

/-! ## Conversion to a block-scaled format (R119) -/

/-- The larger of two finite magnitudes, as (mantissa, exponent); NaN and infinities are not asked. -/
def magMax (a b : Nat × Int) : Nat × Int := if magLE a.1 a.2 b.1 b.2 then b else a

/-- The largest magnitude of a block, none when an element is NaN or infinite. -/
def blockMax : List Val → Option (Nat × Int)
  | [] => some (0, 0)
  | .fin _ m e :: vs => (blockMax vs).map (magMax (m, e))
  | _ :: _ => none

/-- The scale code of a block and its exponent (R119). -/
def blockScale (f : Fmt) (vs : List Val) : Nat × Option Int :=
  match blockMax vs with
  | none => (0xFF, none)
  | some (m, e) =>
    if m = 0 then (0, none)
    else
      let k := max (-127) (min 127 (e + (bitLen m : Int) - 1 - f.emax))
      ((k + 127).toNat, some k)

/-- An MXINT8 element of a value in units of the last bit (R119): from half a unit above 127 on it overflows and is clamped
with SATURATED and INEXACT under either rounding mode (R118); below that a draw that would round up past 127 gives 127 with
INEXACT alone (R116). -/
def mxint8Elem (rnd : Rnd) (v : Val) : Res :=
  let beyond := match v with
    | .fin _ m e => magLE 255 (-1) m e
    | _ => true
  let p := toInt rnd (-127) 127 v
  ⟨ofSigned 8 p.1, if beyond then fSATURATED ||| fINEXACT else if p.2 &&& fINT_SAT ≠ 0 then fINEXACT else p.2⟩

/-- One element of a block under a scale exponent (R119). -/
def mxElem (f : Fmt) (rnd : Rnd) (k : Int) (v : Val) : Res :=
  match f with
  | .mx g => g.convert rnd true (v.scale (-k))
  | _ => mxint8Elem rnd (v.scale (6 - k))

/-- A single value converted to a format that has no block scale (R115, R118). -/
def convertTo (f : Fmt) (rnd : Rnd) (sat : Bool) (v : Val) : Res :=
  match f with
  | .flt g => g.convert rnd sat v
  | .int8 =>
    let p := toInt rnd (-128) 127 v
    ⟨ofSigned 8 p.1, p.2⟩
  | .int32 =>
    let p := toInt rnd (-(2 ^ 31)) (2 ^ 31 - 1) v
    ⟨ofSigned 32 p.1, p.2⟩
  | _ => ⟨0, 0⟩

end Sys2Proof.Machine
end

