-- ==== Sys2Proof/Machine/Tile.lean ====
section
/-! DEFINITION. Machine/Tile.lean: what a tile instruction computes (R104 to R113, R123 to R127, R169 to R173), from
the bytes of the scratchpad as a function of the local address. -/

namespace Sys2Proof.Machine

/-- The tile descriptor of R169. -/
structure Desc where
  aElem : Nat
  aScale : Nat
  bElem : Nat
  bScale : Nat
  out : Nat
  kg : Nat
  n : Nat
  fmtA : Nat
  fmtB : Nat
  fmtO : Nat
  rnd : Nat
  sat : Bool
  bStride : Nat
  oStride : Nat
  bsStride : Nat
  deriving DecidableEq, Repr

/-- The number at `n` bytes of memory (R8). -/
def readLE (rd : Nat → Byte) : Nat → Nat → Nat
  | _, 0 => 0
  | a, n + 1 => (rd a).toNat + 256 * readLE rd (a + 1) n

/-- The descriptor that 64 bytes hold (R169). -/
def readDesc (rd : Nat → Byte) (a : Nat) : Desc :=
  let w := fun i => readLE rd (a + 8 * i) 8
  ⟨bitsOf (w 0) 31 0, bitsOf (w 0) 63 32, bitsOf (w 1) 31 0, bitsOf (w 1) 63 32, bitsOf (w 2) 31 0,
    bitsOf (w 3) 15 0 + 1, bitsOf (w 3) 21 16 + 1, bitsOf (w 3) 26 22, bitsOf (w 3) 31 27, bitsOf (w 3) 36 32,
    bitOf (w 3) 37, hasBit (w 3) 38, bitsOf (w 4) 31 0, bitsOf (w 4) 63 32, bitsOf (w 5) 31 0⟩

/-- An 8-bit floating format without scales. -/
def Fmt.isFp8 : Fmt → Bool
  | .flt f => f == e4m3 || f == e5m2
  | _ => false

/-- MXFP8, MXFP6, MXFP4 or MXINT8. -/
def Fmt.isMx : Fmt → Bool
  | .mx _ => true
  | .mxint8 => true
  | _ => false

/-- MXFP8. -/
def Fmt.isMxFp8 : Fmt → Bool
  | .mx f => f == e4m3 || f == e5m2
  | _ => false

/-- MXFP4. -/
def Fmt.isMxFp4 : Fmt → Bool
  | .mx f => f == e2m1
  | _ => false

/-- The pairings of R108. MXFP4 as B meets only MXFP4. -/
def pairing (a b : Fmt) : Bool :=
  (a.isFp8 && b.isFp8) ||
  (a.isMx && b.isMx && (!b.isMxFp4 || a.isMxFp4)) ||
  (a.isPal && (b.isFp8 || b.isMxFp8 || b == .flt bf16)) ||
  (a == .flt bf16 && b == .flt bf16) ||
  (a == .flt fp16 && b == .flt fp16) ||
  (a == .int8 && b == .int8)

/-- The 16-bit pairings, palette × BF16 among them (R124, R131), whose group sums are aligned and truncated (R109, log
entry 15). -/
def wide16 (a b : Fmt) : Bool := b == .flt bf16 || a == .flt fp16

/-- The output formats allowed (R172). -/
def outAllowed (a o : Fmt) : Bool :=
  if a == .int8 then o == .int8 || o == .int32
  else match o with
    | .flt _ => true
    | _ => false

/-- Bytes of one output column of 16 values (R173). -/
def outBytes (o : Fmt) : Nat := o.bits * 2

/-! ## Group sums -/

/-- The exact sum of a list of values (R112): −0 only when every term is −0. -/
def sumOf : List Val → Val
  | [] => .fin true 0 0
  | v :: vs => (v.add (sumOf vs)).1

/-- The exact sum with its flags (R112): INVALID when infinities of both signs stand in it, whatever stands between them. -/
def sumVals (l : List Val) : Val × Nat :=
  (sumOf l, if l.contains (.inf false) && l.contains (.inf true) then fINVALID else 0)

/-- The products of two blocks of 32 (R109). -/
def products : List Val → List Val → List Val × Nat
  | a :: as, b :: bs =>
    let p := a.mul b
    let r := products as bs
    (p.1 :: r.1, p.2 ||| r.2)
  | _, _ => ([], 0)

/-- A finite value with its bits below `2^q` cut off toward zero (R109, log entry 14, DEDUCED). -/
def truncAt (q : Int) : Val → Val
  | .fin s m e => if e < q then .fin s (m / 2 ^ (q - e).toNat) q else .fin s m e
  | v => v

/-- The leading exponent of the largest product, none when all are zero or not finite. -/
def leadExp : List Val → Option Int
  | [] => none
  | .fin _ m e :: vs =>
    if m = 0 then leadExp vs
    else
      let l := e + (bitLen m : Int) - 1
      match leadExp vs with
      | none => some l
      | some k => some (max l k)
  | _ :: vs => leadExp vs

/-- The sum of one group of 32 products: exact, or aligned to the largest product and cut 50 bits below its leading bit
for 16-bit operands (R109). -/
def groupSum (wide : Bool) (as bs : List Val) : Val × Nat :=
  let p := products as bs
  let ps := if wide then match leadExp p.1 with
    | some l => p.1.map (truncAt (l - 50))
    | none => p.1
    else p.1
  let s := sumVals ps
  (s.1, s.2 ||| p.2)

/-- One group added to an FP32 accumulator: scaled exactly, rounded once, added with a second rounding (R110). -/
def accFloat (acc : Nat) (g : Val × Nat) (scale : Option Int) : Res :=
  let v := match scale with
    | some k => g.1.scale k
    | none => .nan
  let r := toFp32 v
  let t := f32add acc r.code
  ⟨t.code, t.flags ||| r.flags ||| g.2⟩

/-- One group added to an INT32 accumulator, clamping (R111). -/
def accInt (acc : Nat) (g : Val) : Res :=
  let i : Int := match g with
    | .fin s m e => signedAt s m e 0
    | _ => 0
  let t := toSigned 32 acc + i
  if t < -(2 ^ 31) then ⟨ofSigned 32 (-(2 ^ 31)), fINT_SAT⟩
  else if (2 ^ 31 - 1 : Int) < t then ⟨ofSigned 32 (2 ^ 31 - 1), fINT_SAT⟩
  else ⟨ofSigned 32 t, 0⟩

/-! ## Codebooks (R105 to R107) -/

/-- Entry `j` of a codebook record. -/
def cbEntry (rec j : Nat) : Nat := bitsOf rec (8 * j + 7) (8 * j)

/-- The palette index width that a record's FORMAT names. -/
def cbIbits (rec : Nat) : Option Nat :=
  match bitsOf rec 135 128 with
  | 1 => some 4
  | 2 => some 3
  | 3 => some 2
  | _ => none

/-- The block count of a record's group. -/
def cbBlocks (rec : Nat) : Nat := bitsOf rec 154 144 + 1

/-- The check of a record: CRC-16 over bytes 0 to 19, each most significant bit first (R105, R569). -/
def cbCheck (rec : Nat) : Nat :=
  crcBits 16 0x1021 0xFFFF
    ((List.range 20).flatMap fun i => (List.range 8).map fun b => hasBit rec (8 * i + (7 - b)))

/-- A record passes its checks: FORMAT valid and CHECK right (R105, R129). -/
def cbValid (rec : Nat) : Bool :=
  (cbIbits rec).isSome && bitsOf rec 175 160 == cbCheck rec

/-- The slot and record that decode block number `b` (from the tile's first), walking the groups from slot `slot` at
offset `ofs`; each later group uses the next slot modulo 64 (R107, R172). -/
def cbWalk (rec : Nat → Nat) : Nat → Nat → Nat → Nat → Nat
  | 0, slot, _, _ => slot
  | fuel + 1, slot, ofs, b =>
    let left := cbBlocks (rec slot) - ofs
    if b < left then slot else cbWalk rec fuel ((slot + 1) % 64) 0 (b - left)

/-! ## The tile -/

/-- What a tile reads: the scratchpad, its operands with the offsets of R171 applied, and the resident codebooks of the
engine by slot. -/
structure TileIn where
  fA : Fmt
  fB : Fmt
  aElem : Nat
  aScale : Nat
  bElem : Nat
  bScale : Nat
  bStride : Nat
  bsStride : Nat
  kg : Nat
  n : Nat
  slot : Nat
  grp : Nat
  deriving DecidableEq, Repr

/-- The 32 elements of a block, unscaled. -/
def blockVals (rd : Nat → Byte) (f : Fmt) (entry : Nat → Nat) (addr : Nat) : List Val :=
  let b := readLE rd addr f.blockBytes
  (List.range 32).map fun i => f.elem entry (f.code b i)

/-- The scale exponent of a block: 0 for a format without scales, none for the NaN scale (R99, R110). -/
def blockScaleAt (rd : Nat → Byte) (f : Fmt) (addr : Nat) : Option Int :=
  if f.scaled then
    let s := (rd addr).toNat
    if s = 0xFF then none else some ((s : Int) - 127)
  else some 0

/-- Group `g` of row `r` against column `j`: its sum, the product of the scales, and NAN_SCALE (R110, R112, R171). -/
def tileGroup (rd : Nat → Byte) (cb : Nat → Nat) (t : TileIn) (g r j : Nat) : (Val × Nat) × Option Int × Nat :=
  let blk := 16 * g + r
  let slot := cbWalk cb (blk + 1) t.slot t.grp blk
  let as := blockVals rd t.fA (cbEntry (cb slot)) (t.aElem + blk * t.fA.blockBytes)
  let bs := blockVals rd t.fB (fun _ => 0) (t.bElem + j * t.bStride + g * t.fB.blockBytes)
  let sa := blockScaleAt rd t.fA (t.aScale + blk)
  let sb := blockScaleAt rd t.fB (t.bScale + j * t.bsStride + g)
  let k := match sa, sb with
    | some a, some b => some (a + b)
    | _, _ => none
  if k.isNone then ((.nan, 0), none, fNAN_SCALE) else (groupSum (wide16 t.fA t.fB) as bs, k, 0)

/-- One output value: the accumulator after every group in ascending order (R110). -/
def tileCell (rd : Nat → Byte) (cb : Nat → Nat) (t : TileIn) (r j acc : Nat) : Res :=
  (List.range t.kg).foldl (fun (a : Res) g =>
    let x := tileGroup rd cb t g r j
    let s := if t.fA == .int8 then accInt a.code x.1.1 else accFloat a.code x.1 x.2.1
    ⟨s.code, s.flags ||| a.flags ||| x.2.2⟩) ⟨acc, 0⟩

/-- The bytes of an output tile: column `j`, row `r` converted from the bank (R125, R171). `draw k` is the k-th 16-bit
draw of stochastic rounding (R116). -/
def drainCell (o : Fmt) (isInt : Bool) (sr sat : Bool) (draw acc : Nat) : Res :=
  let v := if isInt then Val.ofInt (toSigned 32 acc) else f32 acc
  if isInt && o == .int32 then ⟨acc, 0⟩
  else convertTo o (if sr then .sr draw else .rne) sat v

end Sys2Proof.Machine
end

