-- ==== Sys2Proof/Machine/CoreOps.lean ====
section
/-! DEFINITION. Machine/CoreOps.lean: what every core instruction shares: registers, dispatch with its fetch and checks,
faults, the status registers, and the end of a wait (R133, R138 to R140, R158 to R161, R167, R184, R189). -/

namespace Sys2Proof.Machine

/-! ## Fault codes and units (R156, R189) -/

abbrev fcIllegal : Nat := 0x01
abbrev fcReserved : Nat := 0x02
abbrev fcLocal : Nat := 0x03
abbrev fcMisaligned : Nat := 0x04
abbrev fcBankOwner : Nat := 0x05
abbrev fcFetchUe : Nat := 0x06
abbrev fcDataUe : Nat := 0x07
abbrev fcFormat : Nat := 0x08
abbrev fcOperand : Nat := 0x09
abbrev fcCbAbsent : Nat := 0x0A
abbrev fcCbRefused : Nat := 0x0B
abbrev fcEngineCheck : Nat := 0x0C
abbrev fcEngineFailed : Nat := 0x0D
abbrev fcSoftTrap : Nat := 0x0E

abbrev uScalar : Nat := 0
abbrev uVector : Nat := 5
abbrev uDma : Nat := 6
abbrev uFabric : Nat := 7
abbrev uFetch : Nat := 8

/-! ## Core states (R137) -/

abbrev csOff : Nat := 0
abbrev csRetained : Nat := 1
abbrev csHalted : Nat := 2
abbrev csRunning : Nat := 3
abbrev csMoveWait : Nat := 4
abbrev csFaulted : Nat := 5
abbrev csSpare : Nat := 6
abbrev csFailed : Nat := 7

def coreState (s : State) (c : Nat) : Nat := getF s COR_STAT_STATE c 0
def setCoreState (s : State) (c v : Nat) : State := setF s COR_STAT_STATE c 0 v

/-! ## Registers (R161) -/

/-- A scalar register; s0 reads 0. -/
def Core.s (k : Core) (r : Nat) : Nat := if r = 0 then 0 else SMap.get k.regs 0 r

/-- A scalar register written; writes to s0 are discarded. -/
def Core.setS (k : Core) (r v : Nat) : Core :=
  if r = 0 then k else { k with regs := SMap.set k.regs 0 r (v % 2 ^ 64) }

/-- Lane `i` of a vector register. -/
def Core.v (k : Core) (r i : Nat) : Nat := SMap.get k.vregs 0 (r * 64 + i)

/-- The 64 lanes of a vector register. -/
def Core.lanes (k : Core) (r : Nat) : List Nat := (List.range 64).map (k.v r)

/-- A vector register written from its lane `i` up. -/
def Core.setLanes (k : Core) (r : Nat) : Nat → List Nat → Core
  | _, [] => k
  | i, x :: xs => Core.setLanes { k with vregs := SMap.set k.vregs 0 (r * 64 + i) (x % 2 ^ 32) } r (i + 1) xs

/-- Flags of the arithmetic status word set (R120). -/
def Core.flag (k : Core) (f : Nat) : Core := { k with asw := k.asw ||| f % 256 }

/-- A failure recorded in FSTAT or DSTAT (R167). -/
def recordFail (w st : Nat) : Nat :=
  let cnt := satAdd 32 (bitsOf w 39 8) 1
  let first := if w % 16 = 0 then st else w % 16
  cnt * 256 + st * 16 + first

/-- A failure recorded in this clock, `clk` (R167). -/
def failNote (clk w st : Nat) (n : FailNow) : FailNow :=
  if n.at_ = clk + 1 then { n with sts := n.sts ++ [st] } else ⟨clk + 1, w, [st]⟩

/-- A failed fabric item in FSTAT, and a failed item of a copy in DSTAT (R167). -/
def Core.fabFailed (k : Core) (clk st : Nat) : Core :=
  { k with fstat := recordFail k.fstat st, fnow := failNote clk k.fstat st k.fnow }
def Core.copyFailed (k : Core) (clk st : Nat) : Core :=
  { k with dstat := recordFail k.dstat st, dnow := failNote clk k.dstat st k.dnow }

/-- The core of a position changed. -/
def modCore (s : State) (c : Nat) (f : Core → Core) : State := putCore s c (f (getCore s c))

/-- Instructions retired (`COR_RETIRED`). -/
def retire (s : State) (c n : Nat) : State := wrapF s COR_RETIRED c 0 n

/-- A register takes its pending value, and instructions that read it may dispatch again (R188). -/
def landReg (s : State) (c d v : Nat) : State :=
  modCore s c fun k => { k.setS d v with busy := if d = 0 then k.busy else k.busy.erase d }

/-! ## Waits (R184) -/

/-- A pending SWAIT ends with a status in its register. -/
def endWait (s : State) (c : Nat) (st : Status) : State :=
  match (getCore s c).wait with
  | none => s
  | some w =>
    let s := modCore s c fun k => { k with wait := none }
    retire (landReg s c w.d st.code) c 1

/-- Whether another wait at the site still names the object (R346). -/
def otherWait (s : State) (site obj : Nat) : Bool :=
  (s.cores.any fun e => corSite e.1 == site && (match e.2.wait with
    | some w => w.obj == obj && !w.polling
    | none => false)) ||
  ((SMap.get s.shadows [] site).any fun h => h.obj == obj && h.byMove)

/-- A wait ends and with it, when no other wait needs it, its subscription (R346). -/
def closeWait (s : State) (c : Nat) (st : Status) : State :=
  match (getCore s c).wait with
  | none => s
  | some w =>
    let s := endWait s c st
    let site := corSite c
    if w.polling ∨ syncSite w.obj = site ∨ otherWait s site w.obj then s else unsubscribe s site w.obj

/-! ## Faults (R140, R189) -/

/-- The fault that another unit raised in this same clock, if it did. -/
def faultedNow (s : State) (c : Nat) : Bool :=
  SMap.get s.raised 0 ((cCOR * 2048 + c) * 32) == nowClk s + 1

/-- The record of a fault in `COR_FAULT` and `COR_FAULT_PC`. -/
def recordFault (s : State) (c code unit detail pc : Nat) : State :=
  let s := setF s COR_FAULT_CODE c 0 code
  let s := setF s COR_FAULT_UNIT c 0 unit
  let s := setF s COR_FAULT_DETAIL c 0 detail
  setF s COR_FAULT_PC c 0 pc

/-- The scalar register that an instruction of the sync and fabric queue, or of the vector queue, writes (R188). -/
def FabOp.dest : FabOp → Option Nat
  | .load d _ _ _ => some d
  | .atom _ d _ _ _ => some d
  | .sread d _ => some d
  | .swait d _ _ _ => some d
  | _ => none
def VecEntry.dest (x : VecEntry) : Option Nat :=
  if [VecOp.eq, .lt, .le, .ne, .sum, .rmax, .rmin].contains x.op then some x.f.s else none

/-- Dispatch stops and the unit queues are discarded (R140): a pending SWAIT ends CANCELLED, each engine keeps the tiles that
have entered it, and copies and requests already issued go on. -/
def stopCore (s : State) (c : Nat) : State :=
  modCore (closeWait s c .cancelled) c fun k =>
    { k with
      busy := k.busy.filter fun r => !(k.fabQ.any fun q => q.op.dest == some r) && !(k.vecQ.any fun q => q.dest == some r)
      fabQ := []
      dmaQ := []
      engQ := []
      vecQ := []
      fence := none
      halting := false }

/-- A core faults (R140): dispatch stops, the fault is recorded, a pending SWAIT ends CANCELLED, each engine keeps the
tiles that have entered it and every queue is discarded; copies and requests already issued go on. Of two faults in one clock
the lower UNIT is recorded (R189). -/
def faultCore (s : State) (c code unit detail pc : Nat) : State :=
  if coreState s c = csFaulted then
    if faultedNow s c && decide (unit < getF s COR_FAULT_UNIT c 0) then recordFault s c code unit detail pc else s
  else if coreState s c ≠ csRunning ∧ coreState s c ≠ csHalted ∧ coreState s c ≠ csMoveWait then s
  else
    let s := recordFault s c code unit detail pc
    let s := setCoreState s c csFaulted
    let s := stopCore s c
    let s := raise s cCOR c 0
    let s := if code = fcCbRefused then raise s cCOR c 3 else s
    let s := raise s cCLU (corClu c) 2
    reportItem s 7 0 cCOR c (gaOfLocal s c pc) 0 code (some (corSite c)) (partOf s (corSite c))

/-! ## Dispatch (R133, R158, R160, R188) -/

/-- The instruction word at a local address (R158). -/
def fetchWord (s : State) (c pc : Nat) : Nat := readLE (readLocal s c) pc 8

/-- What fetching the instruction at the program counter meets (R158, R160, R194, R191): nothing, a wait, or a fault; a word
whose opcode is reserved or whose FN selects no operation is an illegal one. -/
def fetchCheck (s : State) (c pc : Nat) : Option (Option Nat) :=
  match localGrant s c pc 8 with
  | (.served, _) =>
    if localUe s c pc 8 then some (some fcFetchUe)
    else if (instrOf 0 (fetchWord s c pc)).isNone then some (some fcIllegal) else none
  | (.wait, _) => some none
  | (.refused _, _) => some (some fcBankOwner)
  | (.noBank, _) => some (some fcLocal)

/-- The reason code of a refused access, recorded (R194, R215): the requester is the core. -/
def denyCore (s : State) (c : Nat) (b : Option Bank) (reason : Nat) : State :=
  match b with
  | some b => deny s b 1 ((lidOfCor s c).getD 0) reason
  | none => s

/-- An uncorrectable word that a unit of a core reads at a local address is counted and reported (R191, R518, R570). -/
def coreUe (s : State) (c a : Nat) : State :=
  reportItem (bumpF s CLU_ECC_UE (corClu c) 0 1) 6 5 cCLU (corClu c) (gaOfLocal s c a) 0 0 (some (corSite c))
    (partOf s (corSite c))

/-- A fetch that faults (R158, R191, R194): a refusal is recorded; an uncorrectable word is counted and reported. An illegal
word faults at dispatch (R160). -/
def fetchFault (s : State) (c pc code : Nat) : State :=
  if code = fcIllegal then faultCore s c code uScalar 0 pc
  else
  let s := match localGrant s c pc 8 with
    | (.refused r, b) => denyCore s c b r
    | (.served, _) => coreUe s c pc
    | _ => s
  faultCore s c code uFetch 0 pc

/-- Room in the sync and fabric queue, the DMA queue and the tile queues (R132). -/
abbrev fabQMax : Nat := 8
abbrev dmaQMax : Nat := 16
abbrev tileQMax : Nat := 8

/-- May the core dispatch an instruction that reads or writes the registers named: RUNNING, no FENCE, HALT or reset in
progress, none of the registers still to be written (R186, R188). -/
def canDispatch (s : State) (c : Nat) (uses : List Nat) : Bool :=
  let k := getCore s c
  coreState s c == csRunning && k.fence.isNone && !k.halting && k.resetAt.isNone && uses.all (fun r => r == 0 || !k.busy.contains r)

/-- An instruction at dispatch (R133, R158, R160): nothing happens while it may not dispatch; a fetch fault or a fault of
its word stops the core; otherwise the PC moves to the next word and the instruction acts. `check` is the fault of its
word, if it has one. -/
def dispatch (s : State) (c : Nat) (uses : List Nat) (check : Option Nat) (act : State → Nat → State) : State :=
  if canDispatch s c uses then
    let pc := (getCore s c).pc
    match fetchCheck s c pc with
    | some none => s
    | some (some code) => fetchFault s c pc code
    | none =>
      match check with
      | some code => faultCore s c code uScalar 0 pc
      | none => act (modCore s c fun k => { k with pc := pc + 8, ibuf := true }) pc
  else s

/-- RESERVED_BITS unless every condition on unused fields holds (R159, R160). -/
def resv (ok : Bool) : Option Nat := if ok then none else some fcReserved

/-- IMM sign-extended to 64 bits (R159). -/
def imm64 (i : BitVec 32) : Nat := (i.signExtend 64).toNat

/-- A 64-bit sum. -/
def add64 (a b : Nat) : Nat := (a + b) % 2 ^ 64

/-! ## A core's own accesses (R179, R194) -/

/-- An access of a unit of the core to `n` bytes at local address `a` (R135, R194, R197): performed, a fault of the unit, or
none while a handover drains. -/
def access (s : State) (c a n unit pc : Nat) (act : State → Option State) : Option State :=
  match localGrant s c a n with
  | (.served, _) => act s
  | (.wait, _) => none
  | (.refused r, b) => some (faultCore (denyCore s c b r) c fcBankOwner unit 0 pc)
  | (.noBank, _) => some (faultCore s c fcLocal unit 0 pc)

/-- The number at `n` bytes of local memory. -/
def loadLocal (s : State) (c a n : Nat) : Nat := readLE (readLocal s c) a n

/-- Bytes stored at a local address: words written whole become correct again (R191). -/
def storeLocal (s : State) (c a : Nat) (bs : List Byte) : State :=
  let s := forAll (List.range (bs.length - 7)) s fun s i =>
    let p := localPhys s c (a + i)
    if p % 8 = 0 ∧ isUe s p then markUe s p false else s
  writeLocal s c a bs

end Sys2Proof.Machine
end

