-- ==== Sys2Proof/Machine/Packet.lean ====
section
/-! DEFINITION. Machine/Packet.lean: packets, links, tags and requests, and how an item completes (R291 to R309, R328,
R342 to R350, R512). -/

namespace Sys2Proof.Machine

/-! ## Operation codes (R297) -/

abbrev opLOAD : Nat := 0x01
abbrev opSTORE : Nat := 0x02
abbrev opREAD_REQ : Nat := 0x03
abbrev opATOMIC : Nat := 0x04
abbrev opSYNC_ADD : Nat := 0x05
abbrev opSYNC_SET : Nat := 0x06
abbrev opSYNC_READ : Nat := 0x07
abbrev opFENCE : Nat := 0x08
abbrev opCOMP : Nat := 0x09
abbrev opCOMP_DATA : Nat := 0x0A
abbrev opCREDIT : Nat := 0x0B
abbrev opNAK : Nat := 0x0C
abbrev opTHROTTLE : Nat := 0x0D
abbrev opNOTICE : Nat := 0x0E
abbrev opGRANT_MSG : Nat := 0x10
abbrev opGRANT_REFUSE : Nat := 0x11
abbrev opGRANT_READY : Nat := 0x12
abbrev opRELEASE_MSG : Nat := 0x13
abbrev opGET_S : Nat := 0x18
abbrev opGET_M : Nat := 0x19
abbrev opPUT_E : Nat := 0x1A
abbrev opINVAL : Nat := 0x1B
abbrev opRECALL_S : Nat := 0x1C
abbrev opRECALL_I : Nat := 0x1D
abbrev opCOH_ACK : Nat := 0x1E
abbrev opGRANT_M : Nat := 0x1F
abbrev opWRITE : Nat := 0x20
abbrev opREAD_DATA : Nat := 0x21
abbrev opATOMIC_CAS : Nat := 0x22
abbrev opACCUM_F32 : Nat := 0x23
abbrev opLINE_GRANT : Nat := 0x24
abbrev opLINE_PUT_M : Nat := 0x25
abbrev opLINE_RETURN : Nat := 0x26

/-- Is the operation code defined (R297). -/
def opDefined (o : Nat) : Bool :=
  (1 ≤ o && o ≤ 0x0E) || (0x10 ≤ o && o ≤ 0x13) || (0x18 ≤ o && o ≤ 0x26)

/-- The answers (R297). -/
def isAnswer (o : Nat) : Bool := [opCOMP, opCOMP_DATA, opCOH_ACK, opGRANT_M, opLINE_GRANT, opLINE_RETURN].contains o

/-- The link messages: CREDIT, NAK, THROTTLE, NOTICE and the grant messages (R297). -/
def isLinkMsg (o : Nat) : Bool := (opCREDIT ≤ o && o ≤ opNOTICE) || (0x10 ≤ o && o ≤ 0x13)

/-- The coherence messages, which hold no tag and are always admitted (R332, R342). -/
def isCoherence (o : Nat) : Bool := (0x18 ≤ o && o ≤ 0x1F) || (0x24 ≤ o && o ≤ 0x26)

/-- Is the operation a request, which is answered when it fails (R298). -/
def isRequest (o : Nat) : Bool :=
  (1 ≤ o && o ≤ 8) || (opWRITE ≤ o && o ≤ opACCUM_F32) || o == opGET_S || o == opGET_M || o == opPUT_E ||
  o == opLINE_PUT_M

/-- Exempt from credits (R300). -/
def isExempt (o : Nat) : Bool := isAnswer o || isLinkMsg o

/-- The cells of a packet (R291). -/
def pktCells (p : Pkt) : Nat := if p.data then 1 + 2 * p.len else 1

/-- The access size that CTR [1:0] of a LOAD or STORE names (R297). -/
def pktSize (p : Pkt) : Nat := 2 ^ (p.ctr % 4)

/-- Is LEN in the range the operation allows (R291, R295, R297). -/
def pktLenOk (p : Pkt) : Bool :=
  if p.data then
    if p.op = opATOMIC_CAS then p.len == 1
    else if opLINE_GRANT ≤ p.op then p.len == 2
    else 1 ≤ p.len && p.len ≤ 16
  else if p.op = opREAD_REQ then 1 ≤ p.len && p.len ≤ 16 else p.len == 0

/-- A malformed packet (R298). -/
def pktMalformed (p : Pkt) : Bool :=
  p.badClass || p.resv || !opDefined p.op || (p.data != decide (0x20 ≤ p.op)) || !pktLenOk p ||
  (p.mgrp != 0 && p.op != opWRITE)

/-- The alignment of DST (R294, R334). -/
def pktAligned (p : Pkt) : Bool :=
  let o := p.op
  if o = opWRITE ∨ o = opREAD_DATA ∨ o = opACCUM_F32 then p.dst % 64 == 0
  else if o = opATOMIC_CAS then p.dst % 8 == 0
  else if opLINE_GRANT ≤ o then p.dst % 128 == 0
  else if o = opLOAD ∨ o = opSTORE then p.dst % pktSize p == 0
  else if o = opATOMIC then p.dst % (if p.ctr % 16 = 1 ∨ p.ctr % 16 = 2 then 4 else 8) == 0
  else true

/-- The 8-byte payload of a control packet, as a number. -/
def pktWord (p : Pkt) : Nat := ofBytesLE (p.payload.take 8)

/-- A control packet with every other field 0. -/
def ctrlPkt (op dst ctr word : Nat) : Pkt :=
  ⟨false, op, 0, 0, 0, 0, 0, 0, 0, false, false, dst, 0, 0, ctr, 0, false, false, bytesLE 8 word⟩

/-- A data packet with a payload, every other field 0. -/
def dataPkt (op dst : Nat) (payload : List Byte) : Pkt :=
  ⟨true, op, payload.length / 64, 0, 0, 0, 0, 0, 0, false, false, dst, 0, 0, 0, 0, false, false, payload⟩

/-! ## Links (R300) -/

/-- The index of a link: an ordered pair of sites, or a Veryen port. -/
def linkCanvas (src dst : Nat) : Nat := src * 16 + dst
def linkPort (port : Nat) : Nat := 256 + port
def linkIdx : Link → Nat
  | .canvas a b => linkCanvas a b
  | .veryen p => linkPort p

/-- The link of an index. -/
def linkOf (l : Nat) : Link :=
  if l < 256 then .canvas (Fin.ofNat 16 (l / 16)) (Fin.ofNat 16 l) else .veryen (Fin.ofNat 16 l)

/-- The packet joins the send queue of a link (R300). -/
def enqueue (s : State) (l : Nat) (p : Pkt) (ingress : Option Nat) : State :=
  let t := getTx s l
  putTx s l { t with queue := t.queue ++ [⟨p, isExempt p.op, ingress, nowBeat s⟩] }

/-- Is a Veryen port's link up: ACTIVE (R309, R368). -/
def portUp (s : State) (n : Nat) : Bool := getF s VLK_STAT_STATE n 0 == 5

/-- The routing entry of a node in a version (R310). -/
def routeEntry (s : State) (ver node : Nat) : Nat := SMap.get s.routes 0 (ver * 16384 + node)

/-- The ports of an entry whose link is up, each as often as it has active wavelengths (R309). -/
def portChoices (s : State) (e : Nat) : List Nat :=
  (List.range 16).flatMap fun n =>
    if hasBit e n && portUp s n then List.replicate (max 1 (getF s VLK_STAT_TX_LAMBDAS n 0)) n else []

/-- Where a packet goes from a site (R309): to a site of this module, out through a port, or a failure. -/
inductive Hop where
  | site (d : Nat)
  | port (n : Nat)
  | fail (st : Status)
  deriving DecidableEq, Repr

/-- The route of a packet from a site under a version; the counter rotates successive packets among the ports (R309). One that has
crossed the Canvas to the site that serves its port (`last`) leaves there (R304). -/
def hopOf (s : State) (site ver : Nat) (p : Pkt) (rot : Nat) (last : Bool) : Hop :=
  if isHere s p.dst then .site (gaSite p.dst)
  else
    let e := routeEntry s (ver % 2) (gaNode p.dst)
    if !hasBit e 17 then .fail .noRoute
    else if hasBit e 16 then .fail .fenced
    else if last && hasBit e site && portUp s site then .port site
    else
      let l := portChoices s e
      if l = [] then .fail .noRoute else .port (l.getD (rot % l.length) 0)

/-- The rotation counter of a site's routing (R309), held in the link record after the ports. -/
def rotIdx (site : Nat) : Nat := 512 + site

/-- The packet of a site to be sent on: the link it joins, or the failure that answers it. A packet for a port that
another site serves crosses the Canvas to that site first (R304). -/
def sendUnder (s : State) (site ver : Nat) (p : Pkt) (ingress : Option Nat) (last : Bool) : State × Option Status :=
  let rot := (getTx s (rotIdx site)).nextPort
  match hopOf s site ver p rot last with
  | .fail st => (s, some st)
  | .site d => (enqueue s (linkCanvas site d) p ingress, none)
  | .port n =>
    let t := getTx s (rotIdx site)
    let s := putTx s (rotIdx site) { t with nextPort := rot + 1 }
    if n = site then (enqueue s (linkPort n) p ingress, none) else (enqueue s (linkCanvas site n) p ingress, none)

/-- The same under the version that EPOCH names. -/
def sendOn (s : State) (site : Nat) (p : Pkt) (ingress : Option Nat) : State × Option Status :=
  sendUnder s site p.epoch p ingress false

/-! ## Packets by routing version (R313) -/

/-- One packet more, or one fewer, under a version. -/
def drainAdd (s : State) (ver : Nat) : State := bumpF s FAB_DRAIN 0 (ver % 2) 1
def drainSub (s : State) (ver : Nat) : State :=
  setF s FAB_DRAIN 0 (ver % 2) (getF s FAB_DRAIN 0 (ver % 2) - 1)

/-! ## Completion of items (R512, R167, R181, R350) -/

/-- The value that a load of `size` bytes writes to its register (R179). -/
def extend (size : Nat) (sext : Bool) (v : Nat) : Nat :=
  let w := v % 2 ^ (8 * size)
  if sext then ofSigned 64 (toSigned (8 * size) w) else w

/-- A failed fabric item recorded in FSTAT (R167). -/
def fabFail (s : State) (c : Nat) (st : Status) : State :=
  if st.success then s else modCore s c fun k => k.fabFailed (nowClk s) st.code

/-- A fabric item of a core completes (R167, R182). -/
def fabDone (s : State) (c : Nat) (st : Status) : State :=
  retire (modCore (fabFail s c st) c fun k => { k with outstanding := k.outstanding - 1 }) c 1

/-- All-ones. -/
abbrev ones64 : Nat := 2 ^ 64 - 1

/-- A copy known by its number. -/
def findCopy (s : State) (id : Nat) : Option CopyRec := s.copies.find? fun r => r.id == id

/-- A copy record changed. -/
def modCopy (s : State) (id : Nat) (f : CopyRec → CopyRec) : State :=
  { s with copies := s.copies.map fun r => if r.id = id then f r else r }

/-- A tag is free again. -/
def freeTag (s : State) (site slot : Nat) : State :=
  let s := { s with tags := SMap.erase s.tags (site * 4096 + slot) }
  setF s PRT_TAG_USED site 0 (getF s PRT_TAG_USED site 0 - 1)

/-- A failed item of a copy, where its kind records it: DSTAT, or `PRT_CPY_STAT` and `PRT_CPY_FAIL` (R181, R341). -/
def copyItemFail (s : State) (r : CopyRec) (st : Status) : State :=
  match r.kind with
  | .dcopy c _ => modCore s c fun k => k.copyFailed (nowClk s) st.code
  | .table idx =>
    let s := setF s PRT_CPY_STAT_LAST r.site 0 st.code
    let s := setF s PRT_CPY_STAT_IDX r.site 0 idx
    bumpF s PRT_CPY_FAIL r.site 0 1
  | .moveLoad _ => s

/-- Entries of move memory hold undefined values after a failed load (R86): free values. -/
def scrambleEntries (s : State) (site dst : Nat) : Nat → State
  | 0 => s
  | n + 1 =>
    let s := scrambleEntries s site dst n
    let a := draw s
    let b := draw a.2
    let c := draw b.2
    let d := draw c.2
    let s := d.2
    let v := a.1 + 2 ^ 64 * (b.1 + 2 ^ 64 * (c.1 + 2 ^ 64 * d.1))
    { s with moveMem := SMap.set s.moveMem 0 (site * 4096 + (dst + n) % 4096) v }

/-- A word of a copy descriptor written (R341). -/
def putDescWord (s : State) (site idx w v : Nat) : State :=
  let e := SMap.get s.copyTab 0 (site * 1024 + idx)
  let e' := e - placeBits (bitsOf e (32 * w + 31) (32 * w)) (32 * w + 31) (32 * w) + placeBits v (32 * w + 31) (32 * w)
  { s with copyTab := SMap.set s.copyTab 0 (site * 1024 + idx) e' }

/-- Does a copy in flight use a descriptor (R341). -/
def descInUse (s : State) (site idx : Nat) : Bool := s.copies.any fun r => r.site == site && r.kind == .table idx

/-- The words that waited for the end of a descriptor's copies are written, once none uses it (R341). -/
def releaseDesc (s : State) (site idx : Nat) : State :=
  if descInUse s site idx then s
  else
    let mine := fun (h : Nat × Nat × Nat × Nat) => h.1 == site && h.2.1 == idx
    forAll (s.copyHeld.filter mine) { s with copyHeld := s.copyHeld.filter fun h => !mine h } fun s h =>
      putDescWord s site idx h.2.2.1 h.2.2.2

/-- The end of a copy: COMPLETE advances once if CMP_EN is set, the engine and the tag are free (R181, R339); a move load
raises LOAD_DONE or LOAD_FAIL (R86). -/
def copyEnd (s : State) (r : CopyRec) : State :=
  let s := { s with copies := s.copies.filter fun x => x.id != r.id }
  let s := freeTag s r.site (r.tag % 4096)
  let s := if r.req.cmpEn then syncAdd s r.req.complete 1 else s
  match r.kind with
  | .dcopy c _ => modCore s c fun k => { k with dmaLive := k.dmaLive - 1 }
  | .table idx => releaseDesc (setF s PRT_CPY_STAT_ACTIVE r.site 0 (getF s PRT_CPY_STAT_ACTIVE r.site 0 - 1)) r.site idx
  | .moveLoad site =>
    let q := getSeq s site
    let s := putSeq s site { q with dma := none }
    if r.failed = 0 then raise (setF s MOV_DMA_CTRL_STATUS site 0 0) cMOV site 6
    else
      let s := setF s MOV_DMA_CTRL_STATUS site 0 r.firstFail
      let s := match q.dma with
        | some (_, dst, n) => scrambleEntries s site dst n
        | none => s
      raise s cMOV site 7

/-- One packet of a copy is answered or has failed (R181, R339). The copy itself ends by its own command once every
packet has (`copyEnd`). -/
def copyAnswer (s : State) (id : Nat) (st : Status) : State :=
  match findCopy s id with
  | none => bumpF s FAB_LATE_ANS 0 0 1
  | some r =>
    if r.waiting = 0 then bumpF s FAB_LATE_ANS 0 0 1
    else
      let s := if st.success then s else copyItemFail s r st
      modCopy s id fun r => { r with
        waiting := r.waiting - 1
        failed := if st.success then r.failed else r.failed + 1
        firstFail := if st.success ∨ r.firstFail ≠ 0 then r.firstFail else st.code }

/-- A host item completes with a status and a value (R482 to R484); the completion entry follows in Host.lean, which
reads this list. -/
def hostItemDone (s : State) (part item : Nat) (st : Status) (v : Nat) : State :=
  { s with hostDone := s.hostDone ++ [(part, item, st.code, v)] }

/-- A dropped host access (R479): recorded, counted, signalled. -/
def barDrop (s : State) (func ofs st : Nat) (bar2 : Bool) : State :=
  let s := setF (setF s HST_ERR_LAST_STATUS 0 0 st) HST_ERR_LAST_OFS 0 0 ofs
  let s := setF (setF s HST_ERR_SRC_BAR2 0 0 (if bar2 then 1 else 0)) HST_ERR_SRC_FUNC 0 0 func
  raiseFor (bumpF s HST_DROP 0 0 1) cHST 0 8 (if func = 0 then .noPart else .part (func - 1))

/-- An access to a window of BAR2 completes (R478, R479): a read, of `size` bytes, is answered, all-ones where it failed. -/
def bar2Done (s : State) (func ofs size : Nat) (st : Status) (v : Nat) : State :=
  let s := if st.success then s else barDrop s func ofs st.code true
  if size = 0 then s else emit s (.bar2 func (if st.success then v % 2 ^ (8 * size) else 2 ^ (8 * size) - 1) .ok)

/-- A request completes at its issuer with a status and, for a read, a value (R350, R512). A read that failed returns
all-ones (R509). -/
def finish (s : State) (i : Issuer) (st : Status) (v : Nat) : State :=
  let v := if st.success then v else ones64
  match i with
  | .coreLoad c d size sext =>
    fabDone (landReg s c d (if st.success then extend size sext v else ones64)) c st
  | .coreStore c => fabDone s c st
  | .coreAtom c d width => fabDone (landReg s c d (if st.success then v % 2 ^ width else ones64)) c st
  | .coreSync c d =>
    let s := match d with
      | some d => landReg s c d v
      | none => s
    fabDone s c st
  | .corePoll c => modCore s c fun k =>
      { k with wait := k.wait.map fun w => { w with polled := if st.success then some v else w.polled } }
  | .copy id => copyAnswer s id st
  | .moveSync _ => s
  | .host p item => hostItemDone s p item st 0
  | .bar2 func ofs size => bar2Done s func ofs size st v
  | .engine _ => s

/-! ## Tags and requests (R342, R348, R349) -/

/-- The tag record of a slot. -/
def findTag (s : State) (site slot : Nat) : Option TagRec := SMap.find s.tags (site * 4096 + slot)

/-- The lowest free slot of a site. -/
def freeSlot (s : State) (site : Nat) : Option Nat :=
  if 4096 ≤ getF s PRT_TAG_USED site 0 then none
  else (List.range 4096).find? fun k => (findTag s site k).isNone

/-- The timeout of a request in tempos (R348). -/
def timeoutOf (s : State) (p : Pkt) : Nat :=
  if isHere s p.dst then getF s FAB_TMO_CANVAS 0 0
  else
    let e := routeEntry s (p.epoch % 2) (gaNode p.dst)
    let st := ((List.range 16).map fun n => if hasBit e n then getF s VLK_CFG_STAGES n 0 else 0).foldl max 0
    min 1000 (getF s FAB_TMO_BOARD 0 0 + getF s FAB_TMO_STAGE 0 0 * st)

/-- The boundary, by number, that is first at or after now plus `t` tempos. -/
def boundaryAfter (s : State) (t : Nat) : Nat :=
  s.time.tempoNo + t + (if s.time.beat = 0 ∧ s.time.clk = 0 then 0 else 1)

/-- A tag taken for a packet: its slot's generation, which the next use finds advanced by 1 (R342). -/
def takeTag (s : State) (site slot : Nat) (p : Pkt) (i : Issuer) : State × Pkt :=
  let g := SMap.get s.gens 0 (site * 4096 + slot)
  let p := { p with tag := g * 4096 + slot }
  let s := { s with
    gens := SMap.set s.gens 0 (site * 4096 + slot) ((g + 1) % 16)
    tags := SMap.insert s.tags (site * 4096 + slot)
      ⟨slot, g, p, i, nowBeat s, boundaryAfter s (timeoutOf s p), 0, false⟩ }
  let u := getF s PRT_TAG_USED site 0 + 1
  let s := setF s PRT_TAG_USED site 0 u
  (setF s PRT_TAG_PEAK site 0 (max u (getF s PRT_TAG_PEAK site 0)), p)

/-- The fields that the injecting engine fills: version, node and site (R293, R309, R331). -/
def stampPkt (s : State) (site : Nat) (p : Pkt) : Pkt :=
  { p with
    epoch := getF s FAB_EPOCH_STAT_CUR 0 0
    srcSite := site
    srcNode := getF s FAB_NODE_NODE 0 0
    hop := 0
    status := 0 }

/-- A tagged packet leaves for its link, or its request completes with the failure of its route (R309). -/
def launch (s : State) (site : Nat) (p : Pkt) : State :=
  match sendOn (drainAdd s p.epoch) site p none with
  | (s, none) => s
  | (s, some st) =>
    let s := drainSub s p.epoch
    match findTag s site (p.tag % 4096) with
    | some t => finish (freeTag s site t.slot) t.issuer st 0
    | none => s

/-- A request of a site's packet engine (R342): it takes a tag and joins its queue, or waits for a tag. -/
def request (s : State) (site : Nat) (p : Pkt) (i : Issuer) : State :=
  let p := stampPkt s site p
  match freeSlot s site with
  | none => { s with tagWait := s.tagWait ++ [(site, p, i)] }
  | some k =>
    let q := takeTag s site k p i
    launch q.1 site q.2

/-- A packet that holds no tag: an answer, a link message or a coherence message (R342). An answer that cannot be
delivered is counted in `FAB_HOP_DROP` (R309). -/
def sendPlain (s : State) (site : Nat) (p : Pkt) : State :=
  match sendOn (drainAdd s p.epoch) site p none with
  | (s, none) => s
  | (s, some _) => bumpF (drainSub s p.epoch) FAB_HOP_DROP 0 0 1

/-- Where the answer to a packet goes: the SRC node and site, offset 0 (R297). -/
def pktAnswerDst (p : Pkt) : Nat := p.srcNode * 2 ^ 50 + p.srcSite * 2 ^ 46

/-- The COMP of a request: tag, status, COMPLETE in CTR, retry-after (R294, R297). -/
def mkComp (s : State) (site : Nat) (p : Pkt) (st retry : Nat) : Pkt :=
  { ctrlPkt opCOMP (pktAnswerDst p) (if p.data then p.complete else 0) retry with
    epoch := p.epoch, srcSite := site, srcNode := getF s FAB_NODE_NODE 0 0, tag := p.tag, status := st }

/-- The COMP_DATA of a request: tag, status, data or all-ones (R297). -/
def mkCompData (s : State) (site : Nat) (p : Pkt) (st v : Nat) : Pkt :=
  { ctrlPkt opCOMP_DATA (pktAnswerDst p) 0 v with
    epoch := p.epoch, srcSite := site, srcNode := getF s FAB_NODE_NODE 0 0, tag := p.tag, status := st }

/-- Does the operation's answer carry data (R297). -/
def answersData (o : Nat) : Bool := o == opLOAD || o == opATOMIC || o == opSYNC_READ || o == opATOMIC_CAS

/-- Is an answer asked for: data requests only with CMP_REQ, but for ATOMIC_CAS (R294, R297). -/
def wantsAnswer (p : Pkt) : Bool :=
  if p.op = opWRITE ∨ p.op = opREAD_DATA ∨ p.op = opACCUM_F32 then p.cmpReq else isRequest p.op

/-- An answer reaches the engine of its own site without a link; a request that its tag names completes (R343). -/
def acceptAnswer (s : State) (site : Nat) (tag : Nat) (st : Status) (v : Nat) : State :=
  match findTag s site (tag % 4096) with
  | some t =>
    if t.gen = tag / 4096 % 16 then
      match t.issuer with
      | .copy id => copyAnswer s id st
      | i => finish (freeTag s site t.slot) i st v
    else bumpF s FAB_LATE_ANS 0 0 1
  | none => bumpF s FAB_LATE_ANS 0 0 1

/-- A request is answered with a status and, for a read, a value (R297, R298); to the engine's own site at once, else by
a packet. `retry` is the retry-after time of TARGET_RESETTING. -/
def answer (s : State) (site : Nat) (p : Pkt) (st : Status) (v retry : Nat) : State :=
  if !wantsAnswer p then s
  else if p.srcNode = getF s FAB_NODE_NODE 0 0 ∧ p.srcSite = site then acceptAnswer s site p.tag st v
  else
    sendPlain s site
      (if answersData p.op then mkCompData s site p st.code (if st.success then v else ones64)
        else mkComp s site p st.code retry)

end Sys2Proof.Machine
end

