-- ==== Sys2Proof/Machine/Governor.lean ====
section
/-! DEFINITION. Machine/Governor.lean: the power governor, clock ratios, and the power states of cores (R138, R139, R451
to R455). -/

namespace Sys2Proof.Machine

/-! ## Requests (R451, R452) -/

/-- The booked step of a request, in mW (R451). A ratio step is Δr × 200 W for a die and Δr × 100 W for a half. -/
def govStep (s : State) : GovKind → Nat
  | .corePower _ => 295
  | .coreReturn _ => 250
  | .coreRun _ => 1150
  | .wake _ _ _ _ _ mw => mw
  | .bank cl _ _ => if cl then 100 else 50
  | .dieRatio d => if getF s CDI_CLK_RATIO d 0 = 2 then 50000 else 100000
  | .halfRatio h => if getF s (if h = 0 then PWR_HALF_CLK_WEST else PWR_HALF_CLK_EAST) 0 0 = 2 then 25000 else 50000
  | .source _ => 20000
  | .port _ => 3200
  | .stack _ => 20000

/-- Room in the governor's queue (R452). -/
abbrev govMax : Nat := 1024

/-- The queue put back, with `PWR_GOV_STAT.QUEUED`. -/
def putGov (s : State) (g : GovSt) : State := setF { s with gov := g } PWR_GOV_STAT_QUEUED 0 0 g.queue.length

/-- A request joins the queue, or waits at its source with QUEUE_FULL raised (R452). -/
def govRequest (s : State) (k : GovKind) : State :=
  let r : GovReq := ⟨k, s.time.tempoNo⟩
  if s.gov.queue.length < govMax then putGov s { s.gov with queue := s.gov.queue ++ [r] }
  else raise { s with gov := { s.gov with atSource := s.gov.atSource ++ [r] } } cPWR 0 5

/-- Is a request of this kind queued or waiting. -/
def govHas (s : State) (p : GovKind → Bool) : Bool :=
  s.gov.queue.any (fun r => p r.kind) || s.gov.atSource.any (fun r => p r.kind)

/-- Requests withdrawn (R74). -/
def govDrop (s : State) (p : GovKind → Bool) : State :=
  putGov s { s.gov with
    queue := s.gov.queue.filter fun r => !p r.kind
    atSource := s.gov.atSource.filter fun r => !p r.kind }

/-! ## Ratios (R454, R455) -/

/-- The ratio a die is to have: the lowest of thermal, governor and firmware, as the highest code. -/
def dieWant (s : State) (d : Nat) : Nat :=
  max (SMap.get s.ratios 0 d)
    (max (SMap.get s.ratios 0 (8 + d)) (min 2 (bitsOf (getF s PWR_DIE_CLK 0 0) (2 * d + 1) (2 * d))))

/-- The source named for a ratio in force: thermal before governor before firmware. -/
def dieCause (s : State) (d r : Nat) : Nat :=
  if r = 0 then 0 else if SMap.get s.ratios 0 d = r then 1 else if SMap.get s.ratios 0 (8 + d) = r then 2 else 3

/-- A die's ratio takes effect, and RATIO_CHANGED is raised (R149, R153). -/
def setRatio (s : State) (d r : Nat) : State :=
  let s := { s with dieClk := SMap.set (SMap.set s.dieClk 0 (2 * d) (dieClock s d)) 0 (2 * d + 1) (nowClk s) }
  raise (setF (setF s CDI_CLK_CAUSE d 0 (dieCause s d r)) CDI_CLK_RATIO d 0 r) cCDI d 0

/-- A die's ratio follows its sources: a decrease at once, an increase by a request for one step (R454). -/
def followRatio (s : State) (d : Nat) : State :=
  let r := getF s CDI_CLK_RATIO d 0
  let w := dieWant s d
  if r < w then setRatio s d w
  else if w < r ∧ !govHas s (fun k => k == .dieRatio d) then govRequest s (.dieRatio d)
  else if w = r then setF s CDI_CLK_CAUSE d 0 (dieCause s d r)
  else s

/-- A thermal or governor decision changes what a die's ratio is to be: an increase asks the governor, and a decrease takes
effect by a command of its own, within 2 µs (R454). -/
def noteRatio (s : State) (d : Nat) : State := if getF s CDI_CLK_RATIO d 0 < dieWant s d then s else followRatio s d

/-- The field of a half's ratio in force. -/
def halfField (h : Nat) : Field := if h = 0 then PWR_HALF_CLK_WEST else PWR_HALF_CLK_EAST

/-- The ratio a half of the Canvas is to have: firmware's request and its thermal ratio. -/
def halfWant (s : State) (h : Nat) : Nat :=
  max (SMap.get s.ratios 0 (16 + h))
    (min 2 (getF s (if h = 0 then PWR_HALF_CLK_WEST_REQ else PWR_HALF_CLK_EAST_REQ) 0 0))

/-- A half's ratio takes effect; the seam runs at the lower of the two (R455). -/
def setHalf (s : State) (h r : Nat) : State :=
  let s := setF s (halfField h) 0 0 r
  setF s PWR_HALF_CLK_SEAM 0 0 (max (getF s PWR_HALF_CLK_WEST 0 0) (getF s PWR_HALF_CLK_EAST 0 0))

/-- A half's ratio follows its sources. -/
def followHalf (s : State) (h : Nat) : State :=
  let r := getF s (halfField h) 0 0
  let w := halfWant s h
  if r < w then setHalf s h w
  else if w < r ∧ !govHas s (fun k => k == .halfRatio h) then govRequest s (.halfRatio h)
  else s

/-- The half of a site (R455). -/
def halfOf (site : Nat) : Nat := if westSite site then 0 else 1

/-! ## Power states of cores (R138, R139, R202) -/

/-- The core is on its way to a state, from this beat on. -/
def setGoal (s : State) (c st : Nat) : State := modCore s c fun k => { k with goal := some (st, nowBeat s) }

/-- A core has entered HALTED or MOVE_WAIT: a pending `PWR_REQ` applies (R138). -/
def settle (s : State) (c : Nat) : State :=
  let p := getF s COR_CTRL_PWR_REQ c 0
  if p = 0 then s else if p = 1 then setGoal s c csRetained else setGoal s c csOff

/-- The loss unit of bank `n` of a scratchpad. -/
def scratchUnit (c n : Nat) : Nat := lossUnit (physScratch c (n * 2 ^ 17))

/-- The contents of a core's scratchpad are lost. -/
def loseScratch (s : State) (c : Nat) : State := forAll (List.range 8) s fun s n => loseUnit s (scratchUnit c n)

/-- `n` free values as a table from key `lo` up, cut to `w` bits. -/
def freeTable (s : State) (lo n w : Nat) : SMap Nat :=
  (List.range n).foldl (fun m i => SMap.set m 0 (lo + i) ((Config.freeValue (s.draws + i)).toNat % 2 ^ w)) []

/-- A core that was power-gated has undefined registers (log entry 20, DEDUCED): free values. -/
def scrambleCore (s : State) (c : Nat) : State :=
  let r := freeTable s 1 31 64
  let s := { s with draws := s.draws + 31 }
  let v := freeTable s 0 2048 32
  let s := { s with draws := s.draws + 2048 }
  modCore s c fun k => { Core.init with regs := r, vregs := v, clock0 := k.clock0 }

/-- A wake is dropped (R139). -/
def dropWake (s : State) (c : Nat) : State :=
  raise (bumpF (bumpF s COR_WAKE_DROP c 0 1) CLU_WAKE_DROP (corClu c) 0 1) cCOR c 2

/-- A request to power a core up that has not been admitted is withdrawn. -/
def dropPower (s : State) (c : Nat) : State :=
  govDrop (modCore s c fun k => { k with asked := false }) fun k => k == .corePower c || k == .coreReturn c

/-- A WAKE_CORE takes effect at a position (R139). -/
def wakeCore (s : State) (c : Nat) : State :=
  let st := coreState s c
  if st = csMoveWait then setCoreState (modCore s c fun k => { k with goal := none }) c csRunning
  else if getF s COR_STAT_WAKE_PEND c 0 = 1 then dropWake s c
  else if st = csRetained then
    let s := dropPower (setF s COR_CTRL_PWR_REQ c 0 0) c
    let keep := fun (s : State) (old new : Nat) => match (getCore s c).goal with
      | some (g, t) => if g = old then modCore s c fun k => { k with goal := some (new, t) } else setGoal s c new
      | none => setGoal s c new
    if (getCore s c).wasWait then keep s csMoveWait csRunning
    else keep (setF s COR_STAT_WAKE_PEND c 0 1) csHalted csHalted
  else setF s COR_STAT_WAKE_PEND c 0 1

/-- The logical cores that a WAKE_CORE entry names, as (row, column) (R73). -/
def wakeCols (mask : Nat) : List (Nat × Nat) :=
  ((List.range 36).filter (hasBit mask)).map fun b => (b / 9, b % 9)

/-- The wakes of an entry take effect; a bit that names an absent core is dropped and counted (R139, R415). -/
def wakeAll (s : State) (site cluster mask : Nat) : State :=
  forAll (wakeCols mask) s fun s p =>
    match corOfLid s (site * 256 + cluster * 64 + p.1 * 16 + p.2) with
    | some c => wakeCore s c
    | none => match siteDie site with
      | some d => bumpF s CLU_WAKE_DROP (d * 4 + cluster) 0 1
      | none => s

/-- The step booked for an entry's cores (R139, R451; log entry 19, DEDUCED), in mW. -/
def wakeStep (s : State) (site cluster mask : Nat) : Nat :=
  (wakeCols mask).foldl (fun a p =>
    match corOfLid s (site * 256 + cluster * 64 + p.1 * 16 + p.2) with
    | some c =>
      if coreState s c = csRetained then a + (if (getCore s c).wasWait then 1400 else 250) else a + 1150
    | none => a) 0

/-- An entry counted as late by a number of beats (R79). -/
def countLate (s : State) (site idx iter beats : Nat) : State :=
  let s := bumpF s MOV_LATE_CNT site 0 1
  let s := if getF s MOV_LATE_MAX site 0 < beats then setF s MOV_LATE_MAX site 0 (min beats (2 ^ 32 - 1)) else s
  raise (setF (setF s MOV_LATE_LAST_IDX site 0 idx) MOV_LATE_LAST_ITER site 0 iter) cMOV site 1

/-- An entry that issues, or whose wake takes effect, a number of beats late (R79): nothing when none. -/
def moveLate (s : State) (site idx iter beats : Nat) : State :=
  if beats = 0 then s else countLate s site idx iter beats

/-! ## Admission (R452) -/

/-- What an admitted request starts. -/
def admitReq (s : State) (k : GovKind) : State :=
  match k with
  | .corePower c =>
    let s := modCore s c fun k => { k with asked := false }
    if (coreState s c = csOff ∨ coreState s c = csSpare) ∧ (getCore s c).goal.isNone then setGoal s c csHalted else s
  | .coreReturn c =>
    let s := modCore s c fun k => { k with asked := false }
    if coreState s c = csRetained ∧ (getCore s c).goal.isNone then setGoal s c (if (getCore s c).wasWait then csMoveWait else csHalted) else s
  | .coreRun c =>
    let s := modCore s c fun k => { k with asked := false }
    if coreState s c = csHalted then
      setCoreState (modCore s c fun k => { k with pc := 8 * getF s COR_ENTRY c 0, goal := none }) c csRunning
    else s
  | .wake site idx iter cl mask _ =>
    let q := getSeq s site
    match q.bookings.find? fun b => b.idx == idx && b.iter == iter with
    | some b =>
      if b.issued then
        let s := wakeAll (putSeq s site { q with bookings := q.bookings.erase b }) site cl mask
        if b.late then s else moveLate s site idx iter (nowBeat s - b.due)
      else putSeq s site { q with bookings := q.bookings.map fun x => if x == b then { b with admitted := true } else x }
    | none => s
  | .bank cl inst n =>
    { s with bankJobs := SMap.set s.bankJobs 0 ((if cl then 2 ^ 20 else 0) + inst * 64 + n) (s.time.tempoNo + 1) }
  | .dieRatio d =>
    let r := getF s CDI_CLK_RATIO d 0
    if dieWant s d < r then followRatio (setRatio s d (r - 1)) d else s
  | .halfRatio h =>
    let r := getF s (halfField h) 0 0
    if halfWant s h < r then followHalf (setHalf s h (r - 1)) h else s
  | .source i => if getF s LSR_CTRL_EN i 0 = 1 ∧ getF s LSR_STAT_STATE i 0 = 0 then setF s LSR_STAT_STATE i 0 1 else s
  | .port n => setF s VLK_STAT_STATE n 0 1
  | .stack k => putStack s k { getStack s k with exitOk := true }

/-- The input current of a step, in µA, rounded up (R452; log entry 21, DEDUCED): step × 1,000 / (EFF / 100 × V) mA. -/
def stepCurrent (s : State) (mw mv : Nat) : Nat :=
  let d := max 1 (getF s PWR_EFF 0 0 * mv)
  (mw * 100000000 + d - 1) / d

/-- The input power of a step, in mW, rounded up: the step over the efficiency. -/
def stepPower (s : State) (mw : Nat) : Nat :=
  let d := max 1 (getF s PWR_EFF 0 0)
  (mw * 100 + d - 1) / d

/-- The requests admitted from the head of a queue, given current (µA) and power (mW) still free, with the current and
the excess of a head admitted alone (R452). -/
def takeHead (s : State) (mv slew : Nat) (first clean : Bool) (cur pow : Nat) : List GovReq → List GovReq × Nat
  | [] => ([], 0)
  | r :: rs =>
    let i := stepCurrent s (govStep s r.kind) mv
    let w := stepPower s (govStep s r.kind)
    if w ≤ pow then
      if i ≤ cur then
        let p := takeHead s mv slew false clean (cur - i) (pow - w) rs
        (r :: p.1, p.2)
      else if first && clean && decide (slew < i) then ([r], i - slew)
      else ([], 0)
    else ([], 0)

/-- One admission counted: DEFER when its boundary is not the first after its arrival (R452, R471). -/
def countAdmit (s : State) (r : GovReq) : State :=
  let w := s.time.tempoNo - r.arrived
  let s := if getF s PWR_GOV_WAIT_MAX 0 0 < w then setF s PWR_GOV_WAIT_MAX 0 0 (min w 65535) else s
  if 1 < w then raise (bumpF s PWR_GOV_DEFER 0 0 1) cPWR 0 0 else s

/-- Requests waiting at their sources fill the room in the queue. -/
def govRefill (s : State) : State :=
  let room := govMax - s.gov.queue.length
  putGov s { s.gov with
    queue := s.gov.queue ++ s.gov.atSource.take room
    atSource := s.gov.atSource.drop room }

/-- At a tempo boundary. -/
def atBoundary (s : State) : Bool := s.time.beat == 0 && s.time.clk == 0

/-- The admissions of one boundary, with the last tempo's input voltage (mV), current (mA) and power (W) (R452). -/
def governorAdmit (s : State) (mv ma w : Nat) : State :=
  if !atBoundary s || s.gov.lastAt == s.time.tempoNo + 1 then s
  else
    let s := setF (setF (setF s PWR_IN_V 0 0 mv) PWR_IN_I 0 0 ma) PWR_IN_P_W 0 0 w
    let s := if getF s PWR_IN_P_PEAK 0 0 < w then setF s PWR_IN_P_PEAK 0 0 w else s
    let above := if getF s PWR_CAP 0 0 < w then s.gov.overCap + 1 else 0
    let slew := getF s PWR_SLEW 0 0 * 1000
    let debt := s.gov.debt
    let free := slew - debt
    let p := if s.gov.inputBad then ([], 0)
      else takeHead s mv slew true (debt == 0) free ((getF s PWR_CAP 0 0 - w) * 1000) s.gov.queue
    let debt := if p.2 = 0 then debt - slew else p.2
    let s := putGov s { s.gov with
      queue := s.gov.queue.drop p.1.length
      debt := debt
      lastAt := s.time.tempoNo + 1
      overCap := above }
    let s := setF (setF s PWR_GOV_STAT_ADMITTED 0 0 p.1.length) PWR_GOV_STAT_DEBT 0 0 (if debt = 0 then 0 else 1)
    let s := if p.2 = 0 then s else raise s cPWR 0 4
    govRefill (forAll p.1 s fun s r => admitReq (countAdmit s r) r.kind)

end Sys2Proof.Machine
end

