-- ==== Sys2Proof/Machine/Repair.lean ====
section
/-! DEFINITION. Machine/Repair.lean: bank handovers, the fuse records, and the repair of cores and SRAM (R191, R195 to
R202, R407 to R416). -/

namespace Sys2Proof.Machine

/-! ## Handovers (R196 to R201) -/

def Bank.sId : Field := CLU_BANK_STAT_ID
def Bank.put (s : State) (b : Bank) (f : Field) (v : Nat) : State := setF s f b.inst b.n v

/-- The field LAST. -/
def Bank.sLastF (b : Bank) : Field := if b.cluster then CLU_BANK_STAT_LAST else COR_BANK_STAT_LAST

/-- The settings of a request as they come into force: ID 0 unless CLASS is CORE, INBOUND 3 for PORT (R193, R214). -/
def bankSettings (s : State) (cls id inb rot pwr : Nat) : BankNext :=
  ⟨cls, if cls = 1 then id else 0, inboundOf cls inb, rot, pwr, s.copyNext⟩

/-- The settings requested are written into `_SET`. -/
def Bank.request (s : State) (b : Bank) (cls id inb rot pwr : Nat) : State :=
  let s := b.put s b.tClass cls
  let s := b.put s b.tIn inb
  let s := b.put s b.tRot rot
  let s := b.put s b.tPwr pwr
  if b.cluster then setF s CLU_BANK_SET_ID b.inst b.n id else s

/-- The settings of the handover take effect, but for the power level (R197); what a bank of the line cache held is
discarded (R204). -/
def Bank.adopt (s : State) (b : Bank) : State :=
  let t := b.next s
  let s := b.put s b.sClass t.cls
  let s := b.put s b.sIn t.inb
  let s := b.put s b.sRot t.rot
  let s := if b.cluster then setF s CLU_BANK_STAT_ID b.inst b.n t.id else s
  if t.cls = 5 then loseUnit s (lossUnit (b.phys 0)) else s

/-- A handover starts (R197): DRAINING, with its drain limit (R198). A bank that is to wake has nothing to drain: it reads
WAKING from the write and asks the governor (R201). -/
def Bank.start (s : State) (b : Bank) (t : BankNext) : State :=
  let s := { s with bankNext := SMap.insert s.bankNext b.key t }
  if b.get s b.sPwr ≠ 0 ∧ t.pwr = 0 then
    let s := b.put (b.adopt s) b.sState 2
    let s := { s with bankJobs := SMap.set s.bankJobs 0 b.key 0 }
    govRequest (b.put s b.sLastF 1) (.bank b.cluster b.inst b.n)
  else
    { b.put s b.sState 1 with
      bankJobs := SMap.set s.bankJobs 0 b.key (s.time.tempoNo + getF s CLU_HO_TMO b.clu 0 + 1) }

/-- Are the settings exactly those in force. -/
def Bank.same (s : State) (b : Bank) (t : BankNext) : Bool :=
  b.get s b.sClass == t.cls && b.get s b.sIn == t.inb && b.get s b.sRot == t.rot && b.get s b.sPwr == t.pwr &&
  (!b.cluster || b.id s == t.id)

/-- Is a handover to these settings refused (R199, R413, R213). -/
def Bank.refuses (s : State) (b : Bank) (cls id pwr : Nat) : Bool :=
  b.get s b.sState != 0 || b.get s b.sClass == 5 || b.get s b.sClass == 7 || decide (5 ≤ cls) ||
  (cls == 2 && !b.cluster) || pwr == 3 ||
  (cls == 1 && b.cluster &&
    (match corOfLid s id with
      | some c => corClu c != b.inst || lidOfCor s c != some id
      | none => true))

/-- A write of a `_SET` register with GO (R196, R199). -/
def bankHandover (s : State) (b : Bank) (cls id inb rot pwr : Nat) : State :=
  if b.refuses s cls id pwr then b.put s b.sLastF 2
  else
    let t := bankSettings s cls (if b.cluster then id else 0) inb rot pwr
    let s' := b.request s cls id inb rot pwr
    if b.same s t then b.put s' b.sLastF 1 else b.start s' t

/-- Does a tile of some core still have output to write into the bank (R197). -/
def bankTiles (s : State) (b : Bank) : List (Nat × TileRec) :=
  s.cores.flatMap fun e =>
    if corClu e.1 = b.clu ∧ (b.cluster ∨ e.1 = b.inst) then
      (e.2.tiles.filter fun t => t.out.any fun o => match localBank e.1 o.1 with
        | some (x, _) => x == b
        | none => false).map fun t => (e.1, t)
    else []

/-- The new settings take effect (R197, R201): STABLE, or SLEEPING towards RETAIN or OFF. -/
def bankEffect (s : State) (b : Bank) (last : Nat) : State :=
  let s := b.put (b.adopt s) b.sLastF last
  let s := { s with bankJobs := SMap.set s.bankJobs 0 b.key 0 }
  b.put s b.sState (if (b.next s).pwr = b.get s b.sPwr then 0 else 3)

/-- A bank that the row's instance and number name. -/
def bankOf (cluster : Bool) (inst n : Nat) : Bank :=
  if cluster then ⟨true, inst % 32, n % 32⟩ else ⟨false, inst % 1280, n % 8⟩

/-- The bank's contents are lost. -/
def bankLose (s : State) (b : Bank) : State := loseUnit s (lossUnit (b.phys 0))

/-- The cluster banks of a logical ID pass to MGT with INBOUND 0 (R195): those that it owns, and those that a handover is giving
it. -/
def banksToMgt (s : State) (clu lid : Nat) : State :=
  forAll (List.range 32) s fun s n =>
    let b : Bank := ⟨true, clu, n⟩
    let t := b.next s
    let st := b.get s b.sState
    if st = 1 then
      (if t.cls = 1 ∧ t.id = lid then
        { s with bankNext := SMap.insert s.bankNext b.key { t with cls := 4, id := 0, inb := 0 } } else s)
    else if b.get s b.sClass = 1 ∧ b.id s = lid then
      let t := { bankSettings s 4 0 0 (b.get s b.sRot) (b.get s b.sPwr) with pwr := if st = 0 then b.get s b.sPwr else t.pwr }
      if st = 0 then b.start s t else b.adopt { s with bankNext := SMap.insert s.bankNext b.key t }
    else s

/-! ## Fuse records (R407 to R411) -/

/-- The check of a fuse entry: CRC-8 over bits [55:0] from bit 0 upward (R256, R407, R569). -/
def fuseCheck (v : Nat) : Nat := crcBits 8 0x07 0xFF (bitsLSB 56 v)

/-- An entry with its check. -/
def fuseEntry (kind site loc : Nat) : Nat :=
  let v := kind + site * 2 ^ 8 + loc * 2 ^ 12
  v + fuseCheck v * 2 ^ 56

/-- A defined KIND other than EMPTY (R408). -/
def fuseKind (k : Nat) : Bool := (1 ≤ k && k ≤ 4) || (8 ≤ k && k ≤ 0xB) || (0x10 ≤ k && k ≤ 0x15)

/-- Entries the field bank can hold. -/
abbrev fuseMax : Nat := 512

/-- An entry joins the queue of entries to be blown (R410). -/
def fuseQueueAdd (s : State) (e : Nat) : State :=
  setF { s with fuseQueue := s.fuseQueue ++ [e] } FUS_STAT_BUSY 0 0 1

/-- A repair is recorded (R401, R410, R411): appended to the field bank, or counted as unsaved. -/
def fuseRepair (s : State) (kind site loc : Nat) : State :=
  let e := fuseEntry kind site loc
  let s := setF s MGT_REPAIR_LAST 0 0 e
  if s.fuseBank.length + s.fuseQueue.length < fuseMax then fuseQueueAdd s e
  else raise (bumpF { s with unsaved := s.unsaved ++ [e] } FUS_UNSAVED 0 0 1) cFUS 0 1

/-- The location of a position in a fuse entry: cluster, row, position (R408). -/
def fuseCorLoc (c : Nat) : Nat := c % 160 / 40 * 64 + c % 40 / 10 * 16 + c % 10

/-! ## Cores that fail (R412 to R415) -/

/-- The row of a position: cluster page and row. -/
def rowOf (c : Nat) : Nat × Nat := (corClu c, c % 40 / 10)

/-- The position 9 of a position's row. -/
def rowSpare (c : Nat) : Nat := c / 10 * 10 + 9

/-- A logical column becomes absent (R415). -/
def coreAbsent (s : State) (c lid : Nat) : State :=
  let clu := corClu c
  let row := lid / 16 % 4
  let s := setF s CLU_ROW_MAP_ABSENT clu row (setBit (getF s CLU_ROW_MAP_ABSENT clu row) (lid % 16))
  let s := if c % 10 = 9 then setF (setF s CLU_ROW_MAP_SPARE_FOR clu row 15) CLU_ROW_MAP_SPARE_OK clu row 0 else s
  let s := bumpF s MGT_REPAIR_CNT_ABSENT 0 0 1
  let s := banksToMgt s clu lid
  raiseFor (raise (raise s cCLU clu 1) cCDI (corDie c) 4) cMGT 0 22 .noPart

/-- Another failed position of the row that waits for the spare. -/
def rowSubst (s : State) (c : Nat) : Option Subst := s.substs.find? fun x => rowOf x.pos == rowOf c

/-- A position fails (R412): it is FAILED and stops as for a fault. A position that holds a logical ID is replaced by the
spare of its row, or its column becomes absent; of two that fail in one tempo the lower column takes the spare (R414,
R415). Its items drain as at a core reset (R419). -/
def failCore (s : State) (c : Nat) : State :=
  if coreState s c = csFailed then s
  else
    let lid := lidOfCor s c
    let s := stopCore s c
    let s := setCoreState s c csFailed
    let s := modCore s c fun k => { k with goal := none, resetAt := some (s.time.tempoNo + getF s MGT_RST_DRAIN 0 0) }
    match lid with
    | none => s
    | some l =>
      let p := rowOf c
      let free := getF s CLU_ROW_MAP_SPARE_FOR p.1 p.2 == 15 && getF s CLU_ROW_MAP_SPARE_OK p.1 p.2 == 1
      let here : Subst := ⟨c, s.time.tempoNo⟩
      match rowSubst s c with
      | none =>
        if free then govRequest { s with substs := s.substs ++ [here] } (.corePower (rowSpare c))
        else fuseRepair (coreAbsent s c l) 1 (corSite c) (fuseCorLoc c)
      | some o =>
        if o.tempo = s.time.tempoNo ∧ c < o.pos then
          let s := { s with substs := s.substs.map fun x => if x = o then here else x }
          match lidOfCor s o.pos with
          | some lo => fuseRepair (coreAbsent s o.pos lo) 1 (corSite o.pos) (fuseCorLoc o.pos)
          | none => s
        else fuseRepair (coreAbsent s c l) 1 (corSite c) (fuseCorLoc c)

/-- Nothing of a position is in flight any more (R414). -/
def nothingInFlight (s : State) (c : Nat) : Bool :=
  let k := getCore s c
  k.outstanding == 0 && k.dmaLive == 0 && k.wait.isNone && k.tiles == []

/-- The spare's scratchpad banks take the settings of the failed core's banks (R195). -/
def passBanks (s : State) (c sp : Nat) : State :=
  forAll (List.range 8) s fun s n =>
    forAll [COR_BANK_SET_CLASS, COR_BANK_SET_INBOUND, COR_BANK_SET_ROT, COR_BANK_SET_PWR, COR_BANK_STAT_CLASS,
      COR_BANK_STAT_INBOUND, COR_BANK_STAT_ROT, COR_BANK_STAT_PWR] s fun s f => setF s f sp n (getF s f c n)

/-- The spare takes the logical ID (R414): map, banks, wake-pending bit, fuse entry, events. -/
def substitute (s : State) (c : Nat) : State :=
  let p := rowOf c
  let sp := rowSpare c
  let s := { s with substs := s.substs.filter fun x => x.pos != c }
  let s := setF s CLU_ROW_MAP_SPARE_FOR p.1 p.2 (c % 10)
  let s := passBanks s c sp
  let s := setF s COR_STAT_WAKE_PEND sp 0 (getF s COR_STAT_WAKE_PEND c 0)
  let s := loseScratch s c
  let s := bumpF s MGT_REPAIR_CNT_SUBST 0 0 1
  let s := fuseRepair s 1 (corSite c) (fuseCorLoc c)
  raiseFor (raise (raise s cCLU p.1 0) cCDI (corDie c) 5) cMGT 0 21 .noPart

/-- The spare fails its power-up or first check (R414, R415): it is FAILED and the column becomes absent. -/
def spareFails (s : State) (c : Nat) : State :=
  let sp := rowSpare c
  let p := rowOf c
  let s := { s with substs := s.substs.filter fun x => x.pos != c }
  let s := setF (setCoreState s sp csFailed) CLU_ROW_MAP_SPARE_OK p.1 p.2 0
  let s := match lidOfCor s c with
    | some l => coreAbsent s c l
    | none => s
  fuseRepair (fuseRepair s 1 (corSite c) (fuseCorLoc c)) 1 (corSite c) (fuseCorLoc sp)

/-! ## SRAM units (R191, R413) -/

/-- The bank that holds a physical SRAM byte, with the offset in it. -/
def bankAt (a : Nat) : Bank × Nat :=
  if 2 ^ 53 ≤ a then
    let x := a - 2 ^ 53
    (⟨true, x / 2 ^ 23, x % 2 ^ 23 / 2 ^ 18⟩, x % 2 ^ 18)
  else
    let x := a - 2 ^ 52
    (⟨false, x / 2 ^ 20, x % 2 ^ 20 / 2 ^ 17⟩, x % 2 ^ 17)

/-- A failing unit is copied to a spare unit of its bank, or the bank fails, and with a scratchpad bank its core
(R412, R413). -/
def sramRepair (s : State) (a : Nat) : State :=
  let p := bankAt a
  let b := p.1
  let used := SMap.get s.sramSpares 0 b.key
  if used < 8 then
    let s := { s with
      sramSpares := SMap.set s.sramSpares 0 b.key (used + 1)
      sramCe := SMap.erase s.sramCe (a / 256) }
    let die := b.clu / 4
    fuseRepair s 3 (dieSite die)
      ((if b.cluster then 256 + b.clu % 4 * 64 else fuseCorLoc b.inst) + b.n * 2 ^ 9 + p.2 / 256 * 2 ^ 14)
  else if b.cluster then b.put s b.sClass 7
  else failCore s b.inst

/-- What the code finds in an SRAM read at a physical address (R191, R413): a corrected error counts, and the fourth in a
unit within a housekeeping round repairs it; an error that cannot be corrected marks the word and repairs the unit. SRAM has no
lanes. -/
def sramFound (s : State) (clu a : Nat) (e : Ecc) : State :=
  match e with
  | .clean => s
  | .lane _ => s
  | .corrected =>
    let n := SMap.get s.sramCe 0 (a / 256) + 1
    let s := bumpF { s with sramCe := SMap.set s.sramCe 0 (a / 256) n } CLU_ECC_CE clu 0 1
    if 4 ≤ n then sramRepair s a else s
  | .uncorrectable => sramRepair (markUe s a true) a
  | .bank => sramRepair (markUe s a true) a

/-- A read of a unit of core `c` (R179, R191): what the code finds, then an uncorrectable word faults the core with
DATA_UNCORRECTABLE and is reported (R518, R570). -/
def readAccess (s : State) (c a n unit pc : Nat) (ecc : Ecc) (act : State → Option State) : Option State :=
  access s c a n unit pc fun s =>
    let s := sramFound s (corClu c) (localPhys s c a) ecc
    if localUe s c a n then
      some (faultCore (coreUe s c a) c fcDataUe unit 0 pc)
    else act s

/-- A store of a unit of core `c` (R191): a write that covers a word only in part reads it first, with what the code finds there;
an uncorrectable word stays as it is, faults the core with DATA_UNCORRECTABLE and is reported (log entry 132, DEDUCED); words
written whole become correct. -/
def storeAccess (s : State) (c a : Nat) (bs : List Byte) (unit pc : Nat) (ecc : Ecc) (act : State → Option State) :
    Option State :=
  access s c a bs.length unit pc fun s =>
    match partWords a bs.length with
    | [] => act (storeLocal s c a bs)
    | x :: xs =>
      let s := sramFound s (corClu c) (localPhys s c x) ecc
      match (x :: xs).find? fun x => isUe s (localPhys s c x) with
      | some x => some (faultCore (coreUe s c x) c fcDataUe unit 0 pc)
      | none => act (storeLocal s c a bs)

end Sys2Proof.Machine
end

