-- ==== Sys2Proof/Machine/Site.lean ====
section
/-! DEFINITION. Machine/Site.lean: what state a site is in for the requests and items that reach it (R347, R416, R418,
R421 to R424, R460, R462). -/

namespace Sys2Proof.Machine

/-- The reset in progress of a site: its partition's, or its own. -/
def siteReset (s : State) (site : Nat) : Option ResetRec :=
  match SMap.find s.resets (16 + site) with
  | some r => some r
  | none => (partOf s site).bind fun p => SMap.find s.resets p

/-- Has the reset begun: its tempo 0 has come. -/
def ResetRec.begun (r : ResetRec) : Bool := r.tempo0.isSome

/-- The site is in reset: unassigned, or its partition's reset or its own has begun (R422, R424). -/
def siteResetting (s : State) (site : Nat) : Bool :=
  (partOf s site).isNone || (match siteReset s site with
    | some r => r.begun
    | none => false)

/-- The site is fenced: stopping or stopped (R460). -/
def siteFenced (s : State) (site : Nat) : Bool := (SMap.find s.stops site).isSome

/-- The site has failed through its rail (R416). -/
def siteFailed (s : State) (site : Nat) : Bool := hasBit s.railDown site

/-- The logic layer of a site's stack runs its reset (R242), or the stack has failed (R234). -/
def stackResetting (s : State) (k : Nat) : Bool :=
  let p := getF s MST_STAT_PHASE k 0
  1 ≤ p && p ≤ 6
def stackFailed (s : State) (k : Nat) : Bool := getF s MST_STAT_PHASE k 0 == 7

/-- The length of a partition reset in tempos (R422). -/
def resetLen (r : ResetRec) : Nat := if r.scrub then 16000 else 43

/-- A site is parked: unassigned, in reset, or stopped and drained (R283, R424, R460). -/
def siteParked (s : State) (site : Nat) : Bool := getF s PRT_PARK site 0 == 1

/-- The retry-after of an answer about a site (R243, R421): the expected end less the present tempo, at least 1; 65,535
where no end is expected. -/
def retryAfter (s : State) (site : Nat) : Nat :=
  if (partOf s site).isNone then 65535
  else match siteReset s site with
    | some r =>
      if r.hold ∧ !r.release then 65535
      else match r.tempo0 with
        | some t => max 1 (t + resetLen r - s.time.tempoNo)
        | none => resetLen r
    | none => match siteStack site with
      | some k =>
        match (getStack s k).resetFrom with
        | some t => max 1 (t + (getStack s k).resetLen - s.time.tempoNo)
        | none => 1
      | none => 1

/-- The status that a site's own state gives a request for it, if it refuses it (R347, R510). -/
def siteStatus (s : State) (site : Nat) : Option Status :=
  if siteFenced s site then some .fenced
  else if siteResetting s site then some .targetResetting
  else if siteFailed s site then some .uncorrectable
  else none

/-- The same for a request to memory at a place: its stack's logic layer (R242), or its cluster in reset (R421). -/
def placeStatus (s : State) (site : Nat) (p : Place) : Option Status :=
  match siteStatus s site with
  | some st => some st
  | none =>
    match p with
    | .stack k _ => if stackFailed s k then some .uncorrectable else if stackResetting s k then some .targetResetting else none
    | .bank b _ => if (SMap.find s.cluResets b.clu).isSome then some .targetResetting else none
    | .none => none

/-! ## Admission (R332) -/

/-- May partition `q` reach partition `p`: bit q of byte p of `FAB_XPART`. -/
def xpart (s : State) (q p : Nat) : Bool :=
  if p < 4 then hasBit (getF s FAB_XPART0 0 0) (8 * p + q) else hasBit (getF s FAB_XPART1 0 0) (8 * (p - 4) + q)

/-- Do the partition checks let a request in: from a site of this module, or through a Veryen port. -/
def admits (s : State) (site : Nat) (ingress : Option Nat) (srcSite : Nat) : Bool :=
  match partOf s site with
  | none => false
  | some p =>
    match ingress with
    | some n => hasBit (getF s VLK_CFG_ADMIT n 0) p
    | none => match partOf s srcSite with
      | some q => xpart s q p
      | none => false

/-! ## Committed pages (R390, R391) -/

/-- Does a stack offset lie in a COMMITTED page of a context (R391). -/
def kvCommitted (s : State) (c k ofs : Nat) : Bool :=
  let st := getF s GMB_CTX_CTRL_EN 0 c
  let seg := getF s GMB_CTX_KV_GEOM_SEG_PAGES 0 c * 65536
  let base := getF s GMB_CTX_KV_BASE 0 c
  let segs := getF s GMB_CTX_KV_GEOM_SEGS 0 c + 1
  let page := (ofs - base) % seg / 65536
  let perPage := 2 ^ (16 - getF s GMB_CTX_KV_GEOM_POS_SHIFT 0 c)
  st == 1 && hasBit (getF s GMB_CTX_KV_GEOM_STACKS 0 c) k && decide (base ≤ ofs) && decide (ofs < base + segs * seg) &&
  decide ((page + 1) * perPage ≤ getF s GMB_CTX_COMMIT 0 c)

/-- The context of whose layout a write of `n` bytes at a stack offset touches a COMMITTED page. -/
def kvDenier (s : State) (k ofs n : Nat) : Option Nat :=
  (List.range 8).find? fun c => kvCommitted s c k ofs || kvCommitted s c k (ofs + n - 1)

end Sys2Proof.Machine
end

