-- ==== Sys2Proof/Machine/StackMem.lean ====
section
/-! DEFINITION. Machine/StackMem.lean: the memory stacks: decode, error correction, repair, capacity, refresh (R219 to
R240). The DRAM bytes are kept by stack offset, which every repair leaves as it is, so a repair moves no byte here. -/

namespace Sys2Proof.Machine

/-! ## Decode (R218, R219) -/

/-- A row of a stack: `MCH` instance, layer, bank, row. -/
structure DramLoc where
  ch : Nat
  layer : Nat
  bank : Nat
  row : Nat
  deriving DecidableEq, Repr

/-- The decode of a stack offset (R219). -/
def dramLoc (k ofs : Nat) : DramLoc :=
  let q := bitsOf ofs 45 19
  ⟨chanOf k ofs, q % 12, bitsOf ofs 18 17, q / 12⟩

/-- The bank number in the channel: 4 × layer + bank (R218). -/
def DramLoc.bankNo (l : DramLoc) : Nat := 4 * l.layer + l.bank

/-- The key of a row in its stack. -/
def DramLoc.rowKey (l : DramLoc) : Nat := (l.ch % 128 * 64 + l.bankNo) * 8192 + l.row

/-! ## Capacity (R220, R235, R238) -/

/-- The capacity in service, in MiB (R220). -/
def stackCap (s : State) (k : Nat) : Nat :=
  36864 - 6 * (getF s MST_RESERVE_ACTIVE k 0 + getF s MST_CAP_LOST k 0)

/-- Granules are taken from the top of the service range (R238). -/
def loseGranules (s : State) (k n : Nat) : State :=
  if n = 0 then s
  else
    let s := setF s MST_CAP_LOST k 0 (getF s MST_CAP_LOST k 0 + n)
    let s := setF s MST_CAP_MIB k 0 (stackCap s k)
    let base := stackCap s k * 2 ^ 20
    let s := setF s MST_LOST_BASE k 0 base
    let s := raise s cMST k 10
    reportItem s 5 5 cMCH (k * 128) (gaHere s (stackSite k) base) 0 0 (some (stackSite k)) (partOf s (stackSite k))

/-! ## Where a burst lies (R218, R219, R231 to R238) -/

/-- Rows of a bank, and of the whole offset range: granule `j` is row 6,143 − `j` of every bank (R218, R235). -/
abbrev bankRows : Nat := 6144

/-- Rows below `n` that an item takes: all, the odd or the even ones (R236, R237). -/
def Moved.below (m : Moved) (n : Nat) : Nat := if m.kind = 3 then n / 2 else if m.kind = 6 then (n + 1) / 2 else n

/-- Does a place lie in what the item has remapped. -/
def Moved.covers (m : Moved) (l : DramLoc) : Bool :=
  l.ch % 128 == m.chan && (m.kind != 2 || l.bankNo == m.bank) && (m.kind != 3 || l.row % 2 == 1) && (m.kind != 6 || l.row % 2 == 0)

/-- Is the row one that the item moves: of the service range, or of a granule used before it. -/
def Moved.takes (m : Moved) (row : Nat) : Bool := decide (row < m.rows) || decide (bankRows - m.start ≤ row)

/-- The unit of a place in the item, in ascending order of offsets (R235), with the burst in the row. -/
def Moved.unit (m : Moved) (l : DramLoc) (burst : Nat) : Nat :=
  let rank := if l.row < m.rows then m.below l.row else m.below m.rows + (m.below l.row - m.below (bankRows - m.start))
  if m.kind = 2 then rank * 16 + burst else rank * 768 + l.bankNo * 16 + burst

/-- The units of the item. -/
def Moved.size (m : Moved) : Nat :=
  (m.below m.rows + (m.below bankRows - m.below (bankRows - m.start))) * (if m.kind = 2 then 16 else 768)

/-- Channels in which a place of the given layer, bank and row is not remapped by any of the items. -/
def openChans (k : Nat) (ms : List Moved) (layer bank row : Nat) : List Nat :=
  (List.range 128).filter fun c => !ms.any fun m => m.covers ⟨k * 128 + c, layer, bank, row⟩

/-- The units of granule `j` that decode to no remapped place (R235). -/
def granuleRoom (k : Nat) (ms : List Moved) (j : Nat) : Nat :=
  ((List.range 48).map fun b => 16 * (openChans k ms (b / 4) (b % 4) (bankRows - 1 - j)).length).sum

/-- The place of unit `n` of a granule's usable units, in ascending order of offsets, from bank `b` on. -/
def granuleUnit (k : Nat) (ms : List Moved) (j : Nat) : Nat → Nat → Nat → Option (DramLoc × Nat)
  | 0, _, _ => none
  | fuel + 1, b, n =>
    let row := bankRows - 1 - j
    let cs := openChans k ms (b / 4) (b % 4) row
    if n < 16 * cs.length then some (⟨k * 128 + cs.getD (n % cs.length) 0, b / 4, b % 4, row⟩, n / cs.length)
    else granuleUnit k ms j fuel (b + 1) (n - 16 * cs.length)

/-- The place of unit `n` of an item, in its granules from `j` on; `fuel` granules remain. -/
def reserveUnit (k : Nat) (ms : List Moved) : Nat → Nat → Nat → Option (DramLoc × Nat)
  | 0, _, _ => none
  | fuel + 1, j, n =>
    let room := granuleRoom k ms j
    if n < room then granuleUnit k ms j 48 0 n else reserveUnit k ms fuel (j + 1) (n - room)

/-- Granules that an item of `n` units takes from number `j` on (R235): those of its size, and more where remapped units are
skipped. -/
def granulesFor (k : Nat) (ms : List Moved) : Nat → Nat → Nat → Nat
  | 0, _, _ => 0
  | fuel + 1, j, n =>
    let room := granuleRoom k ms j
    if n ≤ room then 1 else 1 + granulesFor k ms fuel (j + 1) (n - room)

/-- How far an item has been copied (R239): the pointer of its copy, or all of it once the copy is done. -/
def movedTo (x : Stack) (m : Moved) : Nat :=
  match x.evacs.find? fun e => e.kind == (if m.kind = 6 then 4 else m.kind) && e.chan == m.chan && (m.kind != 2 || e.item == m.bank) with
  | some e => e.ptr
  | none => m.size

/-- One item's redirection of a place and burst (R235, R239): units below its pointer are found in the reserve. -/
def redirect (k : Nat) (x : Stack) (earlier : List Moved) (m : Moved) (p : DramLoc × Nat) : DramLoc × Nat :=
  if m.covers p.1 && m.takes p.1.row && decide (m.unit p.1 p.2 < movedTo x m) then
    (reserveUnit k (earlier ++ [m]) m.count m.start (m.unit p.1 p.2)).getD p
  else p

/-- The redirections of the items, in the order in which they were taken. -/
def redirectAll (k : Nat) (x : Stack) : List Moved → List Moved → DramLoc × Nat → DramLoc × Nat
  | _, [], p => p
  | done, m :: ms, p => redirectAll k x (done ++ [m]) ms (redirect k x done m p)

/-- The row that holds a burst: its decoded place (R219), as the items moved into the reserve redirect it (R235), and in the spare
layer where that has replaced its layer and has its copy (R234). -/
def dramAt (s : State) (k ofs : Nat) : DramLoc :=
  let x := getStack s k
  let p := redirectAll k x [] x.moved (dramLoc k ofs, bitsOf ofs 16 13)
  let ptr := match x.evacs.find? fun e => e.kind == 5 with
    | some e => e.ptr
    | none => 2 ^ 32
  if p.1.layer = getF s MST_STAT_SPARE_FOR k 0 ∧ (p.1.row * 4 + p.1.bank) * 16 + p.2 < ptr then { p.1 with layer := 12 } else p.1

/-- Granules for a remapped item: from the reserve, then from the service range (R235, R238). -/
def takeGranules (s : State) (k n : Nat) : State :=
  let free := getF s MST_RESERVE_ACTIVE k 0 - getF s MST_RESERVE_USED k 0
  let s := setF s MST_RESERVE_USED k 0 (getF s MST_RESERVE_USED k 0 + min n free)
  loseGranules s k (n - free)

/-- Does the reserve hold `n` free granules (R236). -/
def reserveFree (s : State) (k n : Nat) : Bool :=
  decide (getF s MST_RESERVE_USED k 0 + n ≤ getF s MST_RESERVE_ACTIVE k 0)

/-- The item that a repair would move now (R235), with the granules that it takes: at least `n`. -/
def newMoved (s : State) (k kind chan bank n : Nat) : Moved :=
  let lost := getF s MST_CAP_LOST k 0
  let used := getF s MST_RESERVE_USED k 0
  let act := getF s MST_RESERVE_ACTIVE k 0
  let m : Moved := ⟨kind, chan, bank, bankRows - act - (lost + (n - (act - used))), used + lost, n⟩
  { m with count := max n (granulesFor k ((getStack s k).moved ++ [m]) 1024 m.start m.size) }

/-! ## Repair copies (R239) -/

/-- `MST_EVAC` shows the first copy of the queue, with its pointer in 1/256 of the item (R245). -/
def showEvac (s : State) (k : Nat) : State :=
  let q := (getStack s k).evacs
  let s := setF s MST_EVAC_QUEUED k 0 (q.length - 1)
  match q with
  | [] => setF (setF (setF (setF s MST_EVAC_ACTIVE k 0 0) MST_EVAC_KIND k 0 0) MST_EVAC_CHAN k 0 0) MST_EVAC_PROGRESS k 0 0
  | e :: _ =>
    let s := setF (setF (setF s MST_EVAC_ACTIVE k 0 1) MST_EVAC_KIND k 0 e.kind) MST_EVAC_CHAN k 0 e.chan
    setF s MST_EVAC_PROGRESS k 0 (min 255 (e.ptr * 256 / max 1 e.size))

/-- A repair copy joins the queue. -/
def pushEvac (s : State) (k : Nat) (e : Evac) : State :=
  let x := getStack s k
  showEvac (putStack s k { x with evacs := x.evacs ++ [e] }) k

/-- An item is to be moved into the reserve: it takes its granules, and its copy joins the queue. -/
def moveItem (s : State) (k : Nat) (m : Moved) : State :=
  let s := takeGranules s k m.count
  let x := getStack s k
  pushEvac (putStack s k { x with moved := x.moved ++ [m] }) k ⟨if m.kind = 6 then 4 else m.kind, m.chan, m.bank, m.size, 0⟩

/-- Units that a copy of a stack may move in one tempo at most, at its share of its channel's bandwidth (R239, R245). -/
def evacRate (s : State) (k : Nat) (e : Evac) : Nat :=
  let w := if e.kind ≠ 5 ∧ getF s MCH_WIDTH_MODE_MODE (k * 128 + e.chan) 0 = 1 then 150 else 300
  w * 2 ^ getF s MST_EVAC_SHARE k 0 / 32

/-- In one tempo the pointer of the copy that runs advances, by how much up to its share the manual leaves open (a free value). -/
def evacStep (s : State) (k : Nat) : State :=
  let x := getStack s k
  match x.evacs with
  | [] => s
  | e :: rest =>
    let v := draw s
    let e := { e with ptr := min e.size (e.ptr + v.1 % (evacRate s k e + 1)) }
    showEvac (putStack v.2 k { x with evacs := e :: rest }) k

/-- The copy of a row or a unit by the copy that runs holds an access of `n` bytes at an offset (R231, R239): the bank of a row
copy serves nothing else, and a write to the unit being copied waits. -/
def evacHolds (s : State) (k ofs n : Nat) (w : Bool) : Bool :=
  let x := getStack s k
  match x.evacs with
  | [] => false
  | e :: _ => (List.range ((ofs % 64 + n + 63) / 64)).any fun i =>
      let o := ofs / 64 * 64 + 64 * i
      let l := dramAt s k o
      if e.kind = 1 then l.ch % 128 == e.chan && l.bankNo == e.item / 8192 % 64
      else if e.kind = 5 then
        w && l.layer == e.item && (l.row * 4 + l.bank) * 16 + bitsOf o 16 13 == e.ptr
      else w && x.moved.any fun m =>
        movedTo x m == e.ptr && e.kind == (if m.kind = 6 then 4 else m.kind) && m.chan == e.chan && m.bank == e.item &&
        m.covers l && m.takes l.row && m.unit l (bitsOf o 16 13) == e.ptr

/-! ## Lines of a stack that fails (R212) -/

/-- The line of a physical stack address. -/
def lineOf (k ofs : Nat) : Nat := (physStack k ofs) / 128

/-- The stack of a line. -/
def lineStack (l : Nat) : Nat := l * 128 / 2 ^ 46

/-- The key of a line in a cluster's cache. -/
def cacheKey (cl l : Nat) : Nat := cl * 2 ^ 50 + l

/-- A line is dropped from a cache; an M line is lost, counted and reported (R212, R518). -/
def dropLine (s : State) (cl l : Nat) : State :=
  match SMap.find s.lines (cacheKey cl l) with
  | none => s
  | some r =>
    let s := { s with lines := SMap.erase s.lines (cacheKey cl l) }
    if r.state = 3 then
      let s := setF s CLU_LC_STAT_DIRTY cl 0 (getF s CLU_LC_STAT_DIRTY cl 0 - 1)
      let s := bumpF s CLU_LC_LOST cl 0 1
      let k := lineStack l
      reportItem s 6 5 cCLU cl (gaHere s (stackSite k) (l * 128 % 2 ^ 46)) 0 0 (some (dieSite (cl / 4)))
        (partOf s (dieSite (cl / 4)))
    else s

/-- Every line of a stack is dropped from every cache; its directory keeps the requests that wait. -/
def dropStackLines (s : State) (k : Nat) : State :=
  let s := forAll (s.lines.map (·.1)) s fun s key =>
    if lineStack (key % 2 ^ 50) = k then dropLine s (key / 2 ^ 50) (key % 2 ^ 50) else s
  let reqs := fun (d : DirRec) => (match d.busy with
    | some (r, _) => [r]
    | none => []) ++ d.waiting
  { s with dirs := s.dirs.filterMap fun e =>
      if lineStack e.1 ≠ k then some e
      else if reqs e.2 = [] then none
      else some (e.1, { DirRec.init with txn := e.2.txn, waiting := reqs e.2 }) }

/-- The stack goes out of service (R234). -/
def stackFail (s : State) (k : Nat) : State :=
  let s := putStack s k { getStack s k with resetFrom := none, exitOk := false }
  let s := setF (setF s MST_STAT_PHASE k 0 7) MST_CAP_MIB k 0 0
  raise (dropStackLines s k) cMST k 12

/-! ## Repairs (R231 to R237) -/

/-- The banks of the spare layer take the places of a layer's banks (R218, R234): `FREE` of each channel counts their spare rows
in place of those of the layer's. -/
def spareRows (s : State) (k layer : Nat) : State :=
  forAll (getStack s k).rowReps s fun s e =>
    let ch := k * 128 + e.1 / 64
    let b := e.1 % 64
    let free := getF s MCH_ROWREP_FREE ch 0
    if b / 4 = layer then setF s MCH_ROWREP_FREE ch 0 (free + e.2)
    else if b / 4 = 12 then setF s MCH_ROWREP_FREE ch 0 (free - e.2)
    else s

/-- A layer fails (R234): layer 12 replaces the first, and the second, that of the spare layer in its place among them,
takes the stack out of service. -/
def layerFail (s : State) (k layer : Nat) : State :=
  if stackFailed s k then s
  else
    let s := fuseRepair s 0xA (stackSite k) layer
    if getF s MST_STAT_SPARE_FOR k 0 = 15 ∧ SMap.get (getStack s k).bankFails 0 12 ≤ 8 ∧ layer ≠ 12 then
      let s := spareRows (setF s MST_STAT_SPARE_FOR k 0 layer) k layer
      let x := getStack s k
      let s := putStack s k { x with bankFails := SMap.erase x.bankFails layer }
      raise (pushEvac s k ⟨5, 0, layer, 393216, 0⟩) cMST k 8
    else if layer = 12 ∧ getF s MST_STAT_SPARE_FOR k 0 = 15 then
      putStack s k { getStack s k with bankFails := SMap.set (getStack s k).bankFails 0 12 512 }
    else stackFail s k

/-- The number in `MCH_BANK_OUT` of a bank: a bank of the spare layer in the place of the layer it replaces (R247). -/
def outBit (s : State) (k : Nat) (l : DramLoc) : Nat :=
  if l.layer = 12 then 4 * getF s MST_STAT_SPARE_FOR k 0 + l.bank else l.bankNo

/-- A bank fails: a layer with more than 8 failed banks fails with it (R230). -/
def bankFailed (s : State) (k : Nat) (l : DramLoc) : State :=
  let x := getStack s k
  let n := SMap.get x.bankFails 0 l.layer + 1
  let s := putStack s k { x with bankFails := SMap.set x.bankFails 0 l.layer n }
  if 8 < n then layerFail s k l.layer else s

/-- A bank is mapped out into one granule (R233); a layer with more than 8 failed banks fails (R230). A bank of a spare layer that
is not in use holds nothing to move, and shows in no register. -/
def bankOut (s : State) (k : Nat) (l : DramLoc) : State :=
  if l.layer = 12 ∧ getF s MST_STAT_SPARE_FOR k 0 = 15 then
    bankFailed (fuseRepair s 9 (stackSite k) (l.ch % 128 + l.bankNo * 2 ^ 7)) k l
  else
    let o := outBit s k l
    if hasBit (getF s MCH_BANK_OUT l.ch 0) o then s
    else
      let s := setF s MCH_BANK_OUT l.ch 0 (setBit (getF s MCH_BANK_OUT l.ch 0) o)
      let s := moveItem s k (newMoved s k 2 (l.ch % 128) o 1)
      let s := fuseRepair s 9 (stackSite k) (l.ch % 128 + l.bankNo * 2 ^ 7)
      bankFailed (raiseMch s l.ch 3) k l

/-- Is the bank one of the 48 active banks of its channel (R218). -/
def bankActive (s : State) (k : Nat) (l : DramLoc) : Bool :=
  if l.layer = 12 then getF s MST_STAT_SPARE_FOR k 0 != 15 else l.layer != getF s MST_STAT_SPARE_FOR k 0

/-- A row is repaired with a spare row of its bank, to which it is redirected, or the bank is mapped out (R231, R233). -/
def rowRepair (s : State) (k : Nat) (l : DramLoc) : State :=
  let x := getStack s k
  let key := l.ch % 128 * 64 + l.bankNo
  let n := SMap.get x.rowReps 0 key
  let s := putStack s k { x with
    rowCe := SMap.erase x.rowCe l.rowKey
    rowReps := if n < 64 then SMap.set x.rowReps 0 key (n + 1) else x.rowReps
    rowMap := if n < 64 then SMap.set x.rowMap 0 l.rowKey (n + 1) else x.rowMap }
  if n < 64 then
    let s := setF s MCH_ROWREP_USED l.ch 0 (getF s MCH_ROWREP_USED l.ch 0 + 1)
    let s := if bankActive s k l then setF s MCH_ROWREP_FREE l.ch 0 (getF s MCH_ROWREP_FREE l.ch 0 - 1) else s
    let s := pushEvac s k ⟨1, l.ch % 128, l.rowKey, 16, 0⟩
    let s := fuseRepair s 8 (stackSite k) (l.ch % 128 + l.bankNo * 2 ^ 7 + l.row * 2 ^ 13)
    raiseMch s l.ch 4
  else bankOut s k l

/-- A channel is mapped out (R237): 48 granules, or 24 more after relief. -/
def channelOut (s : State) (ch : Nat) : State :=
  let k := ch / 128
  let relief := (getStack s k).moved.any fun m => m.kind == 3 && m.chan == ch % 128
  let s := setF s MCH_WIDTH_MODE_MODE ch 0 2
  raiseMch (moveItem s k (newMoved s k (if relief then 6 else 4) (ch % 128) 0 (if relief then 24 else 48))) ch 2

/-- The ten vias in use at half width: the lowest-numbered 8 good data vias and 2 good others (log entry 26, DEDUCED). -/
def halfLanes (fail : Nat) : Nat :=
  let data := ((List.range 16).filter fun v => !hasBit fail v).take 8
  let chk := ([16, 17, 18, 19].filter fun v => !hasBit fail v)
  let rest := ((List.range 16).filter fun v => !hasBit fail v).drop 8
  ((data ++ (chk ++ rest).take 2)).foldl setBit 0

/-- A channel goes to half width, with relief when the reserve has room (R232, R236). -/
def channelHalf (s : State) (ch : Nat) : State :=
  let k := ch / 128
  let s := setF s MCH_WIDTH_MODE_MODE ch 0 1
  let s := raiseMch (setF s MCH_HALF_LANES ch 0 (halfLanes (getF s MCH_VIA_FAIL ch 0))) ch 1
  let m := newMoved s k 3 (ch % 128) 0 24
  if reserveFree s k m.count then moveItem s k m else s

/-- The lane position that via `v` serves: its own, or the one a spare is steered to. -/
def viaLane (s : State) (ch v : Nat) : Option Nat :=
  if v < 18 then some v
  else
    let f := getF s (if v = 18 then MCH_VIA_MAP_S0_FOR else MCH_VIA_MAP_S1_FOR) ch 0
    if f = 31 then none else some f

/-- The via that serves a lane position: a spare steered to it, or its own. -/
def laneVia (s : State) (ch lane : Nat) : Nat :=
  if getF s MCH_VIA_MAP_S0_FOR ch 0 = lane then 18 else if getF s MCH_VIA_MAP_S1_FOR ch 0 = lane then 19 else lane

/-- A spare via steered to a lane: the first that is neither in use nor failed (R232). A spare that served the lane and has failed
serves none. -/
def steer (s : State) (ch lane : Nat) : Option State :=
  let fail := getF s MCH_VIA_FAIL ch 0
  let s := if hasBit fail 18 && getF s MCH_VIA_MAP_S0_FOR ch 0 == lane then setF s MCH_VIA_MAP_S0_FOR ch 0 31 else s
  let s := if hasBit fail 19 && getF s MCH_VIA_MAP_S1_FOR ch 0 == lane then setF s MCH_VIA_MAP_S1_FOR ch 0 31 else s
  if !hasBit fail 18 && getF s MCH_VIA_MAP_S0_FOR ch 0 == 31 then some (setF s MCH_VIA_MAP_S0_FOR ch 0 lane)
  else if !hasBit fail 19 && getF s MCH_VIA_MAP_S1_FOR ch 0 == 31 then some (setF s MCH_VIA_MAP_S1_FOR ch 0 lane)
  else none

/-- A via fails (R232). A failure of a via not in use at half width is recorded in `MCH_VIA_FAIL` and nowhere else. -/
def viaFail (s : State) (ch v : Nat) : State :=
  let fail := getF s MCH_VIA_FAIL ch 0
  if hasBit fail v then s
  else
    let lane := viaLane s ch v
    let s := setF s MCH_VIA_FAIL ch 0 (setBit fail v)
    let rec_ := fun (s : State) => fuseRepair s 0xB (stackSite (ch / 128)) (ch % 128 + v * 2 ^ 7)
    let m := getF s MCH_WIDTH_MODE_MODE ch 0
    if m = 0 then
      let s := rec_ s
      match lane with
      | none => s
      | some l =>
        match steer s ch l with
        | some s => raiseMch s ch 0
        | none => channelHalf s ch
    else if m = 1 ∧ hasBit (getF s MCH_HALF_LANES ch 0) v then channelOut (rec_ s) ch
    else s

/-- A read that cannot be corrected: counted, recorded and reported (R226). -/
def dramUe (s : State) (k ofs : Nat) : State :=
  let ch := (dramAt s k ofs).ch
  let s := bumpF (bumpF s MCH_ECC_UE ch 0 1) MST_ECC_UE k 0 1
  let s := raiseMch (setF s MCH_UE_ADDR ch 0 (ofs / 64 * 64)) ch 5
  reportItem s 5 5 cMCH ch (gaHere s (stackSite k) (ofs / 64 * 64)) 0 0 (some (stackSite k)) (partOf s (stackSite k))

/-- The same for every burst of `n` bytes at an offset that cannot be corrected. -/
def dramUes (s : State) (k ofs n : Nat) : State :=
  forAll ((List.range ((ofs % 64 + n + 63) / 64)).map fun i => ofs / 64 * 64 + 64 * i) s fun s o =>
    if isUe s (physStack k o) then dramUe s k o else s

/-- Is a burst, by its stack offset, one that a repair copy moves. -/
def evacCovers (x : Stack) (k : Nat) (e : Evac) (ofs : Nat) : Bool :=
  let l := dramLoc k ofs
  if e.kind = 1 then l.rowKey == e.item
  else if e.kind = 5 then l.layer == e.item
  else x.moved.any fun m =>
    e.kind == (if m.kind = 6 then 4 else m.kind) && m.chan == e.chan && m.bank == e.item && m.covers l && m.takes l.row

/-- The copy at the head of the queue completes, and the next starts (R239). Bursts that it could not correct, which stay
uncorrectable, are reported (R226, R237). -/
def evacDone (s : State) (k : Nat) : State :=
  let x := getStack s k
  match x.evacs with
  | [] => s
  | e :: rest =>
    let bad := (s.ue.filter fun u => decide (2 ^ 60 ≤ u.1)).map fun u => 64 * (u.1 - 2 ^ 60)
    let s := forAll (bad.filter fun a => lossUnit a == k && evacCovers x k e (a % 2 ^ 46)) s fun s a => dramUe s k (a % 2 ^ 46)
    let s := putStack s k { getStack s k with evacs := rest }
    let s := if e.kind = 3 then setF s MCH_WIDTH_MODE_RELIEVED (k * 128 + e.chan) 0 1 else s
    raise (showEvac s k) cMST k 9

/-! ## Error correction (R226, R230) -/

/-- The tempos of a scrub period (R227). -/
def scrubTempos (s : State) (k : Nat) : Nat := getF s MST_SCRUB k 0 * 3600 * 1000000

/-- The counts of corrected errors by row are those of the present scrub period (R230). -/
def cePeriods (s : State) (k : Nat) : State :=
  let x := getStack s k
  let n := s.time.tempoNo / max 1 (scrubTempos s k)
  if x.cePeriod = n then s else putStack s k { x with rowCe := [], cePeriod := n }

/-- A corrected read counted (R226). -/
def countCe (s : State) (k ch : Nat) : State := raiseMch (bumpF (bumpF s MCH_ECC_CE ch 0 1) MST_ECC_CE k 0 1) ch 6

/-- A correctable error in the cells of a burst: counted, and the row repaired at `ROW_CE` (R226, R230). -/
def dramCe (s : State) (k ofs : Nat) : State :=
  let l := dramAt s k ofs
  let s := cePeriods (countCe s k l.ch) k
  let x := getStack s k
  let n := SMap.get x.rowCe 0 l.rowKey + 1
  let s := putStack s k { x with rowCe := SMap.set x.rowCe 0 l.rowKey n }
  if getF s MST_REP_THR_ROW_CE k 0 ≤ n then rowRepair s k l else s

/-- A correctable error of one lane: counted, and the via that serves the lane fails at `LANE_CE` errors within 1 ms (R230,
R232). -/
def laneCe (s : State) (k ofs lane : Nat) : State :=
  let ch := (dramAt s k ofs).ch
  let s := countCe s k ch
  let x := getStack s k
  let key := ch % 128 * 32 + lane
  let ts := ((SMap.get x.laneCe [] key).filter fun t => decide (s.time.tempoNo < t + 1000)) ++ [s.time.tempoNo]
  let out := decide (getF s MST_REP_THR_LANE_CE k 0 ≤ ts.length)
  let s := putStack s k { x with laneCe := SMap.set x.laneCe [] key (if out then [] else ts) }
  if out then viaFail s ch (laneVia s ch lane) else s

/-- What the code finds in a burst read (R226, R230): an uncorrectable error in the cells marks the burst and repairs the
row, and a bank that fails as a whole is mapped out. -/
def dramFound (s : State) (k ofs : Nat) (e : Ecc) : State :=
  match e with
  | .clean => s
  | .corrected => dramCe s k ofs
  | .lane v => laneCe s k ofs v
  | .uncorrectable => rowRepair (markUe s (physStack k ofs) true) k (dramAt s k ofs)
  | .bank => bankOut (markUe s (physStack k ofs) true) k (dramAt s k ofs)

end Sys2Proof.Machine
end

