-- ==== Sys2Proof/Machine/Coherence.lean ====
section
/-! DEFINITION. Machine/Coherence.lean: the line caches and the directories (R203 to R212). A coherence message carries
the cluster of its site in TAG [1:0] and its line in DST, since the headers give them no other place (log entry 27, DEDUCED). -/

namespace Sys2Proof.Machine

/-! ## Messages -/

/-- The stack offset, stack and home site of a line. -/
def lineOfs (l : Nat) : Nat := l * 128 % 2 ^ 46
def lineHome (l : Nat) : Nat := stackSite (lineStack l)

/-- The site of a cluster. -/
def cluSite (cl : Nat) : Nat := dieSite (cl / 4)

/-- The cluster that a coherence message names: its source site's or the receiving site's, by TAG [1:0]. -/
def cluAt (site tag : Nat) : Option Nat := (siteDie site).map fun d => d * 4 + tag % 4

/-- A coherence message joins the queue of its link: from one site to another, about a cluster, under a version. -/
def sendCoh (s : State) (src dst cl ep : Nat) (p : Pkt) : State :=
  let p := { p with epoch := ep, srcSite := src, srcNode := getF s FAB_NODE_NODE 0 0, tag := cl % 4 }
  enqueue (drainAdd s p.epoch) (linkCanvas src dst) p none

/-- The version of the packets that a site injects now (R312). -/
def curEpoch (s : State) : Nat := getF s FAB_EPOCH_STAT_CUR 0 0

/-- A control message about a line. -/
def cohMsg (s : State) (op l ctr word : Nat) : Pkt := ctrlPkt op (gaHere s (lineHome l) (lineOfs l)) ctr word

/-- The cache of a cluster asks its home (R209). -/
def cohRequest (s : State) (cl l op : Nat) : State :=
  sendCoh s (cluSite cl) (lineHome l) cl (curEpoch s) (cohMsg s op l 0 0)

/-- The home tells a cluster's cache, under a version: its own for a recall, a request's for the answer to it (R294). -/
def cohTell (s : State) (cl l op ctr ep : Nat) : State := sendCoh s (lineHome l) (cluSite cl) cl ep (cohMsg s op l ctr 0)

/-- Where a COMP names the line that it is about: an offset that no memory has, since its header gives it no other place (R297; log
entry 27, DEDUCED). -/
abbrev compLineOfs : Nat := 2 ^ 45

/-- The home answers a request about a line with COMP (R297, R421): the status, the retry-after time of TARGET_RESETTING, and what
it answers in CTR: 0 a GET, 2 a PUT_E, 3 a LINE_PUT_M, as COMPLETE of R294 has it. -/
def cohComp (s : State) (cl l ctr ep : Nat) (st : Status) : State :=
  let w := if st = .targetResetting then min 65535 (retryAfter s (lineHome l)) else 0
  sendCoh s (lineHome l) (cluSite cl) cl ep
    { ctrlPkt opCOMP (gaHere s (cluSite cl) (compLineOfs + l)) ctr w with status := st.code }

/-! ## Lines of a cache (R207) -/

def findLine (s : State) (cl l : Nat) : Option LineRec := SMap.find s.lines (cacheKey cl l)

/-- The count of M lines follows a change of a line. -/
def putLine (s : State) (cl l : Nat) (r : Option LineRec) : State :=
  let was := match findLine s cl l with
    | some x => if x.state = 3 then 1 else 0
    | none => 0
  let now := match r with
    | some x => if x.state = 3 then 1 else 0
    | none => 0
  let s := setF s CLU_LC_STAT_DIRTY cl 0 (getF s CLU_LC_STAT_DIRTY cl 0 + now - was)
  { s with lines := match r with
    | some x => SMap.insert s.lines (cacheKey cl l) x
    | none => SMap.erase s.lines (cacheKey cl l) }

/-- Is the cluster's cache ON (R204). -/
def cacheOn (s : State) (cl : Nat) : Bool := getF s CLU_LC_STAT_STATE cl 0 == 2

/-- Sets of a cache by its size (R203): 256, 512 or 1,024. -/
def cacheSets (s : State) (cl : Nat) : Nat := 128 * 2 ^ getF s CLU_LC_STAT_SIZE cl 0

/-- The lines of a set. -/
def setLines (s : State) (cl l : Nat) : List (Nat × LineRec) :=
  let n := cacheSets s cl
  (s.lines.filter fun e => e.1 / 2 ^ 50 == cl && e.1 % 2 ^ 50 % n == l % n).map fun e => (e.1 % 2 ^ 50, e.2)

/-- A fill of the cluster that is outstanding. -/
def findFill (s : State) (cl l : Nat) : Option FillWait := s.fills.find? fun w => w.cluster == cl && w.line == l
def dropFill (s : State) (cl l : Nat) : State :=
  { s with fills := s.fills.filter fun w => !(w.cluster == cl && w.line == l) }
def modFill (s : State) (cl l : Nat) (f : FillWait → FillWait) : State :=
  { s with fills := s.fills.map fun w => if w.cluster = cl ∧ w.line = l then f w else w }

/-- A line leaves its cache (R209): S silently, E with PUT_E, M with its data, staying pinned until the home has it. -/
def evict (s : State) (cl l : Nat) (r : LineRec) : State :=
  if r.state = 3 then
    sendCoh (putLine s cl l (some { r with pinned := true, retryAt := none })) (cluSite cl) (lineHome l) cl (curEpoch s)
      { dataPkt opLINE_PUT_M (gaHere s (lineHome l) (lineOfs l)) r.data with ctr := r.txn, complete := 3 }
  else
    let s := putLine s cl l none
    if r.state = 2 then cohRequest s cl l opPUT_E else s

/-- The same for a line that must leave: one that is on its way out stays as it is, and one whose request for M is open leaves
when that has been answered. -/
def leaveLine (s : State) (cl l : Nat) (r : LineRec) : State :=
  if r.pinned ∨ (findFill s cl l).isSome then s else evict s cl l r

/-- The lines on their way to a set that have a way kept for them. -/
def setFills (s : State) (cl l : Nat) : List FillWait :=
  let n := cacheSets s cl
  s.fills.filter fun w => w.cluster == cl && w.sent && w.line % n == l % n && (findLine s cl w.line).isNone

/-- What a set of 16 ways has for a line that is to come (R203, R212). -/
inductive Room where
  | ready (s : State)
  | later
  | pinned

/-- Room for a line in its set: a line that is neither pinned nor asking for M gives way, which one the manual leaves open (a
free value); it waits while ways are kept for lines on their way, and there is none when all are pinned (R212). -/
def makeRoom (s : State) (cl l : Nat) : Room :=
  let set := setLines s cl l
  if set.length + (setFills s cl l).length < 16 then .ready s
  else
    let c := set.filter fun e => !e.2.pinned && (findFill s cl e.1).isNone
    match c.head? with
    | none => if set.all (fun e => e.2.pinned) && (setFills s cl l).isEmpty then .pinned else .later
    | some d =>
      let v := draw s
      let e := c.getD (v.1 % c.length) d
      .ready (evict v.2 cl e.1 e.2)

/-- The bytes of a line at a stack offset. -/
def lineBytes (r : LineRec) (ofs n : Nat) : List Byte := (r.data.drop (ofs % 128)).take n

/-- The global address of a GLD or GST. -/
def opAddr : FabOp → Nat
  | .load _ _ _ a => a
  | .store _ a _ => a
  | _ => 0

/-- A core's access completes with a status. -/
def opFail (s : State) (c : Nat) (op : FabOp) (st : Status) : State :=
  match op with
  | .load d _ _ _ => fabDone (landReg s c d ones64) c st
  | _ => fabDone s c st

/-- A core's access is performed on a line held (R207, R209): a load in S, E or M, a store in E or M, which makes M; also on a line
whose writeback the home in reset has refused (R212). The answer says whether it could be. -/
def opOnLine (s : State) (cl l c : Nat) (op : FabOp) : State × Bool :=
  match findLine s cl l with
  | none => (s, false)
  | some r =>
    if r.pinned && r.retryAt.isNone then (s, false)
    else match op with
      | .load d size sext a =>
        (fabDone (landReg s c d (extend size sext (ofBytesLE (lineBytes r a size)))) c .ok, true)
      | .store size a v =>
        if r.state < 2 then (s, false)
        else
          let k := a % 128
          let data := r.data.take k ++ bytesLE size v ++ r.data.drop (k + size)
          (fabDone (putLine s cl l (some { r with state := 3, data := data })) c .ok, true)
      | _ => (s, false)

/-- The tempo at which the accesses of a fill time out (R212, R348). -/
def fillDeadline (s : State) : Nat := boundaryAfter s (getF s FAB_TMO_CANVAS 0 0)

/-- The request of a fill leaves, once its set has room (R209): an upgrade keeps the line's own way. Accesses that find a set with
every way pinned complete with TARGET_RESETTING (R212). -/
def sendFill (s : State) (f : FillWait) : State :=
  let held := match findLine s f.cluster f.line with
    | some r => !r.pinned || r.retryAt.isSome
    | none => false
  match (if held then .ready s else makeRoom s f.cluster f.line) with
  | .ready s =>
    cohRequest (modFill s f.cluster f.line fun w => { w with sent := true, upgrade := held }) f.cluster f.line
      (if f.excl then opGET_M else opGET_S)
  | .later => s
  | .pinned => forAll f.ops (dropFill s f.cluster f.line) fun s o => opFail s o.1 o.2 .targetResetting

/-- The fills of a cluster that wait for a way are sent, in order, where there is one. -/
def sendFills (s : State) (cl : Nat) : State :=
  forAll (s.fills.filter fun w => w.cluster == cl && !w.sent) s fun s w =>
    match findFill s cl w.line with
    | some f => if f.ops = [] then dropFill s cl f.line else sendFill s f
    | none => s

/-- A core's GLD or GST through its cluster's cache (R206, R209). -/
def cacheAccess (s : State) (c : Nat) (op : FabOp) (l : Nat) (store : Bool) : State :=
  let cl := corClu c
  let p := opOnLine s cl l c op
  if p.2 then wrapF p.1 CLU_LC_HIT cl 0 1
  else
    let s := wrapF s CLU_LC_MISS cl 0 1
    match findFill s cl l with
    | some _ => modFill s cl l fun w => { w with ops := w.ops ++ [(c, op)] }
    | none =>
      let f : FillWait := ⟨cl, l, store, [(c, op)], none, none, false, false, fillDeadline s⟩
      sendFill { s with fills := s.fills ++ [f] } f

/-! ## The home (R207 to R210) -/

/-- Bytes of a line in DRAM. -/
def dramLine (s : State) (l : Nat) : List Byte := readBytes s (l * 128) 128

/-- The refusal of a write of `n` bytes at a stack offset that touches a COMMITTED page, counted (R391). -/
def kvRefused (s : State) (k ofs n : Nat) : Option State :=
  (kvDenier s k ofs n).map fun c => raiseFor (bumpF s GMB_KV_DENY 0 0 1) cGMB 0 3 (ctxBelongs s c)

/-- A line written back to DRAM: its bursts become correct (R226); a COMMITTED page stays as it is (R391). -/
def dramPutLine (s : State) (l : Nat) (bs : List Byte) : State :=
  match kvRefused s (lineStack l) (lineOfs l) 128 with
  | some s => s
  | none => writeBytes (clearUe s (l * 128) 128) (l * 128) bs

/-- The next transaction number of a line. -/
def nextTxn (d : DirRec) : Nat := (d.txn + 1) % 2 ^ 16

/-- Has the home granted a cluster the line by a message that is still on its way. -/
def grantOut (s : State) (cl l : Nat) : Bool :=
  match findFill s cl l with
  | some f => f.granted.isSome
  | none => false

/-- The home takes the line of an owner or of sharers at once, for an access that is not cached (R206): `w` for a write,
which leaves no copy. None while a transaction runs, or while the copy is on its way. -/
def flushLine (s : State) (l : Nat) (w : Bool) : Option State :=
  let d := getDir s l
  if d.busy.isSome then none
  else if d.state = 2 then
    match findLine s d.owner l with
    | none => none
    | some r =>
      if r.pinned ∨ grantOut s d.owner l then none
      else
        let s := bumpF s CLU_LC_RECALL d.owner 0 1
        let s := if r.state = 3 then dramPutLine s l r.data else s
        if w then some (putDir (putLine s d.owner l none) l { d with state := 0, owner := 0 })
        else some (putDir (putLine s d.owner l (some { r with state := 1 })) l
          { d with state := 1, owner := 0, sharers := 2 ^ d.owner })
  else if d.state = 1 ∧ w then
    let cs := (List.range 32).filter (hasBit d.sharers)
    if cs.any fun c => grantOut s c l then none
    else
      some (putDir (forAll cs s fun s c => bumpF (putLine s c l none) CLU_LC_RECALL c 0 1) l
        { d with state := 0, sharers := 0 })
  else some s

/-- The first uncorrectable burst of a line. -/
def lineUe (s : State) (l : Nat) : Option Nat := [0, 64].find? fun x => isUe s (l * 128 + x)

/-- The line granted to a cluster, with its data (R209, R294): state 1 S, 2 E, 3 M. Data that cannot be corrected are not
granted. -/
def grantLine (s : State) (r : DirReq) (l st : Nat) (d : DirRec) : State :=
  let bad := (lineUe s l).isSome
  let s := match lineUe s l with
    | some x => dramUe s (lineStack l) (lineOfs l + x)
    | none => s
  let d := if bad then d
    else if st = 1 then { d with state := 1, sharers := setBit d.sharers r.cl }
    else { d with state := 2, owner := r.cl, sharers := 0 }
  let s := putDir s l { d with txn := nextTxn d }
  let s := modFill s r.cl l fun w => { w with granted := some (nextTxn d) }
  sendCoh s (lineHome l) (cluSite r.cl) r.cl r.epoch
    { dataPkt opLINE_GRANT (gaHere s (lineHome l) (lineOfs l)) (dramLine s l) with
      ctr := nextTxn d, complete := st, status := if bad then 5 else 0 }

/-- M is granted without data to the only sharer, which holds S (R209). -/
def grantM (s : State) (r : DirReq) (l : Nat) (d : DirRec) : State :=
  let d := { d with state := 2, owner := r.cl, sharers := 0, txn := nextTxn d }
  cohTell (modFill (putDir s l d) r.cl l fun w => { w with granted := some d.txn }) r.cl l opGRANT_M d.txn r.epoch

/-- Did the cache hold S when it asked for M: its GET_M came of a hit in S (R209). -/
def askedInS (s : State) (cl l : Nat) : Bool :=
  match findFill s cl l with
  | some f => f.upgrade
  | none => false

/-- A request for a line is served at its home, or starts the messages that it needs (R209). -/
def dirServe (s : State) (r : DirReq) (l : Nat) : State :=
  let d := getDir s l
  let start := fun (cs : List Nat) (op : Nat) =>
    let s := putDir s l { d with txn := nextTxn d, busy := some (r, cs.foldl setBit 0) }
    forAll cs s fun s c => cohTell s c l op (nextTxn d) (curEpoch s)
  if d.state = 2 then
    if d.owner = r.cl then putDir s l { d with waiting := d.waiting ++ [r] }
    else start [d.owner] (if r.excl then opRECALL_I else opRECALL_S)
  else if d.state = 1 then
    if !r.excl then grantLine s r l 1 d
    else
      let others := (List.range 32).filter fun c => hasBit d.sharers c && c != r.cl
      if others = [] then (if hasBit d.sharers r.cl ∧ askedInS s r.cl l then grantM s r l d else grantLine s r l 3 d)
      else start others opINVAL
  else grantLine s r l (if r.excl then 3 else 2) d

/-- Directory entries that a set holds (R208). -/
abbrev dirSets : Nat := 8192

/-- Does a line's record take an entry of its directory: a line in UNCACHED needs none (R208). -/
def DirRec.entry (d : DirRec) : Bool := d.state != 0 || d.busy.isSome

/-- Room for an entry (R208): the home takes back the line of another entry of the set; which one is a free value. None
when no entry of the set can give way now. -/
def dirRoom (s : State) (l : Nat) : Option State :=
  if (getDir s l).entry then some s
  else
    let set := s.dirs.filter fun e => lineStack e.1 == lineStack l && e.1 % dirSets == l % dirSets && e.2.entry
    if set.length < 16 then some s
    else
      let c := set.filter fun e => (flushLine s e.1 true).isSome
      match c.head? with
      | none => none
      | some d =>
        let v := draw s
        (flushLine v.2 (c.getD (v.1 % c.length) d).1 true).map fun s => wrapF s MST_DIR_EVICT (lineStack l) 0 1

/-- The status with which the home of a line refuses requests for it, if it does (R212, R220). -/
def homeRefuses (s : State) (l : Nat) : Option Status :=
  match placeOf s (lineHome l) (lineOfs l) with
  | .stack k x => placeStatus s (lineHome l) (.stack k x)
  | _ => some .addressInvalid

/-- A request for a line that its home cannot serve is answered with a status (R212, R220). -/
def dirRefuse (s : State) (r : DirReq) (l : Nat) (st : Status) : State := cohComp s r.cl l 0 r.epoch st

/-- The same for a request that the home accepted before: it is still served while the logic layer drains (R243). -/
def homeRefusesQueued (s : State) (l : Nat) : Option Status :=
  if getF s MST_STAT_PHASE (lineStack l) 0 = 1 ∧ siteStatus s (lineHome l) = none then none else homeRefuses s l

/-- The requests waiting at a line are served in order while none must wait. -/
def dirNext (s : State) (l : Nat) : Nat → State
  | 0 => s
  | n + 1 =>
    let d := getDir s l
    match d.busy, d.waiting with
    | none, w :: ws =>
      match homeRefusesQueued s l with
      | some st => dirNext (dirRefuse (putDir s l { d with waiting := ws }) w l st) l n
      | none =>
        if d.state = 2 ∧ d.owner = w.cl then s
        else match dirRoom s l with
          | some s => dirNext (dirServe (putDir s l { getDir s l with waiting := ws }) w l) l n
          | none => s
    | _, _ => s

/-- A GET_S or GET_M at its home (R207, R209): behind a transaction in progress it waits, at most one from each
cluster. -/
def dirGet (s : State) (r : DirReq) (l : Nat) : State :=
  let d := getDir s l
  if d.waiting.any (fun w => w.cl == r.cl) then s
  else
    let s := putDir s l { d with waiting := d.waiting ++ [r] }
    if d.busy.isSome ∨ d.waiting ≠ [] then s else dirNext s l 1

/-- A transaction has all its answers: the line goes to the cluster that asked, with its data, for others held it when the request
was served (R209). -/
def dirFinish (s : State) (l : Nat) (r : DirReq) (sharers : Nat) : State :=
  let d := getDir s l
  let d := { d with busy := none, state := if r.excl then 0 else 1, owner := 0, sharers := if r.excl then 0 else sharers }
  dirNext (grantLine s r l (if r.excl then 3 else 1) d) l 33

/-- One cluster's answer to an invalidation or a recall (R209, R210). `keeps` says that a recalled owner keeps S. -/
def dirAck (s : State) (from_ l txn : Nat) (keeps : Bool) : State :=
  let d := getDir s l
  match d.busy with
  | none => s
  | some (r, need) =>
    if d.txn = txn ∧ hasBit need from_ then
      let need := clearBit need from_
      if need = 0 then dirFinish s l r (if keeps then 2 ^ from_ else 0)
      else putDir s l { d with busy := some (r, need), sharers := clearBit d.sharers from_ }
    else s

/-- The owner of a line has given it back, with its data if modified (R209): the line is UNCACHED, and a recall under way takes it
as its answer (R210). -/
def dirLeft (s : State) (cl l : Nat) (data : Option (List Byte)) : State :=
  let d := getDir s l
  if d.state = 2 ∧ d.owner = cl then
    let s := match data with
      | some bs => dramPutLine s l bs
      | none => s
    match d.busy with
    | some (r, need) => if hasBit need cl then dirFinish s l r 0 else s
    | none => dirNext (putDir s l { d with state := 0, owner := 0 }) l 33
  else s

/-- A PUT_E or LINE_PUT_M is performed at its home and answered (R209, R297); one that would write a COMMITTED page is answered
ACCESS_DENIED (R391). -/
def dirPut (s : State) (cl l ep : Nat) (data : Option (List Byte)) : State :=
  let st : Status := if data.isSome ∧ (kvDenier s (lineStack l) (lineOfs l) 128).isSome then .accessDenied else .ok
  dirLeft (cohComp s cl l (if data.isSome then 3 else 2) ep st) cl l data

/-! ## The caches (R209, R210) -/

/-- Does a message of transaction `a` come before the grant of transaction `b`, modulo 2^16. -/
def txnBefore (a b : Nat) : Bool := decide ((b + 65536 - a % 65536) % 65536 < 32768)

/-- A recall or invalidation reaches a cache, under a version (R209, R210). `op` is INVAL, RECALL_S or RECALL_I. One that the home
sent after it had granted the line waits for the grant; one of a transaction before the line's own finds that the line has left. -/
def cacheTold (s : State) (cl l op txn ep : Nat) : State :=
  let s := bumpF s CLU_LC_RECALL cl 0 1
  let ack := fun (s : State) (left : Nat) =>
    sendCoh s (cluSite cl) (lineHome l) cl ep (cohMsg s opCOH_ACK l txn left)
  let coming := match findFill s cl l with
    | some f => match f.granted with
      | some g => txnBefore g txn
      | none => false
    | none => false
  if coming then modFill s cl l fun w => { w with inval := some (op, txn, ep) }
  else match findLine s cl l with
    | some r =>
      if r.pinned ∨ txnBefore txn r.txn then ack s 1
      else if op = opINVAL then ack (putLine s cl l none) 0
      else
        let s' := if op = opRECALL_S then putLine s cl l (some { r with state := 1 }) else putLine s cl l none
        if r.state = 3 then
          sendCoh s' (cluSite cl) (lineHome l) cl ep
            { dataPkt opLINE_RETURN (gaHere s (lineHome l) (lineOfs l)) r.data with ctr := txn }
        else ack s' 0
    | none => ack s (if op = opINVAL then 0 else 1)

/-- The accesses that waited for a fill are performed; stores that the granted state does not allow ask again for M
(R209). -/
def fillOps (s : State) (cl l : Nat) (ops : List (Nat × FabOp)) : State :=
  let r := ops.foldl (fun (p : State × List (Nat × FabOp)) o =>
    let q := opOnLine p.1 cl l o.1 o.2
    if q.2 then (q.1, p.2) else (p.1, p.2 ++ [o])) (s, [])
  if r.2 = [] then r.1
  else
    let f : FillWait := ⟨cl, l, true, r.2, none, none, false, false, fillDeadline r.1⟩
    sendFill { r.1 with fills := r.1.fills ++ [f] } f

/-- A line that has come to a cache which is not ON or is being reset leaves again once it has been used (R204, R212). -/
def settleLine (s : State) (cl l : Nat) : State :=
  match findLine s cl l with
  | some r => if !cacheOn s cl || (SMap.find s.cluResets cl).isSome then leaveLine s cl l r else s
  | none => s

/-- A grant reaches the cache that asked (R209, R210): the line in its state, or M for a line held in S. -/
def cacheGranted (s : State) (cl l st txn : Nat) (data : Option (List Byte)) (status : Nat) : State :=
  match findFill s cl l with
  | none => s
  | some f =>
    let s := dropFill s cl l
    if status ≠ 0 then
      sendFills (forAll f.ops s fun s o => opFail s o.1 o.2 ((Status.ofCode status).getD .uncorrectable)) cl
    else
      let bs := match data with
        | some bs => bs
        | none => match findLine s cl l with
          | some r => r.data
          | none => []
      let s := fillOps (putLine s cl l (some ⟨st, bs, false, txn, none⟩)) cl l f.ops
      let s := match f.inval with
        | some (op, txn, ep) => cacheTold s cl l op txn ep
        | none => s
      sendFills (settleLine s cl l) cl

/-- A COMP about a line reaches its cache (R209, R212, R297): the refusal of a GET fails the accesses that wait; a PUT_M that the
home has performed lets the line go, one that a home in reset refuses waits in its line for the retry-after time, and one that any
other failure ends is lost. -/
def cacheComp (s : State) (cl l ctr : Nat) (st : Status) (retry : Nat) : State :=
  if ctr = 0 then (if st.success then s else cacheGranted s cl l 0 0 none st.code)
  else if ctr = 3 then
    match findLine s cl l with
    | some r =>
      if r.pinned && r.retryAt.isNone then
        if st.success then sendFills (putLine s cl l none) cl
        else if st = .targetResetting then putLine s cl l (some { r with retryAt := some (s.time.tempoNo + max 1 retry) })
        else sendFills (dropLine s cl l) cl
      else s
    | none => s
  else s

/-- The accesses that wait for a fill time out (R212), each counted and reported as a request without an answer (R348). -/
def fillTimeout (s : State) (cl l : Nat) (st : Status) : State :=
  match findFill s cl l with
  | none => s
  | some f =>
    let s := forAll f.ops (modFill s cl l fun w => { w with ops := [] }) fun s o =>
      let s := bumpF s FAB_TMO_CNT 0 0 1
      let s := reportItem s 1 st.code cCOR o.1 (opAddr o.2) 0 0 (some (corSite o.1)) (partOf s (corSite o.1))
      opFail s o.1 o.2 st
    if f.sent then s else dropFill s cl l

/-- The writeback of a pinned line that the home in reset has refused is sent again, once the retry-after time has passed (R212). -/
def writebackAgain (s : State) (cl l : Nat) : State :=
  match findLine s cl l with
  | some r => match r.retryAt with
    | some t => if r.pinned ∧ t ≤ s.time.tempoNo then evict s cl l r else s
    | none => s
  | none => s

end Sys2Proof.Machine
end

