-- ==== Sys2Proof/Machine/Perform.lean ====
section
/-! DEFINITION. Machine/Perform.lean: what a request does at its target: memory accesses of inbound traffic, atomics,
sync objects, deduplication and the hot-line queues (R193, R226, R297, R332 to R337, R344, R347, R351). -/

namespace Sys2Proof.Machine

/-! ## Memory accesses -/

/-- The outcome of an access: done with a value, failed with a status, or to wait for a line (R206, R210). -/
inductive MemOut where
  | done (s : State) (bs : List Byte)
  | fail (s : State) (st : Status)
  | wait

/-- The lines that `n` bytes at a physical stack address touch. -/
def linesAt (a n : Nat) : List Nat := (List.range ((a % 128 + n + 127) / 128)).map fun i => a / 128 + i

/-- Every line of an access taken back from the caches (R206). -/
def flushAll (s : State) (ls : List Nat) (w : Bool) : Option State :=
  ls.foldl (fun (o : Option State) l => o.bind fun s => flushLine s l w) (some s)

/-- An uncorrectable SRAM word in an inbound read (R191). -/
def sramUe (s : State) (b : Bank) (site ofs : Nat) : State :=
  let s := bumpF s CLU_ECC_UE b.clu 0 1
  reportItem s 6 5 cCLU b.clu (gaHere s site ofs) 0 0 (some site) (partOf s site)

/-- `n` bytes read at an offset of a site, in the physical view (R200, R226). -/
def memRead (s : State) (site ofs n : Nat) (e : Ecc) : MemOut :=
  match placeOf s site ofs with
  | .stack k x =>
    let a := physStack k x
    match if evacHolds s k x n false then none else flushAll s (linesAt a n) false with
    | none => .wait
    | some s =>
      let s := dramFound s k x e
      if anyUe s a n then .fail (dramUes s k x n) .uncorrectable else .done s (readBytes s a n)
  | .bank b y =>
    let a := b.phys y
    let s := sramFound s b.clu a e
    if anyUe s a n then .fail (sramUe s b site ofs) .uncorrectable else .done s (readBytes s a n)
  | .none => .fail s .addressInvalid

/-- What the code finds in the burst or word at an offset of a site that the site's own packet engine reads (R191, R226). -/
def memFound (s : State) (site ofs : Nat) (e : Ecc) : State :=
  match placeOf s site ofs with
  | .stack k x => dramFound s k x e
  | .bank b y => sramFound s b.clu (b.phys y) e
  | .none => s

/-- SRAM bytes written: words written whole become correct (R191). -/
def sramWrite (s : State) (a : Nat) (bs : List Byte) : State :=
  let s := forAll (List.range (bs.length - 7)) s fun s i =>
    if (a + i) % 8 = 0 ∧ isUe s (a + i) then markUe s (a + i) false else s
  writeBytes s a bs

/-- Bytes written at an offset of a site. A write of less than a burst reads the burst, and fails when that cannot be
corrected; whole bursts become correct (R222, R226). -/
def memWrite (s : State) (site ofs : Nat) (bs : List Byte) (e : Ecc) : MemOut :=
  match placeOf s site ofs with
  | .stack k x =>
    let a := physStack k x
    match if evacHolds s k x bs.length true then none else flushAll s (linesAt a bs.length) true with
    | none => .wait
    | some s =>
      if a % 64 = 0 ∧ bs.length % 64 = 0 then .done (writeBytes (clearUe s a bs.length) a bs) []
      else
        let s := dramFound s k x e
        if anyUe s a bs.length then .fail (dramUes s k x bs.length) .uncorrectable else .done (writeBytes s a bs) []
  | .bank b y =>
    let a := b.phys y
    match partWords a bs.length with
    | [] => .done (sramWrite s a bs) []
    | x :: xs =>
      let s := sramFound s b.clu x e
      if (x :: xs).any (isUe s) then .fail (sramUe s b site ofs) .uncorrectable else .done (sramWrite s a bs) []
  | .none => .fail s .addressInvalid

/-! ## Checks (R332, R510) -/

/-- A refusal of a bank to inbound traffic, recorded (R194, R215). -/
def denyInbound (s : State) (b : Bank) (reason : Nat) : State :=
  deny s b 3 (if b.cluster then 0 else (lidOfCor s b.inst).getD 0) reason

/-- The width of an atomic in bytes. -/
def atomSize (fn : Nat) : Nat := if fn = 1 ∨ fn = 2 then 4 else 8

/-- What the checks of a request come to: it may go on, it must wait for a bank in handover, or it fails with a status. -/
inductive Check where
  | pass
  | hold
  | fail (st : Status)
  deriving DecidableEq, Repr

/-- A place in the scratchpad of a failed position, whose accesses in flight are reported as failed (R144, R412). -/
def failedPlace (s : State) : Place → Bool
  | .bank b _ => !b.cluster && coreState s b.inst == csFailed
  | _ => false

/-- May a request touch `n` bytes at an offset of a site: bit 0 of `rw` for a write, bit 1 for a read. The first status
that applies in the order of R510, or none; a request that nothing refuses may have to wait for a bank (R197). -/
def checkAccess (s : State) (site : Nat) (ingress : Option Nat) (srcSite ofs n rw : Nat) : State × Check :=
  let ps := (unitsOf ofs n).map (placeOf s site)
  if ps.any (fun p => p == .none) then (s, .fail .addressInvalid)
  else match ps.findSome? (placeStatus s site) with
    | some st => (s, .fail st)
    | none =>
      if !admits s site ingress srcSite then (bumpF s FAB_DENY 0 0 1, .fail .accessDenied)
      else if ps.any (failedPlace s) then (s, .fail .uncorrectable)
      else
        let bad := ps.findSome? fun p => match p with
          | .bank b _ => match inboundGrant s b rw with
            | .refused r => some (b, r)
            | _ => none
          | _ => none
        let held := ps.any fun p => match p with
          | .bank b _ => inboundGrant s b rw == .wait
          | _ => false
        match bad with
        | some (b, r) =>
          let s := denyInbound s b r
          (if r = 2 then bumpF s FAB_DENY 0 0 1 else s, .fail .accessDenied)
        | none =>
          if held then (s, .hold)
          else match placeOf s site ofs with
          | .stack k x =>
            match if rw % 2 = 1 then kvRefused s k x n else none with
            | some s => (s, .fail .accessDenied)
            | none => (s, .pass)
          | _ => (s, .pass)

/-- The bytes that a request other than a sync request touches, and how: bit 0 for a write, bit 1 for a read. -/
def reqTouches (p : Pkt) : Nat × Nat :=
  if p.op = opLOAD then (pktSize p, 2)
  else if p.op = opSTORE then (pktSize p, 1)
  else if p.op = opATOMIC then (atomSize (p.ctr % 16), 3)
  else if p.op = opATOMIC_CAS then (8, 3)
  else if p.op = opREAD_REQ then (64 * p.len, 2)
  else if p.op = opFENCE then (1, 0)
  else (64 * p.len, 1)

/-- Does the request wait for a bank that is being handed over to PORT (R197). -/
def reqHeld (s : State) (site : Nat) (ingress : Option Nat) (p : Pkt) : Bool :=
  (checkAccess s site ingress p.srcSite (gaOfs p.dst) (reqTouches p).1 (reqTouches p).2).2 == .hold

/-! ## Atomics (R185, R334) -/

/-- The value that an atomic leaves (R185): operand `v`, compare value `cmp`. -/
def atomNew (fn old v cmp : Nat) : Nat :=
  match fn with
  | 0 => (old + v) % 2 ^ 64
  | 1 => (old + v) % 2 ^ 32
  | 2 => (f32add old (v % 2 ^ 32)).code
  | 3 => v
  | 4 => if old = cmp then v else old
  | 5 => old &&& v
  | 6 => old ||| v
  | 7 => old ^^^ v
  | 8 => if toSigned 64 old ≤ toSigned 64 v then old else v
  | 9 => if toSigned 64 old ≤ toSigned 64 v then v else old
  | 10 => min old v
  | _ => max old v

/-- Is an ATOMIC's FN one that R297 allows. -/
def atomFnOk (fn : Nat) : Bool := decide (fn < 12) && fn != 4

/-! ## Deduplication (R351) -/

/-- Entries of a window. -/
abbrev dedupMax : Nat := 32768

def dedupsAt (s : State) (site : Nat) : List Dedup := SMap.get s.dedups [] site

/-- The window put back, with `PRT_DEDUP`. -/
def putDedups (s : State) (site : Nat) (l : List Dedup) : State :=
  let s := setF { s with dedups := SMap.set s.dedups [] site l } PRT_DEDUP_USED site 0 l.length
  setF s PRT_DEDUP_PEAK site 0 (max l.length (getF s PRT_DEDUP_PEAK site 0))

/-- The entry that a request meets. -/
def findDedup (s : State) (site : Nat) (p : Pkt) : Option Dedup :=
  (dedupsAt s site).find? fun d =>
    d.node == p.srcNode && d.site == p.srcSite && d.tag == p.tag && decide (s.time.tempoNo < d.expires)

/-- Must the request take an entry: it arrived through a Veryen port. -/
def dedups (ingress : Option Nat) (p : Pkt) : Bool :=
  ingress.isSome && (p.op == opATOMIC || p.op == opATOMIC_CAS || p.op == opSYNC_ADD)

/-- The entry of a performed request; the same tag slot of another generation gives way. -/
def addDedup (s : State) (site : Nat) (p : Pkt) (v : Nat) : State :=
  let l := (dedupsAt s site).filter fun d => !(d.node == p.srcNode && d.site == p.srcSite && d.tag % 4096 == p.tag % 4096)
  putDedups s site (l ++ [⟨p.srcNode, p.srcSite, p.tag, 0, v, s.time.tempoNo + getF s FAB_DEDUP 0 0⟩])

/-- Is there room for the request's entry. -/
def dedupRoom (s : State) (site : Nat) (p : Pkt) : Bool :=
  decide ((dedupsAt s site).length < dedupMax) ||
  (dedupsAt s site).any (fun d => d.node == p.srcNode && d.site == p.srcSite && d.tag % 4096 == p.tag % 4096)

/-! ## Requests -/

/-- What a request comes to: a status and a value, or to wait. -/
inductive Done where
  | ok (s : State) (st : Status) (v : Nat)
  | wait

/-- An atomic on memory (R334): at a bank, reads and writes must both be admitted. -/
def performAtomic (s : State) (site : Nat) (ingress : Option Nat) (p : Pkt) (fn v cmp : Nat) (e : Ecc) : Done :=
  let n := atomSize fn
  let ofs := gaOfs p.dst
  match checkAccess s site ingress p.srcSite ofs n 3 with
  | (_, .hold) => .wait
  | (s, .fail st) => .ok s st 0
  | (s, .pass) =>
    match memRead s site ofs n e with
    | .wait => .wait
    | .fail s st => .ok s st 0
    | .done s bs =>
      let old := ofBytesLE bs
      match memWrite s site ofs (bytesLE n (atomNew fn old v cmp)) .clean with
      | .wait => .wait
      | .fail s st => .ok s st 0
      | .done s _ => .ok s .ok old

/-- Each FP32 value of a payload added to memory (ACCUM_F32, R334). -/
def accumBytes : List Byte → List Byte → List Byte
  | m0 :: m1 :: m2 :: m3 :: ms, v0 :: v1 :: v2 :: v3 :: vs =>
    bytesLE 4 (f32add (ofBytesLE [m0, m1, m2, m3]) (ofBytesLE [v0, v1, v2, v3])).code ++ accumBytes ms vs
  | ms, _ => ms

/-- The ARRIVE counter of a packet's data advances by its units, once they are written (R181, R344). -/
def arriveAdd (s : State) (p : Pkt) : State := if p.arrEn then syncAdd s p.ctr p.len else s

/-- WRITE and READ_DATA at their destination as inbound traffic, and ACCUM_F32 at a stack site (R297). -/
def performWrite (s : State) (site : Nat) (ingress : Option Nat) (p : Pkt) (e : Ecc) : Done :=
  let ofs := gaOfs p.dst
  let acc := p.op = opACCUM_F32
  if acc ∧ (siteStack site).isNone then .ok s .addressInvalid 0
  else
    match checkAccess s site ingress p.srcSite ofs (64 * p.len) 1 with
    | (_, .hold) => .wait
    | (s, .fail st) => .ok s st 0
    | (s, .pass) =>
      let old := if acc then memRead s site ofs (64 * p.len) e else .done s []
      match old with
      | .wait => .wait
      | .fail s st => .ok s st 0
      | .done s bs =>
        match memWrite s site ofs (if acc then accumBytes bs p.payload else p.payload) .clean with
        | .wait => .wait
        | .fail s st => .ok s st 0
        | .done s _ => .ok (arriveAdd s p) .ok 0

/-- The local address of position `c` for an offset of its site (R330). -/
def localOfOfs (ofs : Nat) : Nat := if ofs < 4 * 0x800000 then 0x1000000 + ofs % 0x800000 else ofs % 2 ^ 20

/-- The copy of this site's own engine whose data a packet carries home (R193, R194, R338). -/
def ownCopy (s : State) (site : Nat) (p : Pkt) : Option CopyRec :=
  if p.srcNode = getF s FAB_NODE_NODE 0 0 ∧ p.srcSite = site ∧ (p.op = opREAD_DATA ∨ p.op = opWRITE) then
    match findTag s site (p.tag % 4096) with
    | some t =>
      if t.gen = p.tag / 4096 % 16 then
        match t.issuer with
        | .copy id => findCopy s id
        | _ => none
      else none
    | none => none
  else none

/-- A local end of a core's copy `id` (R194, R197). -/
def copyGrant (s : State) (c a n id : Nat) : Grant × Option Bank := grantOver (fun b => copyBankGrant s id b c) c a n

/-- Data in the name of this site that no copy or load of it waits for any more: its tag is free or another request's, or the copy
has counted them (R198, R343; log entry 133, DEDUCED). -/
def ownStale (s : State) (site : Nat) (p : Pkt) : Bool :=
  p.srcNode == getF s FAB_NODE_NODE 0 0 && p.srcSite == site && p.op == opREAD_DATA &&
  (match findTag s site (p.tag % 4096) with
    | some t => t.gen != p.tag / 4096 % 16 || (match ownCopy s site p with
      | some r => r.got.contains ((p.dst - r.req.dst) / 64)
      | none => false)
    | none => true)

/-- The packet of a copy has reached its destination. -/
def copyGot (s : State) (r : CopyRec) (p : Pkt) : State :=
  modCopy s r.id fun r => { r with got := r.got ++ [(p.dst - r.req.dst) / 64] }

/-- Data of a core's own DCOPY written into its own memory, in the rotated view (R193, R194). -/
def performOwn (s : State) (p : Pkt) (c pc a : Nat) (r : CopyRec) : Done :=
  match copyGrant s c a (64 * p.len) r.id with
  | (.served, _) => .ok (arriveAdd (storeLocal s c a p.payload) p) .ok 0
  | (.wait, _) => .wait
  | (.refused x, b) => .ok (faultCore (denyCore s c b x) c fcBankOwner uDma 0 pc) .accessDenied 0
  | (.noBank, _) => .ok s .addressInvalid 0

/-- What a cluster bank answers to the cluster DMA unit for copy `id` (R192, R194, R197, R201). -/
def cdmaGrant (s : State) (id : Nat) (b : Bank) : Grant :=
  let own := b.get s b.sClass == 2
  let t := b.next s
  if !b.on s then .refused 3
  else if b.get s b.sState = 1 then
    (if own && decide (id < t.since) then .served else if t.cls = 2 then .wait else .refused (if own then 4 else 1))
  else if own then .served
  else .refused 1

/-- Is an offset of a site one of its clusters' memory. -/
def inCluster (site ofs : Nat) : Bool := (siteDie site).isSome && decide (ofs < 4 * 0x800000)

/-- The answer of the cluster banks that `n` bytes at an offset touch, and the first bank that does not serve. -/
def cdmaAccess (s : State) (id site ofs n : Nat) : Grant × Option Bank :=
  (unitsOf ofs n).foldl (fun (g : Grant × Option Bank) u =>
    if g.1 == .served then
      match placeOf s site u with
      | .bank b _ => (cdmaGrant s id b, some b)
      | _ => (.noBank, none)
    else g) (.served, none)

/-- The physical address of a byte of cluster memory in the rotated view (R200). -/
def cdmaPhys (s : State) (site ofs : Nat) : Nat :=
  match placeOf s site ofs with
  | .bank b x => b.rotated s x
  | _ => 0

/-- Bytes of cluster memory written by the cluster DMA unit: words written whole become correct (R191). Packets are of whole
64 B units, and a rotation that is no multiple of 8 leaves the words at their ends in part. -/
def cdmaStore (s : State) (site ofs : Nat) (bs : List Byte) : State :=
  let s := forAll (List.range (bs.length - 7)) s fun s i =>
    let p := cdmaPhys s site (ofs + i)
    if p % 8 = 0 ∧ isUe s p then markUe s p false else s
  forAll (bs.zipIdx) s fun s e => writeByte s (cdmaPhys s site (ofs + e.2)) e.1

/-- Data of a table copy written into cluster memory by the cluster DMA unit (R338). -/
def performCdma (s : State) (id site : Nat) (p : Pkt) : Done :=
  let ofs := gaOfs p.dst
  match cdmaAccess s id site ofs (64 * p.len) with
  | (.served, _) => .ok (arriveAdd (cdmaStore s site ofs p.payload) p) .ok 0
  | (.wait, _) => .wait
  | (.refused x, some b) => .ok (deny s b 2 0 x) .accessDenied 0
  | _ => .ok s .addressInvalid 0

/-- A sync request at its site (R335, R344, R347). -/
def performSync (s : State) (site : Nat) (ingress : Option Nat) (p : Pkt) : Done :=
  let o := p.ctr % 65536
  if syncSite o ≠ gaSite p.dst ∨ syncSite o ≠ site then .ok s .addressInvalid 0
  else match siteStatus s site with
    | some .uncorrectable =>
      if p.op = opSYNC_READ then .ok s .ok (getSync s o).val
      else .ok (if p.op = opSYNC_ADD then syncAdd s o (pktWord p % 2 ^ 48) else syncSet s o (pktWord p % 2 ^ 48)) .ok 0
    | some st => .ok s st 0
    | none =>
      if !admits s site ingress p.srcSite then .ok (bumpF s FAB_DENY 0 0 1) .accessDenied 0
      else if p.op = opSYNC_READ then .ok s .ok (getSync s o).val
      else .ok (if p.op = opSYNC_ADD then syncAdd s o (pktWord p % 2 ^ 48) else syncSet s o (pktWord p % 2 ^ 48)) .ok 0

/-- LOAD and STORE (R297, R333). -/
def performLoad (s : State) (site : Nat) (ingress : Option Nat) (p : Pkt) (e : Ecc) : Done :=
  let ofs := gaOfs p.dst
  match checkAccess s site ingress p.srcSite ofs (pktSize p) 2 with
  | (_, .hold) => .wait
  | (s, .fail st) => .ok s st 0
  | (s, .pass) => match memRead s site ofs (pktSize p) e with
    | .wait => .wait
    | .fail s st => .ok s st 0
    | .done s bs => .ok s .ok (ofBytesLE bs)

def performStore (s : State) (site : Nat) (ingress : Option Nat) (p : Pkt) (e : Ecc) : Done :=
  let ofs := gaOfs p.dst
  match checkAccess s site ingress p.srcSite ofs (pktSize p) 1 with
  | (_, .hold) => .wait
  | (s, .fail st) => .ok s st 0
  | (s, .pass) => match memWrite s site ofs (bytesLE (pktSize p) (pktWord p)) e with
    | .wait => .wait
    | .fail s st => .ok s st 0
    | .done s _ => .ok s .ok 0

/-- A request of any kind but READ_REQ, once (R297). The answer to a FENCE packet waits for the line's queue, which its
caller sees to. -/
def performOnce (s : State) (site : Nat) (ingress : Option Nat) (p : Pkt) (e : Ecc) : Done :=
  if !pktAligned p then .ok s .addressInvalid 0
  else if p.op = opLOAD then performLoad s site ingress p e
  else if p.op = opSTORE then performStore s site ingress p e
  else if p.op = opATOMIC then
    if atomFnOk (p.ctr % 16) then performAtomic s site ingress p (p.ctr % 16) (pktWord p) 0 e
    else .ok s .addressInvalid 0
  else if p.op = opATOMIC_CAS then
    performAtomic s site ingress p 4 (ofBytesLE ((p.payload.drop 8).take 8)) (ofBytesLE (p.payload.take 8)) e
  else if p.op = opSYNC_ADD ∨ p.op = opSYNC_SET ∨ p.op = opSYNC_READ then performSync s site ingress p
  else if p.op = opFENCE then
    match checkAccess s site ingress p.srcSite (gaOfs p.dst) 1 0 with
    | (_, .hold) => .wait
    | (s, .fail st) => .ok s st 0
    | (s, .pass) => .ok s .ok 0
  else
    match ownCopy s site p with
    | some r =>
      let d := match r.kind with
        | .dcopy c pc => if r.req.dl then performOwn s p c pc (localOfOfs (gaOfs p.dst)) r else performWrite s site ingress p e
        | _ => if inCluster site (gaOfs p.dst) then performCdma s r.id site p else performWrite s site ingress p e
      match d with
      | .ok s st v => .ok (copyGot s r p) st v
      | .wait => .wait
    | none => performWrite s site ingress p e

/-- The same under the deduplication window (R349, R351). -/
def performReq (s : State) (site : Nat) (ingress : Option Nat) (p : Pkt) (e : Ecc) : Done :=
  if dedups ingress p then
    match findDedup s site p with
    | some d => .ok (bumpF s PRT_DEDUP_HIT site 0 1) .okRetried d.value
    | none =>
      if !dedupRoom s site p then .wait
      else match performOnce s site ingress p e with
        | .wait => .wait
        | .ok s st v => .ok (if st.success then addDedup s site p v else s) st v
  else performOnce s site ingress p e

/-- A READ_REQ (R297, R339): the site reads the data and sends them to the destination, in the name of the issuer; data
for the site itself are written at once. A failure is answered to the issuer. -/
def performRead (s : State) (site : Nat) (ingress : Option Nat) (p : Pkt) (e : Ecc) : Option State :=
  let fail := fun (s : State) (st : Status) => some (answer s site p st 0 (if st = .targetResetting then retryAfter s site else 0))
  let ofs := gaOfs p.dst
  if !pktAligned p ∨ p.dst % 64 ≠ 0 then fail s .addressInvalid
  else
    match checkAccess s site ingress p.srcSite ofs (64 * p.len) 2 with
    | (_, .hold) => none
    | (s, .fail st) => fail s st
    | (s, .pass) =>
      match memRead s site ofs (64 * p.len) e with
      | .wait => none
      | .fail s st => fail s st
      | .done s bs =>
        let d : Pkt := { dataPkt opREAD_DATA (pktWord p) bs with
          epoch := p.epoch, srcSite := p.srcSite, srcNode := p.srcNode, tag := p.tag
          arrEn := p.arrEn, ctr := p.ctr, cmpReq := true }
        if isHere s d.dst ∧ gaSite d.dst = site then
          match performReq s site none d .clean with
          | .wait => none
          | .ok s st _ => fail s st
        else
          match sendOn (drainAdd s d.epoch) site d none with
          | (s, none) => some s
          | (s, some st) => fail (drainSub s d.epoch) st

/-! ## The line queues (R336, R337) -/

/-- The key of the queue in which a request waits: its line at a stack, or its site where it waits for a bank or for the
deduplication window. -/
def hotKey (s : State) (site : Nat) (p : Pkt) : Nat :=
  match placeOf s site (gaOfs p.dst) with
  | .stack k x => lineOf k x
  | _ => 2 ^ 60 + site

/-- Requests of one line in its queue, and in the receive pool behind it (R336). -/
abbrev hotMax : Nat := 64

def hotQueue (s : State) (key : Nat) : List HotReq := SMap.get s.hot [] key
def putHot (s : State) (key : Nat) (l : List HotReq) : State := { s with hot := SMap.set s.hot [] key l }

/-- Is the operation one that a home paces to one per line in 2.5 ns (R336). -/
def isPaced (s : State) (site : Nat) (p : Pkt) : Bool :=
  (siteStack site).isSome && isHere s p.dst &&
  [opSTORE, opATOMIC, opATOMIC_CAS, opACCUM_F32, opWRITE, opREAD_DATA].contains p.op

/-- Has 2.5 ns, 4 core clocks, passed since the last operation on the line. -/
def lineFree (s : State) (key : Nat) : Bool := decide (SMap.get s.hotAt 0 key ≤ nowClk s)

/-- A request performed and answered; the packet no longer counts under its version (R313). None if it must wait. -/
def serveReq (s : State) (site : Nat) (ingress : Option Nat) (p : Pkt) (e : Ecc) : Option State :=
  let s' := if isPaced s site p then { s with hotAt := SMap.set s.hotAt 0 (hotKey s site p) (nowClk s + 4) } else s
  if p.op = opREAD_REQ then (performRead s site ingress p e).map fun s => drainSub s p.epoch
  else if ownStale s site p then some (drainSub (bumpF s FAB_LATE_ANS 0 0 1) p.epoch)
  else match performReq s' site ingress p e with
    | .wait => none
    | .ok s st v =>
      some (drainSub (answer s site p st v (if st = .targetResetting then retryAfter s site else 0)) p.epoch)

/-- The stack whose logic layer is in DRAIN (R242), of a request for one. -/
def drainingStack (s : State) (site : Nat) (p : Pkt) : Option Nat :=
  match siteStack site with
  | some k => if isHere s p.dst && getF s MST_STAT_PHASE k 0 == 1 then some k else none
  | none => none

/-- A request that its stack accepted before the drain of its reset began is served as if none had (R243): its access begins before
the drain limit. -/
def serveEarly (s : State) (site : Nat) (ingress : Option Nat) (p : Pkt) (e : Ecc) : Option State :=
  match drainingStack s site p with
  | some k => (serveReq (setF s MST_STAT_PHASE k 0 0) site ingress p e).map fun s => setF s MST_STAT_PHASE k 0 1
  | none => serveReq s site ingress p e

/-- A request reaches its site: served, or behind others of its line, or to wait. The answer says whether the cells of
the link that brought it are free: they are not while the line's queue has no room, or the deduplication window (R302, R336,
R351). -/
def takeReq (s : State) (site : Nat) (ingress : Option Nat) (p : Pkt) (e : Ecc) (link : Option Nat) : State × Bool :=
  let key := hotKey s site p
  let s := if isPaced s site p then cmapAdd s (hotCount site (gaOfs p.dst / 128) p.srcNode p.srcSite) (pktCells p) else s
  let q := hotQueue s key
  let wait := fun (_ : Unit) =>
    if q.length < hotMax then (putHot s key (q ++ [⟨key, ingress, p, none⟩]), true)
    else (putHot s key (q ++ [⟨key, ingress, p, link⟩]), false)
  if (drainingStack s site p).isSome then ((serveReq s site ingress p e).getD s, true)
  else if q ≠ [] ∧ (isPaced s site p ∨ p.op = opFENCE) then wait ()
  else if isPaced s site p ∧ !lineFree s key then wait ()
  else match serveReq s site ingress p e with
    | some s => (s, true)
    | none => if dedups ingress p && !dedupRoom s site p then (putHot s key (q ++ [⟨key, ingress, p, link⟩]), false) else wait ()

/-! ## Requests of a site's own (R333, R342) -/

/-- A request of a site's packet engine: it takes a tag, and reaches its own site without a link. -/
def inject (s : State) (site : Nat) (p : Pkt) (i : Issuer) : State :=
  if isHere s p.dst ∧ gaSite p.dst = site then
    let p := stampPkt s site p
    match freeSlot s site with
    | none => { s with tagWait := s.tagWait ++ [(site, p, i)] }
    | some k =>
      let q := takeTag s site k p i
      (takeReq (drainAdd q.1 q.2.epoch) site none q.2 .clean none).1
  else request s site p i

/-- A request that waited for a tag is injected when one is free (R342). -/
def injectWaiting (s : State) (site : Nat) : State :=
  match s.tagWait.find? fun w => w.1 == site with
  | none => s
  | some w =>
    match freeSlot s site with
    | none => s
    | some _ => inject { s with tagWait := s.tagWait.erase w } site w.2.1 w.2.2

end Sys2Proof.Machine
end

