-- ==== Sys2Proof/Machine/Links.lean ====
section
/-! DEFINITION. Machine/Links.lean: circuits, credits, sequence numbers, replay, and what every packet that arrives goes
through (R291 to R315, R362, R421). -/

namespace Sys2Proof.Machine

/-! ## Circuits of a link (R300, R301) -/

/-- The key of a circuit, and of a wavelength of a Veryen port. -/
def circKey (lane lambda : Nat) : Nat := lane * 64 + lambda
def portKey (port lambda : Nat) : Nat := 4096 + port * 32 + lambda

/-- Is a lane-table entry in service: FLOOR, PINNED, DEMAND or RESERVE_USED (R287). -/
def occServes (st : Nat) : Bool := st == 1 || st == 2 || st == 3 || st == 5

/-- The state of an entry of the lane table. -/
def occState (s : State) (lane l : Nat) : Nat := getF s LAN_OCC_STATE lane l

/-- Is the entry a circuit of the pair, in service. -/
def pairCirc (s : State) (src dst lane l : Nat) : Bool :=
  occServes (occState s lane l) && getF s LAN_OCC_SRC lane l == src && getF s LAN_OCC_DST lane l == dst

/-- All places of the lane table, by lane and then wavelength. -/
def allCircs : List (Nat × Nat) := (List.range 64).flatMap fun n => (List.range 64).map fun l => (n, l)

/-- The circuits that a pair holds. -/
def circuitsOf (s : State) (src dst : Nat) : List (Nat × Nat) := allCircs.filter fun c => pairCirc s src dst c.1 c.2

/-- May packets start on an entry: its lane is lit and no ring of it is held out (R273, R276, R279). -/
def circLive (s : State) (c : Nat × Nat) : Bool :=
  getF s LAN_STAT_LIT c.1 0 == 1 && !(getCirc s (circKey c.1 c.2)).held

/-- The core clocks for which a packet of a number of bytes occupies a circuit at 84 Gb/s (R292), rounded up. -/
def airClocks (bytes : Nat) : Nat := (bytes * 16 + 104) / 105

/-- Is the circuit cut off for its release: from beat 89 of the tempo before (R265). -/
def cutOff (s : State) (x : Circ) : Bool :=
  x.cut || (match x.relAt with
    | some t => decide (t * 100 ≤ nowBeat s + 11)
    | none => false)

/-- The circuit on which a link's next packet starts: the idle one that became idle first, then the lowest (R300). -/
def idleCirc (s : State) (keys : List Nat) : Option Nat :=
  (keys.filter fun k => decide ((getCirc s k).lastSent ≤ nowClk s) && !cutOff s (getCirc s k)).foldl
    (fun (b : Option Nat) k => match b with
      | none => some k
      | some j => if (getCirc s k).lastSent < (getCirc s j).lastSent then some k else b) none

/-- The circuits of a link, as keys. -/
def linkCircs (s : State) (l : Nat) : List Nat :=
  if l < 256 then ((circuitsOf s (l / 16) (l % 16)).filter (circLive s)).map fun c => circKey c.1 c.2
  else ((List.range 18).filter (hasBit (getF s VLK_LMAP_TX (l - 256) 0))).map fun w => portKey (l - 256) w

/-- The messages that only a pair's floor circuit carries (R260, R262, R297). -/
def floorOnly (o : Nat) : Bool := o == opGRANT_MSG || o == opGRANT_READY || o == opRELEASE_MSG

/-- The circuits of a link on which a packet may start. -/
def packetCircs (s : State) (p : Pkt) (keys : List Nat) : List Nat :=
  if floorOnly p.op then keys.filter fun k => (getCirc s k).cur.any fun c => c.floor else keys

/-- The cells that a link's sender may still start (R301). -/
def creditsOf (s : State) (l : Nat) : Nat :=
  if l < 256 then 128 * (circuitsOf s (l / 16) (l % 16)).length - (getTx s l).outCells
  else (getTx s l).granted - (getTx s l).outCells

/-- The site of the sending end of a link. -/
def linkSite (l : Nat) : Nat := if l < 256 then l / 16 else l - 256

/-! ## Throttles (R319) -/

/-- The tokens that a bucket holds at most, in cells: one tempo's worth, and at least 33. -/
def bucketMax (rate : Nat) : Nat := max 33 (2 * rate)

/-- The throttle on a packet of a site: on its requests to the destination named. -/
def throttleOn (s : State) (site : Nat) (p : Pkt) : Option Throttle :=
  if isAnswer p.op ∨ isLinkMsg p.op then none
  else (SMap.get s.throttles [] site).find? fun t => t.node == gaNode p.dst && t.site == gaSite p.dst

/-- Has the throttle, if there is one, tokens for the packet. -/
def tokensOk (s : State) (site : Nat) (p : Pkt) : Bool :=
  match throttleOn s site p with
  | some t => decide (pktCells p ≤ t.tokens)
  | none => true

/-- The tokens of a packet taken. -/
def takeTokens (s : State) (site : Nat) (p : Pkt) : State :=
  match throttleOn s site p with
  | none => s
  | some t => { s with throttles := SMap.set s.throttles [] site ((SMap.get s.throttles [] site).map fun x =>
      if x = t then { t with tokens := t.tokens - pktCells p } else x) }

/-! ## Starting packets (R300, R304, R305) -/

/-- Unacknowledged packets that a sender holds (R305). -/
abbrev unackedMax : Nat := 16384

/-- May the packet at the head of the queue start. -/
def headMay (s : State) (l : Nat) (q : QPkt) : Bool :=
  (q.exempt || decide (pktCells q.pkt ≤ creditsOf s l)) && tokensOk s (linkSite l) q.pkt

/-- The packet of a queue that starts next, and the idle circuit that takes it: the head, or the first exempt one when the head must
wait (R300). -/
def nextStart (s : State) (l : Nat) (keys : List Nat) : Option (QPkt × Nat) :=
  let on := fun (q : QPkt) => (idleCirc s (packetCircs s q.pkt keys)).map fun k => (q, k)
  match (getTx s l).queue with
  | [] => none
  | q :: qs =>
    let head := if headMay s l q then on q else none
    if head.isSome then head else (qs.filter fun x => x.exempt).findSome? on

/-- A request's tag records that a transmission has left its site (R350). -/
def markLeft (s : State) (site : Nat) (p : Pkt) : State :=
  if p.srcNode = getF s FAB_NODE_NODE 0 0 ∧ p.srcSite = site ∧ !isAnswer p.op ∧ !isCoherence p.op then
    match findTag s site (p.tag % 4096) with
    | some t => { s with tags := SMap.insert s.tags (site * 4096 + t.slot) { t with left := true } }
    | none => s
  else s

/-- Does the link carry packets: a Canvas pair neither of whose sites is parked, a port that is up, or DRAINING until it goes
dark (R283, R309, R363). -/
def linkLive (s : State) (l : Nat) : Bool :=
  if l < 256 then !siteParked s (l / 16) && !siteParked s (l % 16)
  else portUp s (l - 256) || getF s VLK_STAT_STATE (l - 256) 0 == 6

/-- A pair with no circuit: its bit in `PRT_NOCIRC`, and the event when it is new (R304). -/
def noCircuit (s : State) (l : Nat) : State :=
  let site := l / 16
  let m := getF s PRT_NOCIRC site 0
  if hasBit m (l % 16) then s
  else raise (setF (setF s PRT_NOCIRC site 0 (setBit m (l % 16))) FAB_EVT_SITE 0 0 site) cFAB 0 8

/-- A circuit of a pair has come back into service: the pair's bit is clear (R304). -/
def circuitBack (s : State) (src dst : Nat) : State :=
  let m := getF s PRT_NOCIRC src 0
  if hasBit m dst then setF s PRT_NOCIRC src 0 (clearBit m dst) else s

/-- `PRT_NOCIRC` as it reads: the pairs that waited for a circuit and have none yet (R304, R327). -/
def noCircMask (s : State) (site : Nat) : Nat :=
  (((List.range 16).filter fun d => hasBit (getF s PRT_NOCIRC site 0) d && (linkCircs s (linkCanvas site d)).isEmpty).map (2 ^ ·)).sum

/-- A packet starts on a circuit: SEQ, HOP, counters, credits, the copy kept until it is acknowledged (R300, R305,
R315). -/
def startOn (s : State) (l key : Nat) (q : QPkt) : State :=
  let t := getTx s l
  let site := linkSite l
  let p := { q.pkt with seq := t.seq, hop := if l < 256 then q.pkt.hop else q.pkt.hop + 1 }
  let bytes := if p.data then 32 + 64 * p.len else 32
  let s := cmapAdd (takeTokens s site q.pkt) (cmapKey 0 l) bytes
  let s := putTx s l { t with
    seq := (t.seq + 1) % 65536
    outCells := if q.exempt then t.outCells else t.outCells + pktCells p
    queue := t.queue.erase q
    unacked := t.unacked ++ [⟨{ q with pkt := p }, key, nowBeat s, 0, false⟩] }
  let s := putCirc s key { getCirc s key with lastSent := nowClk s + airClocks bytes }
  let s := if l < 256 then wrapF s PRT_PKT_TX site 0 1 else drainSub (wrapF s VLK_PKT_TX site 0 1) p.epoch
  let s := if l < 256 then circuitBack s site (l % 16) else s
  emit (markLeft s site p) (.pkt (linkOf l) key p)

/-- A packet of a link is sent again on an idle circuit (R306), which it occupies (R292). -/
def replayOn (s : State) (l k : Nat) (u : Unacked) : State :=
  let site := linkSite l
  let t := getTx s l
  let p := u.q.pkt
  let s := putTx s l { t with
    unacked := t.unacked.map fun x =>
      if x = u then { u with circ := k, at_ := nowBeat s, replays := u.replays + 1, due := false } else x }
  let s := putCirc s k { getCirc s k with lastSent := nowClk s + airClocks (if p.data then 32 + 64 * p.len else 32) }
  emit (if l < 256 then bumpF s PRT_PKT_REPLAY site 0 1 else bumpF s VLK_REPLAY site 0 1) (.replay (linkOf l) k p)

/-- The next packet of a link starts if one may (R300); a replay that waits for an idle circuit goes before it (R306; log entry 136,
DEDUCED). -/
def startNext (s : State) (l : Nat) : State :=
  let t := getTx s l
  let due := t.unacked.filter fun u => u.due
  if (t.queue = [] ∧ due = []) ∨ !linkLive s l then s
  else
    let cs := linkCircs s l
    if cs = [] then (if l < 256 ∧ t.queue ≠ [] then noCircuit s l else s)
    else match due.findSome? fun u => (idleCirc s (packetCircs s u.q.pkt cs)).map fun k => (u, k) with
      | some (u, k) => replayOn s l k u
      | none =>
        if unackedMax ≤ t.unacked.length then s
        else match nextStart s l cs with
          | some (q, k) => startOn s l k q
          | none => s

/-! ## Items that get no answer (R348, R350) -/

/-- Does an unanswered operation leave its fate unknown (R350). -/
def unknownFate (p : Pkt) : Bool :=
  p.op == opATOMIC || p.op == opATOMIC_CAS || p.op == opSYNC_ADD || p.op == opACCUM_F32 || p.arrEn

/-- The status of a request without an answer (R350). -/
def unansweredStatus (left : Bool) (p : Pkt) : Status :=
  if left ∧ unknownFate p then .indeterminate else .failedTimeout

/-- The page that reports an item of a site's packet engine (R570). -/
def issuerPage (s : State) (site : Nat) : Issuer → Nat × Nat
  | .coreLoad c _ _ _ => (cCOR, c)
  | .coreStore c => (cCOR, c)
  | .coreAtom c _ _ => (cCOR, c)
  | .coreSync c _ => (cCOR, c)
  | .corePoll c => (cCOR, c)
  | .copy id => match findCopy s id with
    | some r => match r.kind with
      | .dcopy c _ => (cCOR, c)
      | .table _ => (cPRT, site)
      | .moveLoad _ => (cMOV, site)
    | none => (cPRT, site)
  | .moveSync _ => (cMOV, site)
  | .host _ _ => (cHST, 0)
  | .bar2 _ _ _ => (cPRT, site)
  | .engine _ => (cPRT, site)

/-- What the report of an item has in DETAIL: the copy-table index of a table copy, else 0 (R519). -/
def issuerDetail (s : State) : Issuer → Nat
  | .copy id => match findCopy s id with
    | some r => match r.kind with
      | .table idx => idx
      | _ => 0
    | none => 0
  | _ => 0

/-- An item of a site is reported to the error log (R519, R570), with its class, status, address and tag; one that ends
INDETERMINATE is counted (R350). -/
def logItem (s : State) (site : Nat) (i : Issuer) (cls : Nat) (st : Status) (addr tag : Nat) : State :=
  let s := if st = .indeterminate then bumpF s FAB_INDET_CNT 0 0 1 else s
  let pg := issuerPage s site i
  reportItem s cls st.code pg.1 pg.2 addr tag (issuerDetail s i) (some site) (partOf s site)

/-- A request without an answer is counted and reported (R348). -/
def logUnanswered (s : State) (site : Nat) (i : Issuer) (st : Status) (addr tag : Nat) : State :=
  logItem (bumpF s FAB_TMO_CNT 0 0 1) site i (itemClass st) st addr tag

/-- Is a packet a request of the site that holds the tag. -/
def isTagged (s : State) (site tag : Nat) (p : Pkt) : Bool :=
  p.srcNode == getF s FAB_NODE_NODE 0 0 && p.srcSite == site && p.tag == tag && !isAnswer p.op && !isCoherence p.op &&
  !isLinkMsg p.op

/-- The packets of a tag that no transmission has taken from their site leave its queues, and have no effect (R350, R420); the
answer says how many. -/
def unqueue (s : State) (site tag : Nat) : State × Nat :=
  let mine := fun (p : Pkt) => isTagged s site tag p
  let near := fun (p : Pkt) => mine p && isHere s p.dst && gaSite p.dst == site
  let out := s.tx.filter fun e => decide (e.1 < 272) && linkSite e.1 == site && e.2.queue.any fun q => mine q.pkt
  let hot := s.hot.filter fun e => e.2.any fun h => near h.pkt
  let gone := (out.flatMap fun e => (e.2.queue.filter fun q => mine q.pkt).map (·.pkt)) ++
    (hot.flatMap fun e => (e.2.filter fun h => near h.pkt).map (·.pkt))
  let s := forAll out s fun s e => putTx s e.1 { e.2 with queue := e.2.queue.filter fun q => !mine q.pkt }
  let s := forAll hot s fun s e => { s with hot := SMap.set s.hot [] e.1 (e.2.filter fun h => !near h.pkt) }
  (forAll gone s fun s p => drainSub s p.epoch, gone.length)

/-- A request completes without an answer: counted and reported, its tag free; of a copy, every packet still open, by whether it has
left the site (R348, R350). -/
def unanswered (s : State) (site : Nat) (t : TagRec) : State :=
  let tag := t.gen * 4096 + t.slot
  let one := fun (s : State) (st : Status) => logUnanswered s site t.issuer st t.pkt.dst tag
  match t.issuer with
  | .copy id =>
    match findCopy s id with
    | some r =>
      let each := fun (s : State) (n : Nat) (st : Status) => forAll (List.range n) s fun s _ => copyAnswer (one s st) id st
      if r.mgrp ≠ 0 then each s r.waiting (unansweredStatus t.left t.pkt)
      else
        let w := unqueue s site tag
        each (each w.1 (min w.2 r.waiting) .failedTimeout) (r.waiting - w.2) (unansweredStatus true t.pkt)
    | none => freeTag s site t.slot
  | i =>
    let st := unansweredStatus t.left t.pkt
    finish (freeTag (one (if t.left then s else (unqueue s site tag).1) st) site t.slot) i st 0

/-- A packet's request is reported to its originator as unanswered (R306). -/
def packetLost (s : State) (site : Nat) (p : Pkt) : State :=
  if p.srcNode = getF s FAB_NODE_NODE 0 0 ∧ p.srcSite = site ∧ !isAnswer p.op ∧ !isLinkMsg p.op ∧ !isCoherence p.op then
    match findTag s site (p.tag % 4096) with
    | some t =>
      if t.gen = p.tag / 4096 % 16 then
        match t.issuer with
        | .copy id =>
          let st := unansweredStatus true p
          copyAnswer (logUnanswered s site t.issuer st t.pkt.dst (t.gen * 4096 + t.slot)) id st
        | _ => unanswered s site t
      else s
    | none => s
  else s

/-! ## Acknowledgement and replay (R302, R305, R306) -/

/-- Is SEQ `a` below `b`, modulo 2^16. -/
def seqBelow (a b : Nat) : Bool :=
  let d := (b + 65536 - a % 65536) % 65536
  decide (0 < d) && decide (d < 32768)

/-- Does the receiver accept a SEQ (R307). -/
def seqAccepted (r : RxLink) (seq : Nat) : Bool :=
  decide ((seq + 65536 - r.ack) % 65536 < 16384) && !r.above.contains seq

/-- One packet is to be sent again on any circuit of the link (R306), once one is idle; after 8 replays it is given up, and
no longer counted where no receiver has accepted it (R313). -/
def replayOne (s : State) (l : Nat) (u : Unacked) : State :=
  let site := linkSite l
  let t := getTx s l
  if 8 ≤ u.replays then
    let s := putTx s l { t with unacked := t.unacked.erase u }
    let s := if l < 256 ∧ seqAccepted (getRx s l) u.q.pkt.seq then drainSub s u.q.pkt.epoch else s
    packetLost (raise (setF s FAB_EVT_SITE 0 0 site) cFAB 0 7) site u.q.pkt
  else
    let v := { u with due := true }
    let s := putTx s l { t with unacked := t.unacked.map fun x => if x = u then v else x }
    match idleCirc s (packetCircs s u.q.pkt (linkCircs s l)) with
    | some k => if linkLive s l then replayOn s l k v else s
    | none => s

/-- A CREDIT at the sender (R302, R305): cells come back, a port's surplus is granted, and packets below ACK_SEQ are
forgotten. -/
def takeCredit (s : State) (l ack cells : Nat) : State :=
  let t := getTx s l
  let back := min t.outCells cells
  putTx s l { t with
    outCells := t.outCells - back
    granted := if l < 256 then t.granted else min 8192 (t.granted + (cells - back))
    unacked := t.unacked.filter fun u => !seqBelow u.q.pkt.seq ack }

/-- A NAK at the sender (R306): every packet started on the circuit after the SEQ given is replayed. -/
def takeNak (s : State) (l key seq : Nat) : State :=
  forAll ((getTx s l).unacked.filter fun u => u.circ == key && seqBelow seq u.q.pkt.seq) s fun s u => replayOne s l u

/-- Cells of a packet become free at the receiver (R302); those of a link that has failed since are gone with its pool (R359). -/
def freeCells (s : State) (l n : Nat) : State :=
  let r := getRx s l
  let n := min n r.used
  let s := putRx s l { r with used := r.used - n, freed := r.freed + n, freedAt := if r.freed = 0 then nowBeat s else r.freedAt }
  if l < 256 then setF s PRT_POOL_USED (l % 16) 0 (getF s PRT_POOL_USED (l % 16) 0 - n) else s

/-- Cells of a packet taken at the receiver. -/
def useCells (s : State) (l n : Nat) : State :=
  let r := getRx s l
  let s := cmapMax (putRx s l { r with used := r.used + n }) (cmapKey 2 l) (r.used + n)
  if l < 256 then
    let u := getF s PRT_POOL_USED (l % 16) 0 + n
    setF (setF s PRT_POOL_USED (l % 16) 0 u) PRT_POOL_PEAK (l % 16) 0 (max u (getF s PRT_POOL_PEAK (l % 16) 0))
  else s

/-- The link back to the sender. -/
def backLink (l : Nat) : Nat := if l < 256 then l % 16 * 16 + l / 16 else l

/-- The receiver returns its freed cells, with ACK_SEQ (R302). -/
def returnCredit (s : State) (l : Nat) : State :=
  let r := getRx s l
  let due := 64 ≤ r.freed ∨ (0 < r.freed ∧ r.freedAt + 16 ≤ nowBeat s)
  let draining := 256 ≤ l ∧ getF s VLK_STAT_STATE (l - 256) 0 = 6
  if due ∧ !draining then
    let site := if l < 256 then l % 16 else l - 256
    let p := stampPkt s site (ctrlPkt opCREDIT (gaHere s (if l < 256 then l / 16 else site) 0) 0 (r.ack + r.freed % 65536 * 65536))
    enqueue (drainAdd (putRx s l { r with freed := 0 }) p.epoch) (backLink l) p none
  else s

/-! ## Arrival (R296 to R298, R307, R309, R314, R315) -/

/-- The link and the circuit of a way in, and the Veryen port by which the packet entered the module. -/
def viaLink (site : Nat) : Via → Nat
  | .canvas src _ _ => linkCanvas src site
  | .veryen _ => linkPort site
def viaKey (site : Nat) : Via → Nat
  | .canvas _ c _ => circKey c.lane c.lambda
  | .veryen w => portKey site w
def viaIngress (site : Nat) : Via → Option Nat
  | .canvas _ _ i => i.map (·.val)
  | .veryen _ => some site

def getPort (s : State) (n : Nat) : PortSt := SMap.get s.ports PortSt.init n
def putPort (s : State) (n : Nat) (p : PortSt) : State := { s with ports := SMap.set s.ports PortSt.init n p }

/-- A corrected symbol counted (R255); on a port, by wavelength over the last millisecond too (R357). -/
def countFec (s : State) (site : Nat) : Via → State
  | .canvas _ c _ => raise (bumpF s LAN_FEC_CE c.lane 0 1) cLAN c.lane 3
  | .veryen w =>
    let p := getPort s site
    let ts := ((SMap.get p.ce [] w).filter fun t => decide (s.time.tempoNo < t + 1000)) ++ [s.time.tempoNo]
    raise (bumpF (putPort s site { p with ce := SMap.set p.ce [] w ts }) VLK_FEC_CE site 0 1) cVLK site 7

/-- ACK_SEQ passes over the SEQ values accepted. -/
def ackOver (above : List Nat) : Nat → Nat → Nat × List Nat
  | 0, a => (a, above)
  | n + 1, a => if above.contains a then ackOver (above.erase a) n ((a + 1) % 65536) else (a, above)

/-- A SEQ accepted on a circuit; of the SEQ values accepted on it the highest is kept (R306). -/
def acceptSeq (s : State) (l key seq : Nat) : State :=
  let r := getRx s l
  let p := ackOver (r.above ++ [seq]) (r.above.length + 1) r.ack
  let old := SMap.get r.good 65536 key
  let top := if r.above.contains old && seqBelow seq old then old else seq
  putRx s l { r with ack := p.1, above := p.2, good := SMap.insert r.good key top }

/-- A malformed packet: counted and, if a request, answered ADDRESS_INVALID (R298, R511). -/
def malformedPkt (s : State) (site : Nat) (p : Pkt) : State :=
  let s := raise (setF (bumpF s FAB_MALFORMED 0 0 1) FAB_EVT_SITE 0 0 site) cFAB 0 3
  answer s site p .addressInvalid 0 0

/-- Did the packet come through the port of this site. -/
def fromPort : Via → Bool
  | .veryen _ => true
  | .canvas _ _ _ => false

/-- A packet that goes on from this site under a version: to another site of the module, or out of it (R309, R315). -/
def forward (s : State) (site ver : Nat) (v : Via) (p : Pkt) : State :=
  let ing := viaIngress site v
  if fromPort v ∧ siteParked s site then
    if isRequest p.op then drainSub (answer s site p .targetResetting 0 (retryAfter s site)) p.epoch
    else drainSub (bumpF s FAB_LATE_ANS 0 0 1) p.epoch
  else if fromPort v ∧ !isHere s p.dst ∧ p.hop = getF s FAB_HOP_MAX 0 0 then
    let s := raise (bumpF s FAB_HOP_DROP 0 0 1) cFAB 0 5
    drainSub (answer s site p .noRoute 0 0) p.epoch
  else
    match sendUnder s site ver p ing (!fromPort v) with
    | (s, none) => s
    | (s, some st) =>
      drainSub (if isRequest p.op then answer s site p st 0 0 else bumpF s FAB_HOP_DROP 0 0 1) p.epoch

/-- A version that is FREE or COPYING: a packet from a port is then routed under the ACTIVE one (R314). -/
def verState (s : State) (v : Nat) : Nat := getF s (if v % 2 = 0 then FAB_EPOCH_STAT_V0 else FAB_EPOCH_STAT_V1) 0 0
def epochLate (s : State) (v : Nat) : Bool := verState s v == 0 || verState s v == 3

/-- What every arriving packet goes through; `act` is what its operation does when it is for this site, and answers
whether the packet's cells are free. -/
def arrive (s : State) (a : Arrival) (act : State → Option Nat → State × Bool) : State :=
  let site := a.site.val
  let p := a.pkt
  let l := viaLink site a.via
  let s := if a.fec then countFec s site a.via else s
  let cells := if isExempt p.op then 0 else pktCells p
  let port := decide (256 ≤ l)
  if !seqAccepted (getRx s l) p.seq then
    let s := if port then bumpF s VLK_DUP site 0 1 else bumpF s PRT_PKT_DUP site 0 1
    let r := getRx s l
    putRx s l { r with freed := r.freed + cells, freedAt := if r.freed = 0 then nowBeat s else r.freedAt }
  else
    let s := acceptSeq s l (viaKey site a.via) p.seq
    let s := if port then drainAdd (wrapF s VLK_PKT_RX site 0 1) p.epoch else wrapF s PRT_PKT_RX site 0 1
    let s := useCells (cmapAdd s (cmapKey 1 l) (if p.data then 32 + 64 * p.len else 32)) l cells
    let done := fun (r : State × Bool) => if r.2 then freeCells r.1 l cells else r.1
    if pktMalformed p ∨ (isAnswer p.op ∧ 11 ≤ p.status) then done (drainSub (malformedPkt s site p) p.epoch, true)
    else if isLinkMsg p.op ∧ p.op ≠ opTHROTTLE then done ((act (drainSub s p.epoch) (viaIngress site a.via)).1, true)
    else
      let late := (viaIngress site a.via).isSome && epochLate s p.epoch
      let s := if late && port then raise (bumpF s FAB_EPOCH_LATE 0 0 1) cFAB 0 4 else s
      let local_ := isHere s p.dst && gaSite p.dst == site || isCoherence p.op && !port
      if !local_ then
        let r := forward s site (if late then getF s FAB_EPOCH_STAT_CUR 0 0 else p.epoch) a.via p
        done (r, true)
      else if siteResetting s site ∧ (isAnswer p.op ∨ isLinkMsg p.op) then
        done (drainSub (bumpF s FAB_LATE_ANS 0 0 1) p.epoch, true)
      else done (act s (viaIngress site a.via))

/-- A packet that fails its CRC (R306): dropped, counted, and answered with NAK. -/
def crcFail (s : State) (site : Nat) (v : Via) : State :=
  let l := viaLink site v
  let last := SMap.get (getRx s l).good 65535 (viaKey site v)
  let s := match v with
    | .canvas _ c _ => raise (bumpF s LAN_CRC_UE c.lane 0 1) cLAN c.lane 4
    | .veryen _ => raise (bumpF s VLK_CRC_UE site 0 1) cVLK site 8
  let w := match v with
    | .canvas _ c _ => last + c.lane * 2 ^ 16 + c.lambda * 2 ^ 22
    | .veryen x => last + x.val * 2 ^ 22
  let p := stampPkt s site (ctrlPkt opNAK (gaHere s (if l < 256 then l / 16 else site) 0) 0 w)
  let s := if l < 256 then bumpF s PRT_PKT_NAK site 0 1 else s
  enqueue (drainAdd s p.epoch) (backLink l) p none

end Sys2Proof.Machine
end

