-- ==== Sys2Proof/Machine/Copies.lean ====
section
/-! DEFINITION. Machine/Copies.lean: copies and their packets, copy tables, multicast (R180, R181, R194, R320 to R324, R338
to R341). All the packets of a copy are injected when it issues, with the data read then (log entry 28, DESIGN CHOICE). -/

namespace Sys2Proof.Machine

/-! ## Reading the source (R194, R338, R339) -/

/-- The data of a packet whose source lies at the engine's site, read by the engine of the copy: the core's DMA unit in
the rotated view, the cluster DMA unit, or as inbound traffic. -/
def copyRead (s : State) (r : CopyRec) (ga n : Nat) : MemOut :=
  let ofs := gaOfs ga
  let inbound := fun (_ : Unit) =>
    match checkAccess s r.site none r.site ofs n 2 with
    | (_, .hold) => .wait
    | (s, .fail st) => .fail s st
    | (s, .pass) => memRead s r.site ofs n .clean
  match r.kind with
  | .dcopy c pc =>
    if !r.req.sl then inbound ()
    else
      let a := localOfOfs ofs
      match localGrant s c a n with
      | (.served, _) =>
        if localUe s c a n then
          let s := bumpF s CLU_ECC_UE (corClu c) 0 1
          let s := reportItem s 6 5 cCLU (corClu c) ga 0 0 (some r.site) (partOf s r.site)
          .fail (faultCore s c fcDataUe uDma 0 pc) .uncorrectable
        else .done s ((List.range n).map fun i => readLocal s c (a + i))
      | (.refused x, b) => .fail (faultCore (denyCore s c b x) c fcBankOwner uDma 0 pc) .accessDenied
      | (.wait, _) => .wait
      | (.noBank, _) => .fail s .addressInvalid
  | _ =>
    if !inCluster r.site ofs then inbound ()
    else match cdmaAccess s r.id r.site ofs n with
      | (.served, _) =>
        if (List.range n).any fun i => isUe s (cdmaPhys s r.site (ofs + i)) then
          .fail (match placeOf s r.site ofs with
            | .bank b _ => sramUe s b r.site ofs
            | _ => s) .uncorrectable
        else .done s ((List.range n).map fun i => readByte s (cdmaPhys s r.site (ofs + i)))
      | (.wait, _) => .wait
      | (.refused x, some b) => .fail (deny s b 2 0 x) .accessDenied
      | _ => .fail s .addressInvalid

/-! ## Multicast (R320 to R323) -/

/-- The words of a group's entry: record address and targets; none when the entry is malformed or cannot be read here
(R320, R321; log entry 29, DESIGN CHOICE). -/
def mcEntry (s : State) (site g : Nat) : Option (List Nat) :=
  match SMap.find s.mcCache (site * 4096 + g) with
  | some e => some e
  | none =>
    let ga := getF s FAB_MC_BASE 0 0 + g * 512
    if !isHere s ga then none
    else match memRead s (gaSite ga) (gaOfs ga) 320 .clean with
      | .done _ bs =>
        let n := ofBytesLE (bs.take 1)
        if 1 ≤ n ∧ n ≤ 64 then
          some (ofBytesLE ((bs.drop 8).take 8) :: (List.range n).map fun t => ofBytesLE ((bs.drop (64 + 4 * t)).take 4))
        else none
      | .wait => none
      | .fail _ _ => none

/-- Entries that a site's multicast engine caches (R320). -/
def mcCached (s : State) (site : Nat) : Nat := (s.mcCache.filter fun e => e.1 / 4096 == site).length

/-- The status a target's state or route gives before its copy starts (R323). -/
def mcSkip (s : State) (p : Pkt) (w : Nat) : Bool :=
  let node := w % 16384
  let site := bitsOf w 17 14
  if node = getF s FAB_NODE_NODE 0 0 then siteFenced s site else hasBit (routeEntry s (p.epoch % 2) node) 16

/-- The unicast copy of a multicast packet for one target (R321). -/
def mcCopy (p : Pkt) (w : Nat) : Pkt :=
  { p with mgrp := 0, dst := w % 2 ^ 18 * 2 ^ 46 + gaOfs p.dst }

/-- The status of a target's copy that need not travel: skipped, performed at the site itself, or without a route; none
when it has joined its link's queue. -/
def mcSend (s : State) (site : Nat) (p : Pkt) (w : Nat) : State × Option Nat :=
  if mcSkip s p w then (s, some Status.fenced.code)
  else
    let q := mcCopy p w
    if isHere s q.dst ∧ gaSite q.dst = site then
      match performReq s site none q .clean with
      | .ok s st _ => (s, some st.code)
      | .wait => (s, some Status.failedTimeout.code)
    else match sendOn (drainAdd s q.epoch) site q none with
      | (s, none) => (s, none)
      | (s, some st) => (drainSub s q.epoch, some st.code)

/-- A multicast packet reaches its engine (R321). -/
def mcStart (s : State) (site : Nat) (p : Pkt) (id : Nat) : State :=
  match mcEntry s site p.mgrp with
  | none =>
    copyAnswer (raise (setF (bumpF s FAB_MALFORMED 0 0 1) FAB_EVT_SITE 0 0 site) cFAB 0 3) id .addressInvalid
  | some e =>
    let key := site * 4096 + p.mgrp
    let s := if (SMap.find s.mcCache key).isNone ∧ mcCached s site < 64 then
        { s with mcCache := SMap.insert s.mcCache key e } else s
    let r := (e.drop 1).foldl (fun (r : State × List McTarget) w =>
      let q := mcSend r.1 site p w
      (q.1, r.2 ++ [⟨w, q.2, false, 0, nowBeat s⟩])) (s, [])
    { r.1 with mcs := r.1.mcs ++ [⟨site, p, id, e.headD 0, r.2⟩] }

/-- The answer of a target (R321, R324): of the oldest packet of the copy that still waits for that site. -/
def mcAnswer (s : State) (id node site st : Nat) : State :=
  let isT := fun (t : McTarget) => t.status.isNone && t.word % 2 ^ 18 == node + site * 16384
  match s.mcs.find? fun m => m.copyId == id && m.targets.any isT with
  | none => bumpF s FAB_LATE_ANS 0 0 1
  | some m =>
    match m.targets.find? isT with
    | none => s
    | some t => { s with mcs := s.mcs.map fun x =>
        if x = m then { m with targets := m.targets.map fun y => if y = t then { t with status := some st } else y } else x }

/-! ## The packets of a copy (R339) -/

/-- A packet of a copy: sent on its link, or performed at the engine's own site. -/
def copySend (s : State) (r : CopyRec) (p : Pkt) : State :=
  if p.mgrp ≠ 0 then mcStart s r.site p r.id
  else if isHere s p.dst ∧ gaSite p.dst = r.site then
    (takeReq (drainAdd s p.epoch) r.site none p .clean none).1
  else match sendOn (drainAdd s p.epoch) r.site p none with
    | (s, none) => s
    | (s, some st) => copyAnswer (drainSub s p.epoch) r.id st

/-- The packet of a copy that carries `n` units from unit `u` on (R339). Where the source at the engine's own site must wait, for a
line or a repair copy, the packet waits there as a READ_REQ. -/
def copyPacket (s : State) (r : CopyRec) (u n : Nat) : State :=
  let src := r.req.src + 64 * u
  let dst := r.req.dst + 64 * u
  let stamp := fun (p : Pkt) => { stampPkt s r.site p with tag := r.tag, arrEn := r.req.arrEn, cmpReq := true }
  if isHere s src ∧ gaSite src = r.site then
    match copyRead s r src (64 * n) with
    | .done s bs =>
      copySend s r { stamp (dataPkt opWRITE dst bs) with mgrp := r.mgrp, ctr := r.req.arrive, complete := r.req.complete }
    | .fail s st => copyAnswer s r.id st
    | .wait => copySend s r { stamp (ctrlPkt opREAD_REQ src r.req.arrive dst) with len := n }
  else copySend s r { stamp (ctrlPkt opREAD_REQ src r.req.arrive dst) with len := n }

/-- Must a read of memory wait, for a line or a repair copy (R206, R231). -/
def memHeld (s : State) (site ofs n : Nat) : Bool :=
  match memRead s site ofs n .clean with
  | .wait => true
  | _ => false

/-- Is a unit of the source in a bank that a new owner waits for, or elsewhere where reads wait, so that the copy must wait
(R197). -/
def copySrcWaits (s : State) (site : Nat) (k : CopyKind) (q : CopyReq) : Bool :=
  let n := 64 * q.units
  let ofs := gaOfs q.src
  isHere s q.src && gaSite q.src == site &&
  (match k with
    | .dcopy c _ =>
      if q.sl then (localGrant s c (localOfOfs ofs) n).1 == .wait else (checkAccess s site none site ofs n 2).2 == .hold
    | _ =>
      if inCluster site ofs then (cdmaAccess s s.copyNext site ofs n).1 == .wait
      else (checkAccess s site none site ofs n 2).2 == .hold || memHeld s site ofs n)

/-- A copy issues (R339): it takes its tag, and all its packets are injected. -/
def copyIssue (s : State) (site : Nat) (k : CopyKind) (q : CopyReq) (mgrp slot : Nat) : State :=
  let n := q.pkt + 1
  let cnt := (q.units + n - 1) / n
  let id := s.copyNext
  let p0 : Pkt := { ctrlPkt (if isHere s q.src ∧ gaSite q.src = site then opWRITE else opREAD_REQ)
    q.dst q.arrive 0 with arrEn := q.arrEn }
  let t := takeTag s site slot (stampPkt s site p0) (.copy id)
  let r : CopyRec := ⟨id, site, k, q, mgrp, cnt, 0, 0, t.2.tag, []⟩
  let s := { t.1 with copies := t.1.copies ++ [r], copyNext := id + 1 }
  forAll (List.range cnt) s fun s i => copyPacket s r (i * n) (min n (q.units - i * n))

/-! ## Table copies (R338, R341) -/

/-- The descriptor of a table index, as a number of 256 bits. -/
def copyDesc (s : State) (site idx : Nat) : Nat := SMap.get s.copyTab 0 (site * 1024 + idx)

/-- The request that a descriptor makes. -/
def descReq (d : Nat) : CopyReq :=
  ⟨bitsOf d 63 0, bitsOf d 127 64, bitsOf d 150 128, bitsOf d 154 151, hasBit d 155, hasBit d 156, bitsOf d 175 160,
    bitsOf d 191 176, false, false⟩
def descGrp (d : Nat) : Nat := bitsOf d 203 192

/-- May the descriptor be started (R340, R341). -/
def descOk (s : State) (site idx : Nat) : Bool :=
  let d := copyDesc s site idx
  decide (idx < 1024) && hasBit d 208 && bitsOf d 159 157 == 0 && bitsOf d 207 204 == 0 && bitsOf d 255 209 == 0 &&
  bitsOf d 63 0 % 64 == 0 && bitsOf d 127 64 % 64 == 0 && decide (bitsOf d 150 128 ≤ 4194304) &&
  (descGrp d == 0 || (isHere s (bitsOf d 127 64) && gaSite (bitsOf d 127 64) == site))

/-- The engine of a table copy (R338): a cluster's DMA unit, the logic layer (4), or the packet engine (5). -/
def copyEngine (s : State) (site : Nat) (q : CopyReq) : Nat :=
  let at_ := fun (a : Nat) => isHere s a && gaSite a == site
  let unit := fun (a : Nat) =>
    let o := gaOfs a
    if o < 4 * 0x800000 then o / 0x800000 else (o - 0x10000000) / 2 ^ 26 % 4
  if (siteStack site).isSome then (if at_ q.src ∨ at_ q.dst then 4 else 5)
  else if at_ q.src then unit q.src
  else if at_ q.dst then unit q.dst
  else 5

/-- Table copies in flight on an engine. -/
def engineBusy (s : State) (site e : Nat) : Nat :=
  (s.copies.filter fun r => match r.kind with
    | .table _ => r.site == site && copyEngine s site r.req == e
    | _ => false).length

/-- Copies that each engine holds in flight (R338). -/
abbrev engineMax : Nat := 16

/-- A table copy that cannot be started fails at issue (R341). -/
def tableFail (s : State) (site idx : Nat) (st : Status) : State :=
  let s := setF (setF s PRT_CPY_STAT_LAST site 0 st.code) PRT_CPY_STAT_IDX site 0 idx
  bumpF s PRT_CPY_FAIL site 0 1

/-- The tag with which a table copy may start now; none without an engine slot, a tag, or the bank of its source. -/
def tableMay (s : State) (site idx : Nat) : Option Nat :=
  let q := descReq (copyDesc s site idx)
  if engineBusy s site (copyEngine s site q) < engineMax ∧ !copySrcWaits s site (.table idx) q then freeSlot s site else none

/-- A table copy starts, waits for its engine, or fails at issue (R338, R341). -/
def tableStart (s : State) (site idx : Nat) : State :=
  if !descOk s site idx then tableFail s site idx .addressInvalid
  else
    let q := descReq (copyDesc s site idx)
    if q.units = 0 then (if q.cmpEn then syncAdd s q.complete 1 else s)
    else match tableMay s site idx with
      | none => { s with copyWait := s.copyWait ++ [(site, idx)] }
      | some k =>
        copyIssue (setF s PRT_CPY_STAT_ACTIVE site 0 (getF s PRT_CPY_STAT_ACTIVE site 0 + 1)) site (.table idx) q
          (descGrp (copyDesc s site idx)) k

/-! ## The DMA queue of a core (R132, R180) -/

/-- DMA descriptors of a core (R132). -/
abbrev dmaMax : Nat := 16

/-- Is a local range within one window of R135. -/
def localRange (a n : Nat) : Bool :=
  let e := a + (max n 1) - 1
  decide (e < 0x100000) || (decide (0x1000000 ≤ a) && decide (e < 0x1800000))

/-- The fault of a DCOPY whose operands the DMA unit refuses at issue (R180). -/
def dcopyFault (x : DmaEntry) : Option Nat :=
  if x.n % 64 ≠ 0 ∨ 2 ^ 28 < x.n then some fcOperand
  else if x.a % 64 ≠ 0 ∨ x.b % 64 ≠ 0 then some fcMisaligned
  else if (x.req.dl && !localRange x.a x.n) || (x.req.sl && !localRange x.b x.n) then some fcLocal
  else none

/-- What the code finds in the local source of a copy when it issues (R191). -/
def dcopyFound (s : State) (c : Nat) (x : DmaEntry) : State :=
  if x.req.sl ∧ x.eccAt < x.n then sramFound s (corClu c) (localPhys s c (x.b + x.eccAt)) x.ecc else s

/-- The copies at the head of a core's DMA queue issue while a descriptor and a tag are free, and are checked then (R180), at
most `n` of them; a copy of length 0 sends nothing and completes at once. -/
def dmaPumpN (s : State) (c : Nat) : Nat → State
  | 0 => s
  | n + 1 =>
    let k := getCore s c
    match k.dmaQ with
    | [] => s
    | x :: xs =>
      if dmaMax ≤ k.dmaLive then s
      else match dcopyFault x with
        | some code => faultCore s c code uDma 0 x.pc
        | none =>
          let q := x.req
          if q.units = 0 then
            let s := modCore s c fun k => { k with dmaQ := xs }
            dmaPumpN (retire (if q.cmpEn then syncAdd s q.complete 1 else s) c 1) c n
          else match freeSlot s (corSite c) with
            | none => s
            | some slot =>
              if copySrcWaits s (corSite c) (.dcopy c x.pc) q then s
              else
                let s := modCore s c fun k => { k with dmaQ := xs, dmaLive := k.dmaLive + 1 }
                dmaPumpN (retire (copyIssue (dcopyFound s c x) (corSite c) (.dcopy c x.pc) q 0 slot) c 1) c n

/-- The same for the whole queue of 16 (R132). -/
def dmaPump (s : State) (c : Nat) : State := dmaPumpN s c 16

/-- What a free tag or engine lets go on at a site: requests waiting for a tag, table copies, DMA queues. -/
def pumpSite (s : State) (site : Nat) : State :=
  let s := injectWaiting s site
  let s := match s.copyWait.find? fun w => w.1 == site && (!descOk s site w.2 || (tableMay s site w.2).isSome) with
    | none => s
    | some w => tableStart { s with copyWait := s.copyWait.erase w } site w.2
  forAll (s.cores.filter fun e => corSite e.1 == site && e.2.dmaQ != []) s fun s e => dmaPump s e.1

/-- A copy whose packets are all answered or failed ends (R181, R339). -/
def copyFinish (s : State) (id : Nat) : State :=
  match findCopy s id with
  | none => s
  | some r => if r.waiting = 0 then pumpSite (copyEnd s r) r.site else s

/-! ## Multicast in progress (R322, R324) -/

/-- A target of a packet changed. -/
def modTarget (s : State) (m : McRec) (t : Nat) (f : McTarget → McTarget) : State :=
  { s with mcs := s.mcs.map fun x =>
      if x = m then { m with targets := (m.targets.zipIdx).map fun e => if e.2 = t then f e.1 else e.1 } else x }

/-- The link of a target's copy, and its entry in the link's queue while it has not started. -/
def mcQueued (s : State) (m : McRec) (w : Nat) : Option (Nat × QPkt) :=
  let q := mcCopy m.pkt w
  (s.tx.findSome? fun e => (e.2.queue.find? fun x =>
    x.pkt.op == opWRITE && x.pkt.tag == q.tag && x.pkt.dst == q.dst && linkSite e.1 == m.site).map fun x => (e.1, x))

/-- A blocked target is set aside, or tried again alone (R322). -/
def mcRetry (s : State) (n t : Nat) : State :=
  match s.mcs[n]? with
  | none => s
  | some m =>
    match m.targets[t]? with
    | none => s
    | some x =>
      if x.status.isSome ∨ nowBeat s < x.since + getF s FAB_MC_CTRL_WAIT 0 0 then s
      else if !x.aside then
        match mcQueued s m x.word with
        | none => s
        | some (l, q) =>
          let tl := getTx s l
          let s := putTx s l { tl with queue := tl.queue.erase q }
          modTarget (drainSub s q.pkt.epoch) m t fun x => { x with aside := true, since := nowBeat s }
      else
        let q := mcCopy m.pkt x.word
        let l := if isHere s q.dst then linkCanvas m.site (gaSite q.dst) else linkPort m.site
        if linkLive s l ∧ linkCircs s l ≠ [] ∧ pktCells q ≤ creditsOf s l then
          let p := mcSend s m.site m.pkt x.word
          modTarget p.1 m t fun x => { x with aside := false, status := p.2, since := nowBeat s }
        else if getF s FAB_MC_CTRL_RETRY 0 0 ≤ x.tries + 1 then
          let s := modTarget s m t fun x => { x with status := some Status.failedTimeout.code }
          let s := raise (bumpF s FAB_MC_FAIL 0 0 1) cFAB 0 6
          reportItem s 1 Status.failedTimeout.code cPRT m.site q.dst m.pkt.tag (issuerDetail s (.copy m.copyId)) (some m.site)
            (partOf s m.site)
        else modTarget s m t fun x => { x with tries := x.tries + 1, since := nowBeat s }

/-- The record of a multicast packet (R324). -/
def mcRecord (s : State) (m : McRec) : List Byte :=
  let sts := m.targets.map fun t => t.status.getD 0
  let ok := ((sts.zipIdx).filter fun e => e.1 ≤ 1).foldl (fun a e => setBit a e.2) 0
  let st := (sts.zipIdx).foldl (fun a e => a + e.1 * 16 ^ e.2) 0
  bytesLE 8 ok ++ bytesLE 32 st ++ bytesLE 2 m.pkt.tag ++ bytesLE 6 0 ++ bytesLE 8 s.time.count ++ bytesLE 8 0

/-- What refuses a write of the device itself: a COMMITTED page (R391). -/
def deviceRefused (s : State) (ga n : Nat) : Option State :=
  match placeOf s (gaSite ga) (gaOfs ga) with
  | .stack k x => kvRefused s k x n
  | _ => none

/-- Bytes that the device itself writes at a global address of this module; elsewhere they leave as a WRITE packet. -/
def deviceWrite (s : State) (site ga : Nat) (bs : List Byte) : State :=
  if isHere s ga then
    match deviceRefused s ga bs.length with
    | some s => s
    | none => match memWrite s (gaSite ga) (gaOfs ga) bs .clean with
    | .done s _ => s
    | .fail s _ => s
    | .wait =>
      let p := stampPkt s (gaSite ga) (dataPkt opWRITE ga bs)
      (takeReq (drainAdd s p.epoch) (gaSite ga) none p .clean none).1
  else sendPlain s site (stampPkt s site (dataPkt opWRITE ga bs))

/-- Every target of a multicast packet is written or has failed (R324). -/
def mcComplete (s : State) (n : Nat) : State :=
  match s.mcs[n]? with
  | none => s
  | some m =>
    if m.targets.any (fun t => t.status.isNone) then s
    else
      let s := { s with mcs := s.mcs.eraseIdx n }
      let s := match findCopy s m.copyId with
        | none => s
        | some r => forAll m.targets s fun s t => match Status.ofCode (t.status.getD 0) with
          | some st => if st.success then s else copyItemFail s r st
          | none => s
      let s := copyAnswer s m.copyId .ok
      if m.rec_ = 0 then s else deviceWrite s m.site (m.rec_ + 64 * (m.pkt.tag % 64)) (mcRecord s m)

end Sys2Proof.Machine
end

