-- ==== Sys2Proof/Machine/Fabric.lean ====
section
/-! DEFINITION. Machine/Fabric.lean: the commands of packets, links, requests, deduplication and copies (R291 to R351), and
of the line caches (R203 to R212). A command whose conditions do not hold changes nothing (log entry 2, DEDUCED). -/

namespace Sys2Proof.Machine

/-! ## Requests at their targets -/

/-- A request packet arrives; a packet of another operation is not this command. -/
def requestRow (a : Arrival) (op : Nat) (s : State) : State :=
  if a.pkt.op = op then
    arrive s a fun s ing => takeReq s a.site ing a.pkt a.ecc (some (viaLink a.site a.via))
  else s

/-- A LOAD packet (R297, R333). -/
def execLoad (a : Arrival) (s : State) : Host.Outcome State Fault Refusal := .next (requestRow a opLOAD s)

/-- A STORE packet (R297, R336). -/
def execStore (a : Arrival) (s : State) : Host.Outcome State Fault Refusal := .next (requestRow a opSTORE s)

/-- A READ_REQ packet (R297, R339). -/
def execReadReq (a : Arrival) (s : State) : Host.Outcome State Fault Refusal := .next (requestRow a opREAD_REQ s)

/-- A ATOMIC packet (R334). -/
def execAtomic (a : Arrival) (s : State) : Host.Outcome State Fault Refusal := .next (requestRow a opATOMIC s)

/-- A SYNC_ADD packet (R335, R344). -/
def execSyncAdd (a : Arrival) (s : State) : Host.Outcome State Fault Refusal := .next (requestRow a opSYNC_ADD s)

/-- A SYNC_SET packet (R297, R344). -/
def execSyncSet (a : Arrival) (s : State) : Host.Outcome State Fault Refusal := .next (requestRow a opSYNC_SET s)

/-- A SYNC_READ packet (R297). -/
def execSyncRead (a : Arrival) (s : State) : Host.Outcome State Fault Refusal := .next (requestRow a opSYNC_READ s)

/-- A FENCE packet (R297). -/
def execPktFence (a : Arrival) (s : State) : Host.Outcome State Fault Refusal := .next (requestRow a opFENCE s)

/-- A WRITE packet (R297). -/
def execWrite (a : Arrival) (s : State) : Host.Outcome State Fault Refusal := .next (requestRow a opWRITE s)

/-- A ATOMIC_CAS packet (R297, R334). -/
def execAtomicCas (a : Arrival) (s : State) : Host.Outcome State Fault Refusal := .next (requestRow a opATOMIC_CAS s)

/-- A ACCUM_F32 packet (R297, R334). -/
def execAccumF32 (a : Arrival) (s : State) : Host.Outcome State Fault Refusal := .next (requestRow a opACCUM_F32 s)

/-- The atomics that a home combines (R337): ADD64, ADD32, FADD32 and ACCUM_F32. -/
def isAdditive (p : Pkt) : Bool := (p.op == opATOMIC && p.ctr % 16 ≤ 2) || p.op == opACCUM_F32

/-- How many requests of a line's queue the home combines; a queue that is no line's combines none. -/
def combineCount : Nat → List HotReq → Nat
  | 0, _ => 0
  | n + 1, q :: qs => if isAdditive q.pkt && decide (q.line < 2 ^ 60) then combineCount n qs + 1 else 0
  | _, [] => 0

/-- Does a waiting request keep the cells it holds: it needs an entry of a deduplication window that is full (R351). -/
def keepsCells (s : State) (site : Nat) (q : HotReq) : Bool := dedups q.ingress q.pkt && !dedupRoom s site q.pkt

/-- Up to `n` requests at the head of a queue are served, in order (R336); a request served, or one that moves up into the queue,
gives back the cells it held. -/
def serveHot (s : State) (site key : Nat) : Nat → State
  | 0 => s
  | n + 1 =>
    match hotQueue s key with
    | [] => s
    | q :: qs =>
      match serveEarly s site q.ingress q.pkt .clean with
      | none => s
      | some s =>
        let t := putHot s key ((qs.zipIdx).map fun e =>
          if e.2 < hotMax ∧ !keepsCells s site e.1 then { e.1 with held := none } else e.1)
        let t := (q :: (qs.take hotMax).filter fun x => !keepsCells s site x).foldl (fun t x => match x.held with
          | some l => freeCells t l (pktCells x.pkt)
          | none => t) t
        serveHot t site key n

/-- HOT_LINE_OPERATION (R336, R337): on a line, or on what waits at a site for a bank or for the deduplication window. -/
def execHotLineOperation (key : Nat) (s : State) : Host.Outcome State Fault Refusal :=
  let q := hotQueue s key
  let site := if 2 ^ 60 ≤ key then key - 2 ^ 60 else lineHome key
  .next (
    if q = [] then dirNext s key 33
    else if !lineFree s key then s
    else
      let n := max 1 (combineCount 16 q)
      let s' := serveHot s site key n
      let m := q.length - (hotQueue s' key).length
      pumpSite (if 2 ≤ m then bumpF s' PRT_COMBINED site 0 m else s') site)

/-- At the start of a beat, the sites where a request waits for a deduplication entry are counted (R351, `PRT_DEDUP_FULL`). -/
def countDedupWaits (s : State) : State :=
  let full := (s.hot.filter fun e => match e.2 with
    | [] => false
    | q :: _ => keepsCells s (gaSite q.pkt.dst) q).map fun e => if 2 ^ 60 ≤ e.1 then e.1 - 2 ^ 60 else lineHome e.1
  forAll full.eraseDups s fun s x => bumpF s PRT_DEDUP_FULL x 0 1

/-- DEDUP_EXPIRE (R351). -/
def execDedupExpire (site : Fin 16) (s : State) : Host.Outcome State Fault Refusal :=
  .next (putDedups s site ((dedupsAt s site).filter fun d => decide (s.time.tempoNo < d.expires)))

/-! ## Answers (R343, R350) -/

/-- An answer reaches its engine: to its multicast packet, its copy or its request. -/
def takeAnswer (s : State) (site : Nat) (p : Pkt) (v : Nat) : State :=
  match Status.ofCode p.status with
  | none => s
  | some st =>
    let mc := match findTag s site (p.tag % 4096) with
      | some t => if t.gen = p.tag / 4096 % 16 then (match t.issuer with
          | .copy id => match findCopy s id with
            | some r => if r.mgrp ≠ 0 then some id else none
            | none => none
          | _ => none) else none
      | none => none
    match mc with
    | some id => mcAnswer s id p.srcNode p.srcSite p.status
    | none => pumpSite (acceptAnswer s site p.tag st v) site

/-- An answer packet arrives. -/
def answerRow (a : Arrival) (op : Nat) (s : State) : State :=
  if a.pkt.op = op then
    arrive s a fun s _ => (drainSub (takeAnswer s a.site a.pkt (pktWord a.pkt)) a.pkt.epoch, true)
  else s

/-- Does a COMP answer a request about a line: it names the line (R297; log entry 27, DEDUCED). -/
def compLine (p : Pkt) : Option Nat := if compLineOfs ≤ gaOfs p.dst then some (gaOfs p.dst - compLineOfs) else none

/-- A COMP packet (R297, R343): the answer to a request with a tag, or to one about a line. -/
def execComp (a : Arrival) (s : State) : Host.Outcome State Fault Refusal :=
  .next (if a.pkt.op = opCOMP then
    arrive s a fun s _ => (
      let s := drainSub s a.pkt.epoch
      match compLine a.pkt, cluAt a.site a.pkt.tag, Status.ofCode a.pkt.status with
      | some l, some cl, some st => (cacheComp s cl l a.pkt.ctr st (pktWord a.pkt % 65536), true)
      | _, _, _ => (takeAnswer s a.site a.pkt (pktWord a.pkt), true))
    else s)

/-- A COMP_DATA packet (R297, R343). -/
def execCompData (a : Arrival) (s : State) : Host.Outcome State Fault Refusal := .next (answerRow a opCOMP_DATA s)

/-- REQUEST_TIMEOUT (R348, R350). -/
def execRequestTimeout (d : Due) (s : State) : Host.Outcome State Fault Refusal :=
  .next (match d with
    | .tag site slot =>
      match findTag s site slot with
      | some t => if t.timeout ≤ s.time.tempoNo then pumpSite (unanswered s site t) site else s
      | none => s
    | .fill cl line =>
      match findFill s cl line with
      | some f => if f.deadline ≤ s.time.tempoNo then fillTimeout s cl line .failedTimeout else s
      | none => s)

/-- Is the request sent again end to end: of control class or ATOMIC_CAS, to another module (R349). -/
def retries (s : State) (t : TagRec) : Bool :=
  (!t.pkt.data || t.pkt.op == opATOMIC_CAS) && !isHere s t.pkt.dst && (match t.issuer with
    | .copy _ => false
    | _ => true)

/-- REQUEST_RETRY (R349): the same packet with the same tag, at each quarter of its timeout. -/
def execRequestRetry (site : Fin 16) (slot : Fin 4096) (s : State) : Host.Outcome State Fault Refusal :=
  .next (match findTag s site slot with
    | none => s
    | some t =>
      let due := t.injected + (t.retries + 1) * (timeoutOf s t.pkt / 4) * 100
      if retries s t ∧ t.retries < getF s FAB_RETRY 0 0 ∧ due ≤ nowBeat s ∧ s.time.tempoNo < t.timeout then
        let s := { s with tags := SMap.insert s.tags (site * 4096 + slot) { t with retries := t.retries + 1 } }
        match sendOn (drainAdd s t.pkt.epoch) site t.pkt none with
        | (s, none) => s
        | (s, some _) => drainSub s t.pkt.epoch
      else s)

/-! ## Links -/

/-- PACKET_START (R300). -/
def execPacketStart (l : Link) (s : State) : Host.Outcome State Fault Refusal := .next (startNext s (linkIdx l))

/-- CREDIT_RETURN (R302), at the receiving end of a link. -/
def execCreditReturn (l : Link) (s : State) : Host.Outcome State Fault Refusal := .next (returnCredit s (linkIdx l))

/-- A CREDIT packet (R302, R305). -/
def execCredit (a : Arrival) (s : State) : Host.Outcome State Fault Refusal :=
  .next (if a.pkt.op = opCREDIT then
    arrive s a fun s _ =>
      (takeCredit s (backLink (viaLink a.site a.via)) (bitsOf (pktWord a.pkt) 15 0) (bitsOf (pktWord a.pkt) 31 16), true)
    else s)

/-- A NAK packet (R306). -/
def execNak (a : Arrival) (s : State) : Host.Outcome State Fault Refusal :=
  .next (if a.pkt.op = opNAK then
    arrive s a fun s _ =>
      let w := pktWord a.pkt
      let key := match a.via with
        | .canvas _ _ _ => circKey (bitsOf w 21 16) (bitsOf w 27 22)
        | .veryen _ => portKey a.site (bitsOf w 27 22)
      (takeNak s (backLink (viaLink a.site a.via)) key (bitsOf w 15 0), true)
    else s)

/-- PACKET_CRC_FAIL (R306). -/
def execPacketCrcFail (site : Fin 16) (v : Via) (s : State) : Host.Outcome State Fault Refusal := .next (crcFail s site v)

/-- REPLAY_TIMEOUT (R306): 2 µs on the Canvas, 10 µs on a Veryen link; the oldest start is replayed. -/
def execReplayTimeout (l : Link) (s : State) : Host.Outcome State Fault Refusal :=
  let i := linkIdx l
  let t := if i < 256 then 200 else 1000
  .next (match (getTx s i).unacked.find? fun u => !u.due && decide (u.at_ + t ≤ nowBeat s) with
    | some u => if linkLive s i then replayOne s i u else s
    | none => s)

/-! ## Throttles (R319) -/

/-- The throttles of a site, with `PRT_THROTTLE`. -/
def putThrottles (s : State) (site : Nat) (l : List Throttle) : State :=
  setF { s with throttles := SMap.set s.throttles [] site l } PRT_THROTTLE site 0 l.length

/-- A THROTTLE packet (R319): it sets, renews or lifts the throttle on requests to one destination. -/
def takeThrottle (s : State) (site w : Nat) : State :=
  let node := bitsOf w 13 0
  let dst := bitsOf w 17 14
  let rate := bitsOf w 33 18
  let l := SMap.get s.throttles [] site
  let old := l.find? fun t => t.node == node && t.site == dst
  let rest := l.filter fun t => !(t.node == node && t.site == dst)
  if rate = 0 then putThrottles s site rest
  else
    let tok := match old with
      | some t => min t.tokens (bucketMax rate)
      | none => bucketMax rate
    putThrottles s site (rest ++ [⟨node, dst, rate, tok, s.time.tempoNo + bitsOf w 49 34⟩])

/-- A THROTTLE packet (R319). -/
def execThrottle (a : Arrival) (s : State) : Host.Outcome State Fault Refusal :=
  .next (if a.pkt.op = opTHROTTLE then
    arrive s a fun s _ => (drainSub (takeThrottle s a.site (pktWord a.pkt)) a.pkt.epoch, true)
    else s)

/-- THROTTLE_EXPIRE (R319). -/
def execThrottleExpire (site : Fin 16) (s : State) : Host.Outcome State Fault Refusal :=
  .next (putThrottles s site ((SMap.get s.throttles [] site).filter fun t => decide (s.time.tempoNo < t.expires)))

/-- A NOTICE packet (R363). -/
def execNotice (a : Arrival) (s : State) : Host.Outcome State Fault Refusal :=
  .next (if a.pkt.op = opNOTICE then
    arrive s a fun s _ => match a.via with
      | .veryen _ => (raise (setF s VLK_PEER_RESET a.site 0 (pktWord a.pkt % 2 ^ 48)) cVLK a.site 6, true)
      | .canvas _ _ _ => (s, true)
    else s)

/-! ## Copies -/

/-- COPY_COMPLETE (R181, R339): a core's copy or a table copy, by its number. -/
def execCopyComplete (id : Nat) (s : State) : Host.Outcome State Fault Refusal :=
  .next (match findCopy s id with
    | some r => match r.kind with
      | .moveLoad _ => s
      | _ => copyFinish s id
    | none => s)

/-- MC_TARGET_RETRY (R322), for a target of a multicast packet in progress. -/
def execMcTargetRetry (n t : Nat) (s : State) : Host.Outcome State Fault Refusal := .next (mcRetry s n t)

/-- MC_COMPLETE (R324). -/
def execMcComplete (n : Nat) (s : State) : Host.Outcome State Fault Refusal := .next (mcComplete s n)

/-- SHADOW_UPDATE (R346): the oldest update on its way to a site is applied to its shadow. -/
def execShadowUpdate (site : Fin 16) (s : State) : Host.Outcome State Fault Refusal := .next (deliverShadow s site)

/-! ## Coherence (R209, R210) -/

/-- The line of a coherence packet, where it names one of a stack of this module. -/
def pktLine (s : State) (p : Pkt) : Option Nat :=
  (siteStack (gaSite p.dst)).bind fun k => if isHere s p.dst then some (lineOf k (gaOfs p.dst)) else none

/-- A coherence packet arrives: `act` is given the cluster it names, of the site given, and its line. A misaligned LINE operation
is not performed, and a request among them is answered (R294, R298). -/
def cohRow (a : Arrival) (op : Nat) (atHome : Bool) (s : State) (act : State → Nat → Nat → State) : State :=
  if a.pkt.op = op then
    arrive s a fun s _ =>
      let s := drainSub s a.pkt.epoch
      match cluAt (if atHome then a.pkt.srcSite else a.site) a.pkt.tag, pktLine s a.pkt with
      | some cl, some l =>
        (if atHome ∧ lineHome l ≠ a.site then s
          else if !pktAligned a.pkt then (if op = opLINE_PUT_M then cohComp s cl l 3 a.pkt.epoch .addressInvalid else s)
          else act s cl l, true)
      | _, _ => (s, true)
  else s

/-- A GET at its home, or its refusal (R209, R212, R220). -/
def getRow (a : Arrival) (op : Nat) (s : State) : State :=
  cohRow a op true s fun s cl l =>
    let r : DirReq := ⟨cl, op == opGET_M, a.pkt.epoch⟩
    match homeRefuses s l with
    | some st => dirRefuse s r l st
    | none => dirGet s r l

/-- A GET_S packet (R209). -/
def execGetS (a : Arrival) (s : State) : Host.Outcome State Fault Refusal := .next (getRow a opGET_S s)

/-- A GET_M packet (R209). -/
def execGetM (a : Arrival) (s : State) : Host.Outcome State Fault Refusal := .next (getRow a opGET_M s)

/-- A PUT_E packet (R209). -/
def execPutE (a : Arrival) (s : State) : Host.Outcome State Fault Refusal :=
  .next (cohRow a opPUT_E true s fun s cl l => dirPut s cl l a.pkt.epoch none)

/-- An INVAL packet (R210). -/
def execInval (a : Arrival) (s : State) : Host.Outcome State Fault Refusal :=
  .next (cohRow a opINVAL false s fun s cl l => cacheTold s cl l opINVAL a.pkt.ctr a.pkt.epoch)

/-- A RECALL_S packet (R209, R210). -/
def execRecallS (a : Arrival) (s : State) : Host.Outcome State Fault Refusal :=
  .next (cohRow a opRECALL_S false s fun s cl l => cacheTold s cl l opRECALL_S a.pkt.ctr a.pkt.epoch)

/-- A RECALL_I packet (R209, R210). -/
def execRecallI (a : Arrival) (s : State) : Host.Outcome State Fault Refusal :=
  .next (cohRow a opRECALL_I false s fun s cl l => cacheTold s cl l opRECALL_I a.pkt.ctr a.pkt.epoch)

/-- A COH_ACK packet (R210): a line that has left is answered by its PUT. -/
def execCohAck (a : Arrival) (s : State) : Host.Outcome State Fault Refusal :=
  .next (cohRow a opCOH_ACK true s fun s cl l =>
    if hasBit (pktWord a.pkt) 0 then s
    else dirAck s cl l a.pkt.ctr (match (getDir s l).busy with
      | some (r, _) => !r.excl && (getDir s l).state == 2
      | none => false))

/-- A GRANT_M packet (R209). -/
def execGrantM (a : Arrival) (s : State) : Host.Outcome State Fault Refusal :=
  .next (cohRow a opGRANT_M false s fun s cl l => cacheGranted s cl l 3 a.pkt.ctr none a.pkt.status)

/-- A LINE_GRANT packet (R209, R294). -/
def execLineGrant (a : Arrival) (s : State) : Host.Outcome State Fault Refusal :=
  .next (cohRow a opLINE_GRANT false s fun s cl l =>
    cacheGranted s cl l (max 1 (a.pkt.complete % 4)) a.pkt.ctr (some (a.pkt.payload.take 128)) a.pkt.status)

/-- A LINE_PUT_M packet (R209): written to DRAM, unless the home cannot, which it answers (R212, R244). -/
def execLinePutM (a : Arrival) (s : State) : Host.Outcome State Fault Refusal :=
  .next (cohRow a opLINE_PUT_M true s fun s cl l =>
    match homeRefuses s l with
    | some st => cohComp s cl l 3 a.pkt.epoch st
    | none => dirPut s cl l a.pkt.epoch (some (a.pkt.payload.take 128)))

/-- A LINE_RETURN packet (R209): the recalled owner's line at its home. -/
def execLineReturn (a : Arrival) (s : State) : Host.Outcome State Fault Refusal :=
  .next (cohRow a opLINE_RETURN true s fun s cl l =>
    match (getDir s l).busy with
    | some (r, need) =>
      if hasBit need cl ∧ (getDir s l).txn = a.pkt.ctr then
        dirAck (dramPutLine s l (a.pkt.payload.take 128)) cl l a.pkt.ctr (!r.excl)
      else s
    | none => s)

/-- WRITEBACK_RETRY (R212): a pinned line's writeback is sent again. -/
def execWritebackRetry (cl : Fin 32) (line : Nat) (s : State) : Host.Outcome State Fault Refusal :=
  .next (writebackAgain s cl line)

end Sys2Proof.Machine
end

