-- ==== Sys2Proof/Machine/LoadStore.lean ====
section
/-! DEFINITION. Machine/LoadStore.lean: local loads and stores (R179). -/

namespace Sys2Proof.Machine

/-- The access size of FN [1:0], in bytes (R179). -/
def fnSize (fn : Nat) : Nat := 2 ^ (fn % 4)

/-- FN of a load or store: bits [6:3] select no operation (log entry 17, DEDUCED), and bit [2] must be 0 for a store
(R160, R179). -/
def memFn (store : Bool) (fn : Nat) (unusedZero : Bool) : Option Nat :=
  if 8 ≤ fn then some fcIllegal
  else if (store && decide (4 ≤ fn)) || !unusedZero then some fcReserved
  else none

/-- LD (R179). -/
def execLd (c : Fin 1280) (fn : Fin 128) (f : FmtA) (e : Ecc) (s : State) : Host.Outcome State Fault Refusal :=
  let s0 := s
  .next (dispatch s c [f.a, f.d] (memFn false fn (f.b.val == 0 && f.rsv == 0)) fun s pc =>
    let a := add64 ((getCore s c).s f.a) (imm64 f.imm)
    let n := fnSize fn
    if a % n ≠ 0 then faultCore s c fcMisaligned uScalar 0 pc
    else (readAccess s c a n uScalar pc e fun s =>
      let v := loadLocal s c a n
      let v := if 4 ≤ fn.val then ofSigned 64 (toSigned (8 * n) v) else v
      some (retire (modCore s c fun k => k.setS f.d v) c 1)).getD s0)

/-- ST (R179). -/
def execSt (c : Fin 1280) (fn : Fin 128) (f : Met FmtA Ecc) (s : State) : Host.Outcome State Fault Refusal :=
  let s0 := s
  let e := f.found
  let f := f.word
  .next (dispatch s c [f.a, f.b] (memFn true fn (f.d.val == 0 && f.rsv == 0)) fun s pc =>
    let k := getCore s c
    let a := add64 (k.s f.a) (imm64 f.imm)
    let n := fnSize fn
    if a % n ≠ 0 then faultCore s c fcMisaligned uScalar 0 pc
    else (storeAccess s c a (bytesLE n (k.s f.b)) uScalar pc e fun s => some (retire s c 1)).getD s0)

end Sys2Proof.Machine
end

