-- ==== Sys2Proof/Machine/SyncFabric.lean ====
section
/-! DEFINITION. Machine/SyncFabric.lean: the instructions of the sync and fabric queue and of the DMA queue, FENCE, MWAIT
and HALT (R139, R168, R180 to R188, R206, R333, R346). -/

namespace Sys2Proof.Machine

/-! ## The queue (R132, R184) -/

/-- A GLD or GST performed at the core's own site, as inbound traffic, without a packet (R333). -/
def ownSite (s : State) (site : Nat) (p : Pkt) (i : Issuer) : State :=
  match performReq s site none (stampPkt s site p) .clean with
  | .ok s st v => finish s i st v
  | .wait => inject s site p i

/-- A core's access to a global address: through the cluster's cache, at its own site, or by a packet (R206, R333). -/
def globalAccess (s : State) (c : Nat) (op : FabOp) (a : Nat) (store : Bool) (p : Pkt) (i : Issuer) : State :=
  match siteStack (gaSite a) with
  | some k =>
    if isHere s a ∧ cacheOn s (corClu c) then cacheAccess s c op (lineOf k (gaOfs a)) store
    else inject s (corSite c) p i
  | none => if isHere s a ∧ gaSite a = corSite c then ownSite s (corSite c) p i else inject s (corSite c) p i

/-- The log of 2 of an access size, as CTR carries it (R297). -/
def sizeCode (n : Nat) : Nat := Nat.log2 n

/-- A sync request of a site for an object (R335). -/
def syncPkt (s : State) (op obj v : Nat) : Pkt := ctrlPkt op (gaHere s (syncSite obj) 0) obj v

/-- A wait begins (R184, R346): with a subscription when the object is held at another site, or by polling. -/
def startWait (s : State) (c d obj v limit : Nat) : State :=
  let site := corSite c
  let set := fun (s : State) (poll : Bool) =>
    modCore s c fun k => { k with wait := some ⟨d, obj, v, if limit = 0 then none else some limit, poll, none⟩ }
  if syncSite obj = site then set s false
  else match subscribe s site obj false with
    | (s, _, true) => set s false
    | (s, _, false) => set (bumpF s PRT_SHADOW_POLLS site 0 1) true

/-- An instruction of the queue issues. -/
def issueFab (s : State) (c : Nat) (op : FabOp) : State :=
  let site := corSite c
  let s' := modCore s c fun k => { k with outstanding := k.outstanding + 1 }
  match op with
  | .load d size sext a => globalAccess s' c op a false (ctrlPkt opLOAD a (sizeCode size) 0) (.coreLoad c d size sext)
  | .store size a v => globalAccess s' c op a true (ctrlPkt opSTORE a (sizeCode size) v) (.coreStore c)
  | .atom fn d a v cmp =>
    if fn = 4 then
      inject s' site { dataPkt opATOMIC_CAS a (bytesLE 8 cmp ++ bytesLE 8 v ++ bytesLE 48 0) with cmpReq := true }
        (.coreAtom c d 64)
    else inject s' site (ctrlPkt opATOMIC a fn v) (.coreAtom c d (8 * atomSize fn))
  | .sadd obj v => inject s' site (syncPkt s opSYNC_ADD obj v) (.coreSync c none)
  | .sset obj v => inject s' site (syncPkt s opSYNC_SET obj v) (.coreSync c none)
  | .sread d obj => inject s' site (syncPkt s opSYNC_READ obj 0) (.coreSync c (some d))
  | .swait d obj v limit => startWait s c d obj v limit

/-- Is the address of a GLD, GST or ATOM misaligned (R182, R185). -/
def fabMisaligned : FabOp → Bool
  | .load _ size _ a => a % size != 0
  | .store size a _ => a % size != 0
  | .atom fn _ a _ _ => a % atomSize fn != 0
  | _ => false

/-- The instructions at the head of the queue issue until one is a wait in progress (R184), at most `n` of them; a misaligned
address faults there, and nothing is sent (R182, R185). -/
def pumpFabN (s : State) (c : Nat) : Nat → State
  | 0 => s
  | n + 1 =>
    let k := getCore s c
    match k.wait, k.fabQ with
    | none, x :: rest =>
      if fabMisaligned x.op then faultCore s c fcMisaligned uFabric 0 x.pc
      else pumpFabN (issueFab (modCore s c fun k => { k with fabQ := rest }) c x.op) c n
    | _, _ => s

/-- The queue holds 8 (R132). -/
def pumpFab (s : State) (c : Nat) : State := pumpFabN s c fabQMax

/-- Is the queue full: the instruction stalls the stream (R133). -/
def fabFull (s : State) (c : Nat) : Bool := decide (fabQMax ≤ (getCore s c).fabQ.length)

/-- An instruction of the queue dispatches: its register waits for it (R188), and it issues in its turn. -/
def enqueueFab (s : State) (c pc : Nat) (op : FabOp) : State :=
  let s := modCore s c fun k => { k with
    fabQ := k.fabQ ++ [⟨op, pc⟩]
    busy := match op.dest with
      | some d => if d = 0 then k.busy else k.busy ++ [d]
      | none => k.busy }
  pumpFab s c

/-- Dispatch of an instruction bound for the sync and fabric queue: it stalls while the queue is full (R133). -/
def dispatchFab (s : State) (c : Nat) (uses : List Nat) (check : Option Nat) (act : State → Nat → State) : State :=
  if check.isNone && fabFull s c then s else dispatch s c uses check act

/-! ## Global loads, stores and atomics (R182, R185) -/

/-- GLD (R182). -/
def execGld (c : Fin 1280) (fn : Fin 128) (f : FmtA) (s : State) : Host.Outcome State Fault Refusal :=
  .next (dispatchFab s c [f.a, f.d] (memFn false fn (f.b.val == 0 && f.rsv == 0)) fun s pc =>
    enqueueFab s c pc (.load f.d (fnSize fn) (decide (4 ≤ fn.val)) (add64 ((getCore s c).s f.a) (imm64 f.imm))))

/-- GST (R182). -/
def execGst (c : Fin 1280) (fn : Fin 128) (f : FmtA) (s : State) : Host.Outcome State Fault Refusal :=
  .next (dispatchFab s c [f.a, f.b] (memFn true fn (f.d.val == 0 && f.rsv == 0)) fun s pc =>
    let k := getCore s c
    enqueueFab s c pc (.store (fnSize fn) (add64 (k.s f.a) (imm64 f.imm)) (k.s f.b % 2 ^ (8 * fnSize fn))))

/-- ATOM with an operation (R185). The old value of D is the compare value of CAS64. -/
def atomRow (c : Nat) (fn : Nat) (f : FmtA) (s : State) : State :=
  dispatchFab s c [f.a, f.b, f.d] (resv (f.rsv == 0)) fun s pc =>
    let k := getCore s c
    enqueueFab s c pc (.atom fn f.d (add64 (k.s f.a) (imm64 f.imm)) (k.s f.b) (k.s f.d))

/-- ATOM ADD64 (R185). -/
def execAtomAdd64 (c : Fin 1280) (f : FmtA) (s : State) : Host.Outcome State Fault Refusal := .next (atomRow c 0 f s)
/-- ATOM ADD32 (R185). -/
def execAtomAdd32 (c : Fin 1280) (f : FmtA) (s : State) : Host.Outcome State Fault Refusal := .next (atomRow c 1 f s)
/-- ATOM FADD32 (R185). -/
def execAtomFadd32 (c : Fin 1280) (f : FmtA) (s : State) : Host.Outcome State Fault Refusal := .next (atomRow c 2 f s)
/-- ATOM SWAP64 (R185). -/
def execAtomSwap64 (c : Fin 1280) (f : FmtA) (s : State) : Host.Outcome State Fault Refusal := .next (atomRow c 3 f s)
/-- ATOM CAS64 (R185). -/
def execAtomCas64 (c : Fin 1280) (f : FmtA) (s : State) : Host.Outcome State Fault Refusal := .next (atomRow c 4 f s)
/-- ATOM AND64 (R185). -/
def execAtomAnd64 (c : Fin 1280) (f : FmtA) (s : State) : Host.Outcome State Fault Refusal := .next (atomRow c 5 f s)
/-- ATOM OR64 (R185). -/
def execAtomOr64 (c : Fin 1280) (f : FmtA) (s : State) : Host.Outcome State Fault Refusal := .next (atomRow c 6 f s)
/-- ATOM XOR64 (R185). -/
def execAtomXor64 (c : Fin 1280) (f : FmtA) (s : State) : Host.Outcome State Fault Refusal := .next (atomRow c 7 f s)
/-- ATOM MIN64 (R185). -/
def execAtomMin64 (c : Fin 1280) (f : FmtA) (s : State) : Host.Outcome State Fault Refusal := .next (atomRow c 8 f s)
/-- ATOM MAX64 (R185). -/
def execAtomMax64 (c : Fin 1280) (f : FmtA) (s : State) : Host.Outcome State Fault Refusal := .next (atomRow c 9 f s)
/-- ATOM MINU64 (R185). -/
def execAtomMinu64 (c : Fin 1280) (f : FmtA) (s : State) : Host.Outcome State Fault Refusal := .next (atomRow c 10 f s)
/-- ATOM MAXU64 (R185). -/
def execAtomMaxu64 (c : Fin 1280) (f : FmtA) (s : State) : Host.Outcome State Fault Refusal := .next (atomRow c 11 f s)

/-! ## Sync objects (R183, R184) -/

/-- The object that a SYNC names: (sA + IMM) [15:0]; IMM [31:16] must be 0. -/
def syncObj (k : Core) (f : FmtA) : Nat := (k.s f.a + f.imm.toNat) % 65536
def syncCheck (f : FmtA) (unused : Bool) : Option Nat :=
  resv (unused && f.rsv == 0 && decide (f.imm.toNat < 65536))

/-- SYNC SADD (R183). -/
def execSadd (c : Fin 1280) (f : FmtA) (s : State) : Host.Outcome State Fault Refusal :=
  .next (dispatchFab s c [f.a, f.b] (syncCheck f (f.d.val == 0)) fun s pc =>
    let k := getCore s c
    enqueueFab s c pc (.sadd (syncObj k f) (k.s f.b)))

/-- SYNC SSET (R183). -/
def execSset (c : Fin 1280) (f : FmtA) (s : State) : Host.Outcome State Fault Refusal :=
  .next (dispatchFab s c [f.a, f.b] (syncCheck f (f.d.val == 0)) fun s pc =>
    let k := getCore s c
    enqueueFab s c pc (.sset (syncObj k f) (k.s f.b % 2 ^ 48)))

/-- SYNC SREAD (R183). -/
def execSread (c : Fin 1280) (f : FmtA) (s : State) : Host.Outcome State Fault Refusal :=
  .next (dispatchFab s c [f.a, f.d] (syncCheck f (f.b.val == 0)) fun s pc =>
    enqueueFab s c pc (.sread f.d (syncObj (getCore s c) f)))

/-- SWAIT (R184): FN, which it does not use, must be 0 (R159, R160); the timeout counts tempo boundaries from dispatch. -/
def execSwait (c : Fin 1280) (fn : Fin 128) (f : FmtA) (s : State) : Host.Outcome State Fault Refusal :=
  .next (dispatchFab s c [f.a, f.b, f.d]
    (resv (fn.val == 0 && f.rsv == 0)) fun s pc =>
    let k := getCore s c
    let n := f.imm.toNat / 65536
    enqueueFab s c pc
      (.swait f.d ((k.s f.a + f.imm.toNat % 65536) % 65536) (k.s f.b % 2 ^ 48) (if n = 0 then 0 else s.time.tempoNo + n)))

/-- Is the condition of a core's wait met, as its site sees the object (R78, R184, R346). -/
def waitMet (s : State) (c : Nat) (w : WaitRec) : Bool :=
  if w.polling then (match w.polled with
    | some v => reached v w.val
    | none => false)
  else reached (seenAt s (corSite c) w.obj) w.val

/-- SWAIT_COMPLETE (R184): OK when the condition is met, else the state of the object's site. -/
def execSwaitComplete (c : Fin 1280) (s : State) : Host.Outcome State Fault Refusal :=
  .next (match (getCore s c).wait with
    | none => s
    | some w =>
      if waitMet s c w then pumpFab (closeWait s c .ok) c
      else if siteFenced s (syncSite w.obj) then pumpFab (closeWait s c .fenced) c
      else if siteResetting s (syncSite w.obj) then pumpFab (closeWait s c .targetResetting) c
      else s)

/-- SWAIT_TIMEOUT (R184): at the boundary at which the timeout falls due; a condition met in the same clock wins. -/
def execSwaitTimeout (c : Fin 1280) (s : State) : Host.Outcome State Fault Refusal :=
  .next (match (getCore s c).wait with
    | none => s
    | some w => match w.deadline with
      | none => s
      | some t =>
        if t ≤ s.time.tempoNo then
          pumpFab (closeWait s c (if waitMet s c w then .ok else .failedTimeout)) c
        else s)

/-- SWAIT_POLL (R346): a wait without a shadow reads its object. -/
def execSwaitPoll (c : Fin 1280) (s : State) : Host.Outcome State Fault Refusal :=
  .next (match (getCore s c).wait with
    | none => s
    | some w =>
      if w.polling then inject s (corSite c) (syncPkt s opSYNC_READ w.obj 0) (.corePoll c) else s)

/-! ## DCOPY (R180) -/

/-- The copy that a DCOPY asks for, with local addresses made global (R180, R330). -/
def dcopyReq (s : State) (c : Nat) (f : FmtM) : CopyReq :=
  let k := getCore s c
  ⟨if f.dg then k.s f.a else gaOfLocal s c (k.s f.a), if f.sg then k.s f.b else gaOfLocal s c (k.s f.b),
    k.s f.c / 64, f.pkt, f.arrEn, f.cmpEn, f.arrive, f.complete, !f.dg, !f.sg⟩

/-- DCOPY (R180): it stalls while the DMA queue is full (R133). With its word comes what the code finds in a local source, at one
of its bytes. -/
def execDcopy (c : Fin 1280) (f : Met FmtM EccAt) (s : State) : Host.Outcome State Fault Refusal :=
  let e := f.found
  let f := f.word
  .next (if f.rsv == 0 && decide (dmaQMax ≤ (getCore s c).dmaQ.length) then s
    else dispatch s c [f.a, f.b, f.c] (resv (f.rsv == 0)) fun s pc =>
      let q := dcopyReq s c f
      dmaPump (modCore s c fun k => { k with dmaQ := k.dmaQ ++ [⟨q, k.s f.a, k.s f.b, k.s f.c, e.ecc, e.place, pc⟩] }) c)

/-! ## FENCE, MWAIT, HALT (R139, R168, R186, R187) -/

/-- FENCE (R186): with IMM 0 a NOP; else dispatch stops until every condition is met. -/
def execFence (c : Fin 1280) (fn : Fin 128) (f : FmtA) (s : State) : Host.Outcome State Fault Refusal :=
  .next (dispatch s c []
    (resv (f.d.val == 0 && f.a.val == 0 && f.b.val == 0 && fn.val == 0 && f.rsv == 0 && decide (f.imm.toNat < 64)))
    fun s _ =>
      if f.imm = 0 then retire s c 1 else modCore s c fun k => { k with fence := some f.imm.toNat })

/-- Is an instruction of the queue one that a FENCE with FABRIC waits for: GLD, GST, ATOM or SYNC (R186). -/
def fencedOp : FabOp → Bool
  | .swait _ _ _ _ => false
  | _ => true

/-- Are the conditions of a fence met (R186). Local loads and stores are done at dispatch. -/
def fenceMet (k : Core) (m : Nat) : Bool :=
  (!hasBit m 1 || (k.tiles == [] && k.engQ == [])) && (!hasBit m 2 || k.vecQ == []) && (!hasBit m 3 || (k.dmaQ == [] && k.dmaLive == 0)) &&
  (!hasBit m 4 || (k.outstanding == 0 && !k.fabQ.any fun x => fencedOp x.op))

/-- FENCE_DONE (R186): dispatch resumes, after the instruction buffer is invalidated if IBUF is set. -/
def execFenceDone (c : Fin 1280) (s : State) : Host.Outcome State Fault Refusal :=
  let k := getCore s c
  .next (match k.fence with
    | none => s
    | some m =>
      if fenceMet k m then
        retire (modCore s c fun k => { k with fence := none, ibuf := k.ibuf && !hasBit m 5 }) c 1
      else s)

/-- MWAIT (R139, R187): the wake-pending bit is consumed, or the core enters MOVE_WAIT, where a pending `PWR_REQ` applies
(R138). -/
def execMwait (c : Fin 1280) (fn : Fin 128) (f : FmtA) (s : State) : Host.Outcome State Fault Refusal :=
  .next (dispatch s c []
    (resv (f.d.val == 0 && f.a.val == 0 && f.b.val == 0 && fn.val == 0 && f.rsv == 0 && f.imm == 0)) fun s _ =>
    let s := retire s c 1
    if getF s COR_STAT_WAKE_PEND c 0 = 1 then setF s COR_STAT_WAKE_PEND c 0 0
    else settle (setCoreState s c csMoveWait) c)

/-- Have the unit queues of the core run empty (R138): nothing queued, no tile, no fabric item outstanding. -/
def queuesEmpty (k : Core) : Bool :=
  k.tiles == [] && k.engQ == [] && k.vecQ == [] && k.fabQ == [] && k.wait.isNone && k.dmaQ == [] && k.outstanding == 0

/-- Dispatch stops for a HALT (R138, R168, R184): a pending SWAIT ends CANCELLED, each SWAIT queued behind it does in its
turn, and the core becomes HALTED once its queues are empty. -/
def haltCore (s : State) (c : Nat) : State :=
  let s := modCore s c fun k => { k with halting := true, fence := none }
  (List.range (fabQMax + 1)).foldl (fun s _ => pumpFab (closeWait s c .cancelled) c) s

/-- HALT (R168). -/
def execHalt (c : Fin 1280) (fn : Fin 128) (f : FmtA) (s : State) : Host.Outcome State Fault Refusal :=
  .next (dispatch s c []
    (resv (f.d.val == 0 && f.a.val == 0 && f.b.val == 0 && fn.val == 0 && f.rsv == 0 && f.imm == 0))
    fun s _ => haltCore (retire s c 1) c)

/-- CORE_HALTED (R138, R168): the unit queues have run empty; a `PWR_REQ` that waited applies. -/
def execCoreHalted (c : Fin 1280) (s : State) : Host.Outcome State Fault Refusal :=
  .next (if (getCore s c).halting && queuesEmpty (getCore s c) && coreState s c == csRunning then
    settle (raise (setCoreState (modCore s c fun k => { k with halting := false }) c csHalted) cCOR c 1) c
    else s)

end Sys2Proof.Machine
end

