-- ==== Sys2Proof/Machine/Absorb.lean ====
section
/-! DEFINITION. Machine/Absorb.lean: items that a reset, a stop or a failure absorbs (R419, R420, R460). -/

namespace Sys2Proof.Machine

/-- The status of an absorbed item (R420). -/
def absorbStatus (left : Bool) (p : Pkt) : Status := if left ∧ unknownFate p then .indeterminate else .cancelled

/-- An absorbed item is reported, with its tag and address (R420, R518). -/
def reportAbsorbed (s : State) (site : Nat) (i : Issuer) (p : Pkt) (st : Status) : State :=
  logItem s site i 3 st p.dst p.tag

/-- An absorbed item of a core that holds no tag is reported, CANCELLED, with its address (R420, R570). -/
def reportCancelled (s : State) (c addr : Nat) : State := logItem s (corSite c) (.coreStore c) 3 .cancelled addr 0

/-- A request that holds a tag is absorbed. -/
def absorbTag (s : State) (site : Nat) (t : TagRec) : State :=
  let st := absorbStatus t.left t.pkt
  let s := (unqueue s site (t.gen * 4096 + t.slot)).1
  finish (freeTag (reportAbsorbed s site t.issuer t.pkt st) site t.slot) t.issuer st 0

/-- A copy is absorbed: packets not yet sent end CANCELLED, and sent ones as R420 says; its COMPLETE object advances
once. -/
def absorbCopy (s : State) (id : Nat) : State :=
  match findCopy s id with
  | none => s
  | some r =>
    let u := unqueue s r.site r.tag
    let p : Pkt := { ctrlPkt opREAD_REQ r.req.dst r.req.arrive 0 with arrEn := r.req.arrEn, tag := r.tag }
    let one := fun (s : State) (st : Status) => copyAnswer (reportAbsorbed s r.site (.copy id) p st) id st
    let n := min u.2 r.waiting
    let s := forAll (List.range n) u.1 fun s _ => one s .cancelled
    let s := forAll (List.range (r.waiting - n)) s fun s _ => one s (absorbStatus true p)
    let s := { s with mcs := s.mcs.filter fun m => m.copyId != id }
    match findCopy s id with
    | some r => copyEnd s r
    | none => s

/-- The items of a site that the tests name are absorbed: copies, requests with a tag, requests that wait for one. -/
def absorbWhere (s : State) (site : Nat) (p : Issuer → Bool) (pc : CopyRec → Bool) : State :=
  let s := forAll (s.copies.filter fun r => r.site == site && pc r) s fun s r => absorbCopy s r.id
  let isCopy := fun (i : Issuer) => match i with
    | .copy _ => true
    | _ => false
  let ts := s.tags.filter fun e => e.1 / 4096 == site && !isCopy e.2.issuer && p e.2.issuer
  let s := forAll ts s fun s e => absorbTag s site e.2
  let ws := s.tagWait.filter fun w => w.1 == site && p w.2.2
  forAll ws { s with tagWait := s.tagWait.filter fun w => !(w.1 == site && p w.2.2) } fun s w =>
    finish (reportAbsorbed s site w.2.2 w.2.1 .cancelled) w.2.2 .cancelled 0

/-- Does a core wait for the answer. -/
def issuedBy (c : Nat) : Issuer → Bool
  | .coreLoad x _ _ _ => x == c
  | .coreStore x => x == c
  | .coreAtom x _ _ => x == c
  | .coreSync x _ => x == c
  | .corePoll x => x == c
  | _ => false

/-- A core's accesses that wait for a line are absorbed. -/
def absorbFills (s : State) (c : Nat) : State :=
  let ops := s.fills.flatMap fun w => w.ops.filter fun o => o.1 == c
  let s := { s with fills := (s.fills.map fun w => { w with ops := w.ops.filter fun o => o.1 != c }).filter fun w =>
    w.sent || w.ops != [] }
  forAll ops s fun s o => opFail (reportCancelled s c (opAddr o.2)) c o.2 .cancelled

/-- A core's SWAIT that is still open is absorbed: reported with its object's address, and CANCELLED (R419, R420). -/
def absorbWait (s : State) (c : Nat) : State :=
  match (getCore s c).wait with
  | none => s
  | some w => closeWait (reportCancelled s c (syncPkt s opSYNC_READ w.obj 0).dst) c .cancelled

/-- Every item of a core still open is absorbed (R419, R420). -/
def absorbCore (s : State) (c : Nat) : State :=
  let s := absorbWhere s (corSite c) (issuedBy c) fun r => match r.kind with
    | .dcopy x _ => x == c
    | _ => false
  absorbWait (absorbFills s c) c

end Sys2Proof.Machine
end

