-- ==== Sys2Proof/Machine/TileInstr.lean ====
section
/-! DEFINITION. Machine/TileInstr.lean: the tile instructions, codebook loads and the end of a tile (R123 to R131, R169 to
R176). A tile does its array work when it reaches its engine; what it writes to the scratchpad, its flags and its
retirement follow at TILE_COMPLETE. -/

namespace Sys2Proof.Machine

/-- The unit number of an engine in `COR_FAULT.UNIT`. -/
def uEngine (e : Nat) : Nat := e + 1

/-- Does a tile that has entered an engine of the mask still have output to write in the ranges (R127). -/
def outTouches (k : Core) (m : Nat) (rs : List (Nat × Nat)) : Bool :=
  k.tiles.any fun t => hasBit m t.eng && t.out.any fun o => rs.any fun r => decide (r.1 ≤ o.1) && decide (o.1 < r.1 + r.2)

/-- The first answer that is not `served` among the scratchpad banks of the range `[a, a + n)` (R194). -/
def rangeGrant (s : State) (c a n : Nat) : Grant × Option Bank :=
  (List.range 8).foldl (fun (g : Grant × Option Bank) i =>
    if g.1 == .served && decide (a < (i + 1) * 2 ^ 17) && decide (i * 2 ^ 17 < a + n) then
      (coreGrant s ⟨false, c, i⟩ c, some ⟨false, c, i⟩)
    else g) (.served, none)

/-- The first local address in the range, of a word that an engine reads, with an error that cannot be corrected. -/
def rangeUe (s : State) (c a n : Nat) : Option Nat :=
  ((List.range ((a % 8 + n + 7) / 8)).map fun i => max a (a / 8 * 8 + 8 * i)).find? fun x => isUe s (localPhys s c x)

/-- Accesses of an engine to several ranges of the scratchpad: performed, a fault of the engine, or none while a handover
drains. -/
def engineAccess (s : State) (c e pc : Nat) (rs : List (Nat × Nat)) (act : State → Option State) : Option State :=
  match (rs.map fun r => rangeGrant s c r.1 r.2).find? fun g => g.1 != .served with
  | some (.wait, _) => none
  | some (.refused r, b) => some (faultCore (denyCore s c b r) c fcBankOwner (uEngine e) 0 pc)
  | some (_, _) => some (faultCore s c fcLocal (uEngine e) 0 pc)
  | none => act s

/-- An engine reads ranges of the scratchpad (R191): an uncorrectable word in them faults the core and is reported. -/
def engineRead (s : State) (c e pc : Nat) (rs : List (Nat × Nat)) (act : State → Option State) : Option State :=
  match rs.findSome? fun r => rangeUe s c r.1 r.2 with
  | some a => some (faultCore (coreUe s c a) c fcDataUe (uEngine e) 0 pc)
  | none => act s

/-! ## Codebook loads (R129, R175) -/

/-- A codebook record is written to the slot of every engine of the mask: a record that passes its checks makes the slot valid,
one that fails leaves it invalid. -/
def cbStore (k : Core) (slot emask rec_ : Nat) : Core :=
  (List.range 4).foldl (fun k e =>
    if hasBit emask e then
      let i := e * 64 + slot
      if cbValid rec_ then { k with cb := SMap.set k.cb 0 i rec_, cbValid := setBit k.cbValid i }
      else { k with cbValid := clearBit k.cbValid i }
    else k) k

/-- The engines in whose queues an instruction stands. -/
def EngOp.mask : EngOp → Nat
  | .tmma f _ _ _ _ _ _ _ => 2 ^ f.eng.val
  | .tdrain f _ _ => 2 ^ f.eng.val
  | .tcbld _ m _ => m

/-- How many instructions an engine's queue holds (R132). -/
def engineQueue (k : Core) (e : Nat) : Nat :=
  (k.tiles.filter fun t => t.eng == e).length + (k.engQ.filter fun x => hasBit x.op.mask e).length

/-- Is the queue of an engine of the mask full, so that dispatch stalls (R133, R175). -/
def engFull (k : Core) (m : Nat) : Bool := (List.range 4).any fun e => hasBit m e && decide (tileQMax ≤ engineQueue k e)

/-- The codebook load that has come to the head of the queues of all its engines, if there is one (R129, R133). -/
def cbHead : List EngEntry → Nat → Option EngEntry
  | [], _ => none
  | x :: xs, m =>
    match x.op with
    | .tcbld _ n _ => if n &&& m = 0 then some x else cbHead xs (m ||| n)
    | op => cbHead xs (m ||| op.mask)

/-- A codebook load at the head of its queues is checked by its engines (R175); one that passes waits for its write. -/
def tcbldCheck (s : State) (c pc m addr : Nat) : Option State :=
  let u := uEngine ((lowestBit 4 m).getD 0)
  match (List.range 4).find? fun e => hasBit m e && hasBit (getF s COR_ENG_STAT_FAILED c 0) e with
  | some e => some (faultCore s c fcEngineFailed (uEngine e) 0 pc)
  | none =>
    if 0x100000 ≤ addr then some (faultCore s c fcLocal u 0 pc)
    else if addr % 32 ≠ 0 then some (faultCore s c fcMisaligned u 0 pc)
    else none

/-! ## The checks of R173 -/

/-- A tile with its addresses shifted (R171): formats, inputs, output address, and the shift of A. -/
structure TileReq where
  d : Desc
  fO : Option Fmt
  t : TileIn
  out : Nat
  aofs : Nat
  bofs : Nat
  deriving DecidableEq, Repr

/-- An address shifted by an offset divided by the element bytes per block (R171). -/
def shiftScale (base ofs blk : Nat) : Nat :=
  ofSigned 64 ((base : Int) + toSigned 64 ofs / (blk : Int))

/-- The request of a TMMA (R169 to R172). -/
def tileReq (d : Desc) (fA fB : Fmt) (aofs bofs oofs slot grp : Nat) : TileReq :=
  ⟨d, fmtOf d.fmtO,
    ⟨fA, fB, add64 d.aElem aofs, shiftScale d.aScale aofs fA.blockBytes, add64 d.bElem bofs,
      shiftScale d.bScale bofs fB.blockBytes, d.bStride, d.bsStride, d.kg, d.n, slot, grp⟩,
    add64 d.out oofs, aofs, bofs⟩

/-- The scratchpad ranges a tile reads. -/
def tileReads (q : TileReq) : List (Nat × Nat) :=
  let t := q.t
  [(t.aElem, t.kg * 16 * t.fA.blockBytes)] ++ (if t.fA.scaled then [(t.aScale, t.kg * 16)] else []) ++
  (List.range t.n).flatMap fun j =>
    [(t.bElem + j * t.bStride, t.kg * t.fB.blockBytes)] ++
    (if t.fB.scaled then [(t.bScale + j * t.bsStride, t.kg)] else [])

/-- The scratchpad ranges a drain writes. -/
def drainWrites (d : Desc) (o : Fmt) (out : Nat) : List (Nat × Nat) :=
  (List.range d.n).map fun j => (out + j * d.oStride, outBytes o)

/-- Does a range lie in the core's scratchpad. -/
def inScratch (r : Nat × Nat) : Bool := decide (r.1 + r.2 ≤ 0x100000)

/-- A whole number of units, as a signed offset. -/
def wholeOf (ofs unit : Nat) : Bool := toSigned 64 ofs % (unit : Int) == 0

/-- The codebook slots a palette tile touches, from the first, all of which must be valid and of its format (R107, R130,
R172): `n` blocks are still to be covered from offset `ofs` of slot `slot`. -/
def slotsOk (valid : Nat → Bool) (rec_ : Nat → Nat) (ib : Nat) : Nat → Nat → Nat → Nat → Bool
  | 0, _, _, n => n == 0
  | fuel + 1, slot, ofs, n =>
    if n = 0 then true
    else if valid slot && cbIbits (rec_ slot) == some ib then
      slotsOk valid rec_ ib fuel ((slot + 1) % 64) 0 (n - (cbBlocks (rec_ slot) - ofs))
    else false

/-- The palette index width of a format. -/
def palBits : Fmt → Option Nat
  | .pal n => some n
  | _ => none

/-- The codebook record and validity of a slot of an engine. -/
def cbRec (k : Core) (e i : Nat) : Nat := SMap.get k.cb 0 (e * 64 + i)
def cbIsValid (k : Core) (e i : Nat) : Bool := hasBit k.cbValid (e * 64 + i)

/-- The output address rule of R173, for a drain. -/
def outMisaligned (d : Desc) (o : Fmt) (out : Nat) : Bool :=
  (List.range d.n).any fun j => (out + j * d.oStride) % outBytes o != 0

/-- The first breach of R173, in the order of its table (log entry 23, DEDUCED); the range of the output counts when the tile
drains. -/
def tileBreach (s : State) (c e bank : Nat) (acc drn : Bool) (q : TileReq) (o : Fmt) : Option Nat :=
  let k := getCore s c
  let t := q.t
  let ranges := tileReads q ++ (if drn then drainWrites q.d o q.out else [])
  if !ranges.all inScratch then some fcLocal
  else if t.aElem % 64 != 0 || (t.fA.scaled && t.aScale % 64 != 0) || t.bElem % 64 != 0 ||
      (t.fB.scaled && t.bScale % 64 != 0) || !wholeOf q.aofs (16 * t.fA.blockBytes) ||
      !wholeOf q.bofs t.fB.blockBytes || outMisaligned q.d o q.out then some fcMisaligned
  else if (acc && !hasBit k.accValid (e * 2 + bank)) ||
      (t.fA.isPal && cbIsValid k e t.slot && decide (cbBlocks (cbRec k e t.slot) ≤ t.grp)) then some fcOperand
  else if (match palBits t.fA with
      | some ib => !slotsOk (cbIsValid k e) (cbRec k e) ib (16 * t.kg + 1) t.slot t.grp (16 * t.kg)
      | none => false) then some fcCbAbsent
  else if hasBit (getF s COR_ENG_STAT_FAILED c 0) e then some fcEngineFailed
  else none

/-! ## The array -/

/-- The index of a value in the accumulators. -/
def accIdx (e bank j r : Nat) : Nat := (e * 2 + bank) * 1024 + j * 16 + r

/-- The values of an output tile, column by column (R110, R111). The zero that a bank starts from with ACC = 0 counts as a term
of the sum (R112; log entry 130, DESIGN CHOICE). -/
def tileValues (rd : Nat → Byte) (k : Core) (e bank : Nat) (acc : Bool) (t : TileIn) : List (Nat × Nat × Res) :=
  (List.range t.n).flatMap fun j => (List.range 16).map fun r =>
    let a := if acc then SMap.get k.acc 0 (accIdx e bank j r) else 0
    (j, r, tileCell rd (cbRec k e) t r j a)

/-- The bank after a tile: from zero with ACC = 0 (R172). -/
def accAfter (k : Core) (e bank : Nat) (acc isInt : Bool) (vs : List (Nat × Nat × Res)) : Core :=
  let b := e * 2 + bank
  let m := if acc then k.acc else k.acc.filter fun x => x.1 / 1024 != b
  let m := vs.foldl (fun m v => SMap.set m 0 (accIdx e bank v.1 v.2.1) v.2.2.code) m
  { k with
    acc := m
    accValid := if acc then k.accValid else setBit k.accValid b
    accInt := if isInt then setBit k.accInt b else clearBit k.accInt b }

/-- The flags of a list of results. -/
def flagsOf (rs : List Res) : Nat := rs.foldl (fun a r => a ||| r.flags) 0

/-- A drain (R125, R171): the bytes of every column with their local addresses, and the flags. -/
def drainBank (k : Core) (e bank : Nat) (d : Desc) (o : Fmt) (out draws : Nat) : List (Nat × Byte) × Nat :=
  let isInt := hasBit k.accInt (e * 2 + bank)
  let w := outBytes o / 16
  let cells := (List.range d.n).flatMap fun j => (List.range 16).map fun r =>
    (out + j * d.oStride + r * w,
      drainCell o isInt (d.rnd == 1) d.sat ((Config.freeValue (draws + j * 16 + r)).toNat % 2 ^ 16)
        (SMap.get k.acc 0 (accIdx e bank j r)))
  (cells.flatMap fun x => (List.zip (List.range w) (bytesLE w x.2.code)).map fun y => (x.1 + y.1, y.2),
    flagsOf (cells.map (·.2)))

/-- Twice the clocks of one group (R124). -/
def groupHalfClocks (a b : Fmt) : Nat := if a.isMxFp4 && b.isMxFp4 then 1 else if wide16 a b then 4 else 2

/-- `COR_TILE_CLK` advances by the array clocks of a tile (R126, R156); how many of them overlap the tiles of other
engines the model does not know, so that the count is then free below that (log entry 25, DESIGN CHOICE). -/
def tileClocks (s : State) (c e : Nat) (t : TileIn) : State :=
  let n := (t.kg * t.n * groupHalfClocks t.fA t.fB + 1) / 2
  if (getCore s c).tiles.any fun x => x.eng != e then
    let p := draw s
    wrapF p.2 COR_TILE_CLK c 0 (p.1 % (n + 1))
  else wrapF s COR_TILE_CLK c 0 n

/-- A residue check failed in a row (R131): no output, the bank invalid, ENGINE_CHECK; the spare row takes the failed
one's place, or the engine and with it the core fail. -/
def engineCheck (s : State) (c e bank row pc : Nat) : State :=
  let s := modCore s c fun k => { k with accValid := clearBit k.accValid (e * 2 + bank) }
  let s := faultCore (retire s c 1) c fcEngineCheck (uEngine e) row pc
  let used := getF s COR_ENG_STAT_ROWSPARE c 0
  if hasBit used e then
    let s := raise (setF s COR_ENG_STAT_FAILED c 0 (setBit (getF s COR_ENG_STAT_FAILED c 0) e)) cCOR c 5
    failCore s c
  else
    let s := raise (setF s COR_ENG_STAT_ROWSPARE c 0 (setBit used e)) cCOR c 4
    fuseRepair s 2 (corSite c) (fuseCorLoc c + e * 2 ^ 8 + row * 2 ^ 10)

/-- A tile that passed its checks and may read its operands: it enters the array (R110, R126, R172), and what it writes to the
scratchpad, its flags and its retirement follow at TILE_COMPLETE. -/
def tileRun (s : State) (c e bank pc : Nat) (acc drn : Bool) (q : TileReq) (o : Fmt) (residue : Option Nat) : State :=
  let k := getCore s c
  let isInt := q.t.fA == .int8
  let vs := tileValues (readLocal s c) k e bank acc q.t
  let s := tileClocks s c e q.t
  match residue with
  | some row => engineCheck s c e bank row pc
  | none =>
    let s := modCore s c fun k => accAfter k e bank acc isInt vs
    let fl := flagsOf (vs.map (·.2.2))
    if drn then
      let p := drainBank (getCore s c) e bank q.d o q.out s.draws
      let s := if q.d.rnd = 1 then { s with draws := s.draws + 1024 } else s
      modCore s c fun k => { k with tiles := k.tiles ++ [⟨e, bank, p.1, fl ||| p.2⟩] }
    else modCore s c fun k => { k with tiles := k.tiles ++ [⟨e, bank, [], fl⟩] }

/-- The engine reads the descriptor of the instruction at the head of its queue (R169), after the drain of a tile before it that
writes there (R127). -/
def withDesc (s : State) (c e pc da : Nat) (act : State → Desc → Option State) : Option State :=
  if 0x100000 < da + 64 then some (faultCore s c fcLocal (uEngine e) 0 pc)
  else if da % 64 ≠ 0 then some (faultCore s c fcMisaligned (uEngine e) 0 pc)
  else if outTouches (getCore s c) (2 ^ e) [(da, 64)] then none
  else engineAccess s c e pc [(da, 64)] fun s => engineRead s c e pc [(da, 64)] fun s => act s (readDesc (readLocal s c) da)

/-- A TMMA at the head of its engine's queue (R172, R173), its descriptor read: refused, or run once the banks and the drains
that it needs are there. -/
def tmmaHead (s : State) (c : Nat) (f : FmtT) (aofs bofs oofs : Nat) (residue : Option Nat) (ecc : Ecc) (eccAt pc : Nat)
    (d : Desc) : Option State :=
  let e := f.eng.val
  match fmtOf d.fmtA, fmtOf d.fmtB, fmtOf d.fmtO with
  | some fA, some fB, some fO =>
    if !pairing fA fB || fB.isPal || !outAllowed fA fO then some (faultCore s c fcFormat (uEngine e) 0 pc)
    else if !fA.isPal && (f.cbSlot.val != 0 || f.grpOfs.val != 0) then some (faultCore s c fcReserved uScalar 0 pc)
    else
      let q := tileReq d fA fB aofs bofs oofs f.cbSlot f.grpOfs
      match tileBreach s c e f.bank f.acc f.drn q fO with
      | some code => some (faultCore s c code (uEngine e) 0 pc)
      | none =>
        if outTouches (getCore s c) (2 ^ e) (tileReads q) then none
        else engineAccess s c e pc (tileReads q ++ (if f.drn then drainWrites d fO q.out else [])) fun s =>
          let s := if (tileReads q).any fun r => decide (r.1 ≤ eccAt) && decide (eccAt < r.1 + r.2) then
              sramFound s (corClu c) (localPhys s c eccAt) ecc else s
          engineRead s c e pc (tileReads q) fun s => some (tileRun s c e f.bank pc f.acc f.drn q fO residue)
  | _, _, _ => some (faultCore s c fcFormat (uEngine e) 0 pc)

/-- A TDRAIN at the head of its engine's queue (R174), its descriptor read. -/
def tdrainHead (s : State) (c : Nat) (f : FmtT) (oofs pc : Nat) (d : Desc) : Option State :=
  let e := f.eng.val
  let b := e * 2 + f.bank.val
  let k := getCore s c
  let out := add64 d.out oofs
  if !hasBit k.accValid b then some (faultCore s c fcOperand (uEngine e) 0 pc)
  else match fmtOf d.fmtO with
    | some o =>
      if !outAllowed (if hasBit k.accInt b then .int8 else .flt fp32) o then some (faultCore s c fcFormat (uEngine e) 0 pc)
      else if !(drainWrites d o out).all inScratch then some (faultCore s c fcLocal (uEngine e) 0 pc)
      else if outMisaligned d o out then some (faultCore s c fcMisaligned (uEngine e) 0 pc)
      else if hasBit (getF s COR_ENG_STAT_FAILED c 0) e then some (faultCore s c fcEngineFailed (uEngine e) 0 pc)
      else engineAccess s c e pc (drainWrites d o out) fun s =>
        let p := drainBank (getCore s c) e f.bank d o out s.draws
        let s := if d.rnd = 1 then { s with draws := s.draws + 1024 } else s
        some (modCore s c fun k => { k with tiles := k.tiles ++ [⟨e, f.bank, p.1, p.2⟩] })
    | none => some (faultCore s c fcFormat (uEngine e) 0 pc)

/-! ## The queues of the engines (R127, R132, R133) -/

/-- Is the accumulator bank in use by a tile that has entered the engine (R127). -/
def bankBusy (k : Core) (e bank : Nat) : Bool := k.tiles.any fun t => t.eng == e && t.bank == bank

/-- The instruction at the head of its queues acts; none while it must wait: for the bank of a tile before it, for a drain that
it reads, for a handover, or, a codebook load, for its write. -/
def engRun (s : State) (c : Nat) (x : EngEntry) : Option State :=
  match x.op with
  | .tmma f desc aofs bofs oofs residue ecc eccAt =>
    if bankBusy (getCore s c) f.eng f.bank then none
    else withDesc s c f.eng x.pc desc fun s d => tmmaHead s c f aofs bofs oofs residue ecc eccAt x.pc d
  | .tdrain f desc oofs =>
    if bankBusy (getCore s c) f.eng f.bank then none
    else withDesc s c f.eng x.pc desc fun s d => tdrainHead s c f oofs x.pc d
  | .tcbld _ m addr => tcbldCheck s c x.pc m addr

/-- The instruction leaves the queues, and acts if it may. -/
def engTry (s : State) (c : Nat) (x : EngEntry) : Option State :=
  if (getCore s c).engQ.contains x then engRun (modCore s c fun k => { k with engQ := k.engQ.erase x }) c x else some s

/-- Every engine of a core takes what it can from the head of its queue, in program order. -/
def pumpEng (s : State) (c : Nat) : State :=
  ((getCore s c).engQ.foldl (fun (a : State × Nat) x =>
    if a.2 &&& x.op.mask ≠ 0 then (a.1, a.2 ||| x.op.mask)
    else match engTry a.1 c x with
      | some t => (t, a.2)
      | none => (a.1, a.2 ||| x.op.mask)) (s, 0)).1

/-- A tile instruction dispatches into the queue of its engines, and stalls while one is full (R133). -/
def dispatchEng (s : State) (c : Nat) (uses : List Nat) (check : Option Nat) (op : Core → EngOp) : State :=
  if check.isNone && engFull (getCore s c) (op (getCore s c)).mask then s
  else dispatch s c uses check fun s pc =>
    pumpEng (modCore s c fun k => { k with engQ := k.engQ ++ [⟨op k, pc⟩] }) c

/-- TMMA (R172). `residue` is the row whose residue check fails; `found` is what the code finds in the operands, at a local
address. -/
def execTmma (c : Fin 1280) (f : FmtT) (residue : Option (Fin 17)) (found : EccAt) (s : State) :
    Host.Outcome State Fault Refusal :=
  .next (dispatchEng s c [f.desc, f.aofs, f.bofs, f.oofs] (resv (f.rsv1 == 0 && f.rsv2 == 0)) fun k =>
    .tmma f (k.s f.desc) (k.s f.aofs) (k.s f.bofs) (k.s f.oofs) (residue.map (·.val)) found.ecc found.place)

/-- TDRAIN (R174). -/
def execTdrain (c : Fin 1280) (f : FmtT) (s : State) : Host.Outcome State Fault Refusal :=
  .next (dispatchEng s c [f.desc, f.oofs]
    (resv (!f.acc && !f.drn && f.aofs.val == 0 && f.bofs.val == 0 && f.cbSlot.val == 0 && f.grpOfs.val == 0 &&
      f.rsv1 == 0 && f.rsv2 == 0)) fun k => .tdrain f (k.s f.desc) (k.s f.oofs))

/-- TCBLD (R175): it enters the queue of every engine of EMASK. -/
def execTcbld (c : Fin 1280) (f : FmtC) (s : State) : Host.Outcome State Fault Refusal :=
  .next (if f.emask.val = 0 then dispatch s c [f.a] (resv (f.rsv == 0)) fun s pc => faultCore s c fcOperand uScalar 0 pc
    else dispatchEng s c [f.a] (resv (f.rsv == 0)) fun k => .tcbld f.slot f.emask (add64 (k.s f.a) (imm64 f.imm)))

/-- CODEBOOK_SLOT_WRITE (R129): the load at the head of its queues reads its record, after the drains of its engines that write
there (R127, R188), checks and writes it, and retires; a refused record faults the core with its slot. -/
def execCodebookSlotWrite (c : Fin 1280) (e : Ecc) (s : State) : Host.Outcome State Fault Refusal :=
  .next (match cbHead (getCore s c).engQ 0 with
    | none => s
    | some x => match x.op with
      | .tcbld slot m addr =>
        let u := uEngine ((lowestBit 4 m).getD 0)
        if outTouches (getCore s c) m [(addr, 32)] then s
        else ((readAccess s c addr 32 u x.pc e fun s =>
          let r := readLE (readLocal s c) addr 32
          let s := modCore s c fun k => cbStore { k with engQ := k.engQ.erase x } slot m r
          let s := retire s c 1
          some (if cbValid r then pumpEng s c else faultCore s c fcCbRefused u slot x.pc)).getD s)
      | _ => s)

/-- The output bytes of a tile written to the scratchpad; words written whole become correct again. -/
def putTile (s : State) (c : Nat) (out : List (Nat × Byte)) : State :=
  let s := forAll out s fun s o => writeByte s (localPhys s c o.1) o.2
  forAll out s fun s o =>
    let p := localPhys s c o.1
    if p % 8 = 0 ∧ isUe s p then markUe s p false else s

/-- TILE_COMPLETE (R176): the oldest tile of an engine has written its drain, its flags are set, and it retires; what waited for
it goes on. -/
def execTileComplete (c : Fin 1280) (e : Fin 4) (s : State) : Host.Outcome State Fault Refusal :=
  match (getCore s c).tiles.find? fun t => t.eng == e.val with
  | none => .next s
  | some t =>
    let s := putTile s c t.out
    let s := modCore s c fun k => { k.flag t.flags with tiles := k.tiles.erase t }
    .next (pumpEng (retire s c 1) c)

end Sys2Proof.Machine
end

