-- ==== Sys2Proof/Machine/VecMath.lean ====
section
/-! DEFINITION. Machine/VecMath.lean: the vector functions whose accuracy the manual bounds without fixing the result
(R114): divide, square root and reciprocals within 1 ulp, exp2 and log2 within 2, exp, log, tanh and sigmoid within 4
for normal results. Each result is a free choice, by operation and operands alone (R121), among the codes the bound
allows (log entry 13, DESIGN CHOICE). -/

namespace Sys2Proof.Config

/-- Which of the codes within the bound of R114 a vector function answers, by operation and operands (log entry 13, DESIGN CHOICE). -/
opaque vecPick : Nat → Nat → Nat → Nat

/-- The result of a vector function where R114 sets no bound, by operation and operand (log entry 13, DESIGN CHOICE). -/
opaque vecFree : Nat → Nat → BitVec 32

end Sys2Proof.Config

namespace Sys2Proof.Machine

/-- Fractional bits of the working precision. -/
abbrev fxBits : Nat := 96

/-- ln 2 and log2 e at the working precision. -/
def fxLn2 : Nat := 54916777467707473351141471128
def fxLog2e : Nat := 114302077158074026402637675936

/-- `floor (sqrt n)` for `n < 2 ^ 512`. -/
def isqrt (n : Nat) : Nat :=
  (List.range 256).foldl (fun r i =>
    let t := r + 2 ^ (255 - i)
    if t * t ≤ n then t else r) 0

/-- `2 ^ (y / 2 ^ fxBits)` for `y < 2 ^ fxBits`, at the working precision: the exponential series of `y ln 2`. -/
def fxExp2Frac (y : Nat) : Nat :=
  let z := y * fxLn2 / 2 ^ fxBits
  ((List.range 40).foldl (fun (p : Nat × Nat) n =>
    let t := p.2 * z / 2 ^ fxBits / (n + 1)
    (p.1 + t, t)) (2 ^ fxBits, 2 ^ fxBits)).1

/-- log2 of `x / 2 ^ fxBits` in [1, 2), at the working precision, one bit for each squaring. -/
def fxLog2Frac (x : Nat) : Nat :=
  ((List.range 90).foldl (fun (p : Nat × Nat) _ =>
    let s := p.2 * p.2 / 2 ^ fxBits
    if 2 ^ (fxBits + 1) ≤ s then (2 * p.1 + 1, s / 2) else (2 * p.1, s)) (0, x)).1 * 2 ^ (fxBits - 90)

/-- `± m × 2^e` as a fixed-point number at the working precision, rounded down. -/
def toFx (neg : Bool) (m : Nat) (e : Int) : Int :=
  let s := e + fxBits
  let n : Int := ((if 0 ≤ s then m * 2 ^ s.toNat else m / 2 ^ (-s).toNat : Nat) : Int)
  if neg then (if 0 ≤ s ∨ m % 2 ^ (-s).toNat = 0 then -n else -n - 1) else n

/-- `2 ^ (x / 2 ^ fxBits)` as mantissa and exponent. -/
def fxPow2 (x : Int) : Nat × Int :=
  (fxExp2Frac (x % (2 ^ fxBits : Int)).toNat, x / (2 ^ fxBits : Int) - fxBits)

/-- log2 of `m × 2^e` as a fixed-point number. -/
def fxLog2 (m : Nat) (e : Int) : Int :=
  let l := bitLen m
  let x := if l ≤ fxBits + 1 then m * 2 ^ (fxBits + 1 - l) else m / 2 ^ (l - fxBits - 1)
  (e + (l : Int) - 1) * (2 ^ fxBits : Int) + (fxLog2Frac x : Int)

/-- The flags of a bounded result: what R120 says of a code that does or does not equal the exact value. -/
def approxFlags (exact : Bool) (mag : Nat) : Nat :=
  if exact then 0
  else if 0x7F800000 ≤ mag then fOVERFLOW ||| fINEXACT
  else roundFlags fp32 true mag

/-- The code of the largest FP32 magnitude that is at most `m × 2^e`, and whether it is less. -/
def floorCode (m : Nat) (e : Int) : Nat × Bool :=
  if m = 0 then (0, false)
  else
    let q := fp32.unitExp m e
    let p := shiftDown m e q
    (fp32.codeOf p.1 q, p.2)

/-- A code within `u` ulp of the magnitude `m × 2^e`, plus a rest below its last bit when `sticky`, as a free choice (R114):
the codes from `u` ulp below the exact value to `u` above it, the ulp being the unit of the exact value, and the sign that of
the exact value (log entry 13, DESIGN CHOICE). A result beyond the range is an infinity. -/
def withinU (u op a b : Nat) (neg : Bool) (m : Nat) (e : Int) (sticky : Bool) : Res :=
  if fp32.overflows m e then ⟨fp32.signed neg 0x7F800000, fOVERFLOW ||| fINEXACT⟩
  else
    let q := if m = 0 then fp32.qmin else fp32.unitExp m e
    let w := min e q
    let x := m * 2 ^ (e - w).toNat
    let d := u * 2 ^ (q - w).toNat
    let f := floorCode m e
    let lo := floorCode (x - d) w
    let lo := if lo.2 || (sticky && decide (d ≤ x)) then lo.1 + 1 else lo.1
    let hi := min (floorCode (x + d) w).1 0x7F800000
    let c := lo + Config.vecPick op a b % (hi - lo + 1)
    ⟨fp32.signed neg c, approxFlags (!f.2 && !sticky && c == f.1) c⟩

/-- As `withinU` with 4 ulp where the result is normal. Where it is not, R114 sets no bound: the result is then a free number,
but not 0 in place of a subnormal (R96), nor a NaN (R98). -/
def within4 (op a : Nat) (neg : Bool) (m : Nat) (e : Int) (sticky : Bool) : Res :=
  let r := fp32.roundMag .rne m e
  if r.code < 0x800000 then
    let x := (Config.vecFree op a).toNat
    let c := max (x % 0x7F800000) (min r.code 1)
    ⟨fp32.signed (hasBit x 31) c, approxFlags (!sticky && r.flags == 0 && hasBit x 31 == neg && c == r.code) c⟩
  else withinU 4 op a 0 neg m e sticky

/-- An invalid operation: canonical NaN, INVALID (R114). -/
def invalid32 : Res := ⟨fp32.nan, fINVALID⟩

/-- A signed infinity with DIV0 (R114, R120). -/
def div0inf (neg : Bool) : Res := ⟨fp32.signed neg 0x7F800000, fDIV0⟩

/-- A result with no flag. -/
def plain32 (c : Nat) : Res := ⟨c, 0⟩

/-- Divide (R114, R178). -/
def f32div (a b : Nat) : Res :=
  match f32 a, f32 b with
  | .nan, _ => plain32 fp32.nan
  | _, .nan => plain32 fp32.nan
  | .inf _, .inf _ => invalid32
  | .inf s, .fin t _ _ => plain32 (fp32.signed (xor s t) 0x7F800000)
  | .fin s _ _, .inf t => plain32 (fp32.signed (xor s t) 0)
  | .fin s m e, .fin t m' e' =>
    if m' = 0 then (if m = 0 then invalid32 else div0inf (xor s t))
    else if m = 0 then plain32 (fp32.signed (xor s t) 0)
    else
      let n := m * 2 ^ 80
      withinU 1 0 a b (xor s t) (n / m') (e - e' - 80) (n % m' != 0)

/-- Square root. -/
def f32sqrt (a : Nat) : Res :=
  match f32 a with
  | .nan => plain32 fp32.nan
  | .inf s => if s then invalid32 else plain32 0x7F800000
  | .fin s m e =>
    if m = 0 then plain32 a
    else if s then invalid32
    else
      let e' := (e - 80) / 2
      let n := m * 2 ^ (e - 2 * e').toNat
      let r := isqrt n
      withinU 1 1 a 0 false r e' (r * r != n)

/-- Reciprocal. -/
def f32rcp (a : Nat) : Res :=
  match f32 a with
  | .nan => plain32 fp32.nan
  | .inf s => plain32 (fp32.signed s 0)
  | .fin s m e =>
    if m = 0 then div0inf s
    else withinU 1 2 a 0 s (2 ^ 80 / m) (-e - 80) (2 ^ 80 % m != 0)

/-- Reciprocal square root. -/
def f32rsqrt (a : Nat) : Res :=
  match f32 a with
  | .nan => plain32 fp32.nan
  | .inf s => if s then invalid32 else plain32 0
  | .fin s m e =>
    if m = 0 then div0inf s
    else if s then invalid32
    else
      let m' := if e % 2 = 0 then m else 2 * m
      let e' := if e % 2 = 0 then e else e - 1
      let r := isqrt (2 ^ 160 / m')
      withinU 1 3 a 0 false r (-(e' / 2) - 80) (r * r * m' != 2 ^ 160)

/-- exp2, within 2 ulp. -/
def f32exp2 (a : Nat) : Res :=
  match f32 a with
  | .nan => plain32 fp32.nan
  | .inf s => plain32 (if s then 0 else 0x7F800000)
  | .fin s m e =>
    let x := toFx s m e
    if (256 * 2 ^ fxBits : Int) ≤ x then ⟨0x7F800000, fOVERFLOW ||| fINEXACT⟩
    else if x < (-256 * 2 ^ fxBits : Int) then withinU 2 4 a 0 false 1 (-400) true
    else
      let p := fxPow2 x
      withinU 2 4 a 0 false p.1 p.2 (shiftDown m e 0).2

/-- log2, within 2 ulp. -/
def f32log2 (a : Nat) : Res :=
  match f32 a with
  | .nan => plain32 fp32.nan
  | .inf s => if s then invalid32 else plain32 0x7F800000
  | .fin s m e =>
    if m = 0 then div0inf true
    else if s then invalid32
    else
      let l := fxLog2 m e
      withinU 2 5 a 0 (decide (l < 0)) l.natAbs (-(fxBits : Int)) (m != 2 ^ (bitLen m - 1))

/-- exp, within 4 ulp. -/
def f32exp (a : Nat) : Res :=
  match f32 a with
  | .nan => plain32 fp32.nan
  | .inf s => plain32 (if s then 0 else 0x7F800000)
  | .fin s m e =>
    let x := toFx s m e * (fxLog2e : Int) / (2 ^ fxBits : Int)
    if (256 * 2 ^ fxBits : Int) ≤ x then ⟨0x7F800000, fOVERFLOW ||| fINEXACT⟩
    else if x < (-256 * 2 ^ fxBits : Int) then within4 6 a false 1 (-400) true
    else
      let p := fxPow2 x
      within4 6 a false p.1 p.2 (m != 0)

/-- log, within 4 ulp. -/
def f32log (a : Nat) : Res :=
  match f32 a with
  | .nan => plain32 fp32.nan
  | .inf s => if s then invalid32 else plain32 0x7F800000
  | .fin s m e =>
    if m = 0 then div0inf true
    else if s then invalid32
    else
      let l := fxLog2 m e * (fxLn2 : Int) / (2 ^ fxBits : Int)
      within4 7 a (decide (l < 0)) l.natAbs (-(fxBits : Int)) (a != 0x3F800000)

/-- `exp |x|` of a finite magnitude at the working precision, capped where the functions below are flat. -/
def fxExpAbs (m : Nat) (e : Int) (twice : Bool) : Nat :=
  let x := min (toFx false m e) (200 * 2 ^ fxBits : Int)
  let y := (if twice then 2 * x else x) * (fxLog2e : Int) / (2 ^ fxBits : Int)
  let p := fxPow2 y
  p.1 * 2 ^ (p.2 + fxBits).toNat

/-- tanh, within 4 ulp; below 2^−12 from `x − x³/3 + 2x⁵/15`. -/
def f32tanh (a : Nat) : Res :=
  match f32 a with
  | .nan => plain32 fp32.nan
  | .inf s => plain32 (fp32.signed s 0x3F800000)
  | .fin s m e =>
    if e + (bitLen m : Int) < -12 then
      let sq := (toFx false (m * m) (2 * e)).toNat
      within4 8 a s (m * (2 ^ fxBits - sq / 3 - 1 + 2 * sq * sq / 2 ^ fxBits / 15)) (e - fxBits) (m != 0)
    else
      let t := fxExpAbs m e true
      within4 8 a s ((t - 2 ^ fxBits) * 2 ^ fxBits / (t + 2 ^ fxBits)) (-(fxBits : Int)) true

/-- sigmoid, within 4 ulp. -/
def f32sigmoid (a : Nat) : Res :=
  match f32 a with
  | .nan => plain32 fp32.nan
  | .inf s => plain32 (if s then 0 else 0x3F800000)
  | .fin s m e =>
    let t := fxExpAbs m e false
    if s then within4 9 a false (2 ^ (3 * fxBits) / (2 ^ fxBits + t + min m 1)) (-(2 * fxBits : Int)) (m != 0)
    else within4 9 a false (t * 2 ^ fxBits / (t + 2 ^ fxBits)) (-(fxBits : Int)) (m != 0)

/-! ## Reductions across the lanes (R114) -/

/-- One level of the fixed pairwise tree: neighbours combined. -/
def pairUp (op : Nat → Nat → Res) : List Nat → List Nat × Nat
  | a :: b :: l =>
    let r := op a b
    let p := pairUp op l
    (r.code :: p.1, r.flags ||| p.2)
  | l => (l, 0)

/-- The reduction of 64 lanes: six levels of the tree. -/
def reduce64 (op : Nat → Nat → Res) (l : List Nat) : Res :=
  let p := (List.range 6).foldl (fun (p : List Nat × Nat) _ =>
    let q := pairUp op p.1
    (q.1, p.2 ||| q.2)) (l, 0)
  ⟨p.1.headD 0, p.2⟩

/-- A (key, value) pair put into a list sorted by key. -/
def insertKey (k v : Nat) : List (Nat × Nat) → List (Nat × Nat)
  | [] => [(k, v)]
  | (k', v') :: l => if k < k' then (k, v) :: (k', v') :: l else (k', v') :: insertKey k v l

/-- The lanes in the order of the fixed tree of a sum (log entry 18, DESIGN CHOICE). -/
def treeOrder (l : List Nat) : List Nat :=
  ((List.zip (List.range l.length) l).foldl (fun a p => insertKey (Config.reduceKey p.1) p.2 a) []).map (·.2)

end Sys2Proof.Machine
end

