-- ==== Sys2Proof/Machine/Vector.lean ====
section
/-! DEFINITION. Machine/Vector.lean: the vector instructions (R177, R178). Each joins the queue of the vector unit at dispatch. -/

namespace Sys2Proof.Machine

/-! ## Reserved fields (R159, R160, R178) -/

/-- RESERVED_BITS unless the fields not used are 0: FMT with RND and SAT (for conversions), VD, VA, VB, VC, S, IMM. -/
def resvFields (f : FmtV) (cvt vd va vb vc sr imm : Bool) : Bool :=
  (cvt || (f.fmt.val == 0 && f.rnd.val == 0 && !f.sat)) && (vd || f.vd.val == 0) && (va || f.va.val == 0) &&
  (vb || f.vb.val == 0) && (vc || f.vc.val == 0) && (sr || f.s.val == 0) && (imm || f.imm == 0)

/-- The same for an operation that uses no FMT and no IMM: which of S, VD, VA, VB, VC it uses. -/
def resvV (f : FmtV) (sr vd va vb vc : Bool) : Option Nat := resv (resvFields f false vd va vb vc sr false)

/-! ## Operations on lanes -/

/-- An instruction of the vector unit completes: lanes of VD, flags, retirement. -/
def vDone (s : State) (c vd : Nat) (rs : List Res) : State :=
  retire (modCore s c fun k =>
    (k.setLanes vd 0 (rs.map (·.code))).flag (rs.foldl (fun a r => a ||| r.flags) 0)) c 1

/-- Lane-wise, on VA and VB. -/
def lanes2 (s : State) (c : Nat) (f : FmtV) (op : Nat → Nat → Res) : State :=
  let k := getCore s c
  vDone s c f.vd (List.zipWith op (k.lanes f.va) (k.lanes f.vb))

/-- Lane-wise, on VA. -/
def lanes1 (s : State) (c : Nat) (f : FmtV) (op : Nat → Res) : State :=
  vDone s c f.vd (((getCore s c).lanes f.va).map op)

/-- FMA: VA × VB + VC. -/
def lanes3 (s : State) (c : Nat) (f : FmtV) : State :=
  let k := getCore s c
  vDone s c f.vd (List.zipWith (fun (p : Nat × Nat) z => f32fma p.1 p.2 z)
    (List.zip (k.lanes f.va) (k.lanes f.vb)) (k.lanes f.vc))

/-- Lane-wise, on VA and the scalar `sv`, its bits [31:0] taken as FP32. -/
def lanesS (s : State) (c sv : Nat) (f : FmtV) (op : Nat → Nat → Res) : State :=
  vDone s c f.vd (((getCore s c).lanes f.va).map fun x => op x (sv % 2 ^ 32))

/-- The number whose bits a list gives, least significant first. -/
def ofBools : List Bool → Nat
  | [] => 0
  | b :: bs => (if b then 1 else 0) + 2 * ofBools bs

/-- VCMP: bit i of sS is the result of lane i; no flag is set (R114). -/
def cmpOp (s : State) (c : Nat) (f : FmtV) (op : Nat → Nat → Bool) : State :=
  let k := getCore s c
  retire (landReg s c f.s (ofBools (List.zipWith op (k.lanes f.va) (k.lanes f.vb)))) c 1

/-- VRED: every lane of VD and sS [31:0]. -/
def redOp (s : State) (c : Nat) (f : FmtV) (op : List Nat → Res) : State :=
  let r := op ((getCore s c).lanes f.va)
  vDone (landReg s c f.s (r.code % 2 ^ 32)) c f.vd (⟨r.code, r.flags⟩ :: List.replicate 63 ⟨r.code, 0⟩)

/-- VSEL: lane i of VD is lane i of VA where bit i of the scalar is 1, else of VB. -/
def selOp (s : State) (c sv : Nat) (f : FmtV) : State :=
  let k := getCore s c
  vDone s c f.vd ((List.range 64).map fun i => ⟨canon32 (if hasBit sv i then k.v f.va i else k.v f.vb i), 0⟩)

/-! ## Formats, loads and stores (R177) -/

/-- The format of a vector load, store or conversion: a palette or reserved code is none (R177). -/
def vecFmt (code : Nat) : Option Fmt :=
  match fmtOf code with
  | some f => if f.isPal then none else some f
  | none => none

/-- The alignment of an element address: the largest power of two, at most 64, that divides the bytes (R177). -/
def elemAlign (f : Fmt) : Nat := Nat.gcd (8 * f.bits) 64

/-- Does the instruction name a scale register in VB (R177). A format that the vector unit refuses leaves VB to it. -/
def usesScale (code : Nat) : Bool :=
  match vecFmt code with
  | some f => f.scaled
  | none => true

/-- IMM of format V, sign-extended. -/
def immV (f : FmtV) : Nat := (f.imm.signExtend 64).toNat

/-- The 64 elements widened to FP32 (R114, R177), from the element and scale bytes. -/
def loadLanes (f : Fmt) (rd : Nat → Byte) (ea sa : Nat) : List Res :=
  let b := readLE rd ea (8 * f.bits)
  (List.range 64).map fun i =>
    let v := f.elem (fun _ => 0) (f.code b i)
    if f.scaled then
      let sc := (rd (sa + i / 32)).toNat
      let r := toFp32 (scaledElem sc v)
      ⟨r.code, r.flags ||| (if sc = 0xFF then fNAN_SCALE else 0)⟩
    else toFp32 v

/-- A rounding mode, with the draw of element `i` (R115, R116). -/
def rndOf (sr : Bool) (draws i : Nat) : Rnd :=
  if sr then .sr ((Config.freeValue (draws + i)).toNat % 2 ^ 16) else .rne

/-- One block of lanes converted under a block scale (R119): scale code and results. -/
def storeBlock (f : Fmt) (sr : Bool) (draws : Nat) (vs : List Val) : Nat × List Res :=
  let p := blockScale f vs
  (p.1, (List.range 32).map fun i =>
    match p.2 with
    | none => ⟨0, 0⟩
    | some k => mxElem f (rndOf sr draws i) k (vs.getD i (.fin false 0 0)))

/-- The 64 lanes converted (R115 to R119): results, and the two scale codes of a block-scaled format. -/
def storeLanes (f : Fmt) (sr sat : Bool) (draws : Nat) (xs : List Nat) : List Res × List Nat :=
  let vs := xs.map f32
  if f.scaled then
    let a := storeBlock f sr draws (vs.take 32)
    let b := storeBlock f sr (draws + 32) (vs.drop 32)
    (a.2 ++ b.2, [a.1, b.1])
  else ((List.range 64).map fun i => convertTo f (rndOf sr draws i) sat (vs.getD i (.fin false 0 0)), [])

/-- Codes of a format packed into bytes, the first at the lowest bits (R100). -/
def packCodes (f : Fmt) : List Nat → Nat
  | [] => 0
  | x :: xs => x % 2 ^ f.bits + 2 ^ f.bits * packCodes f xs

/-- Draws used by an instruction under SR. -/
def tookDraws (s : State) (sr : Bool) (n : Nat) : State := if sr then { s with draws := s.draws + n } else s

/-- The addresses of a load or store, checked by the vector unit (R177): its fault, or the format and the two addresses. -/
def vecAddr (x : VecEntry) : Nat ⊕ (Fmt × Nat × Nat) :=
  match vecFmt x.f.fmt with
  | none => .inl fcFormat
  | some g =>
    let ea := add64 x.sv (immV x.f)
    if ea % elemAlign g ≠ 0 ∨ (g.scaled ∧ x.bv % 2 ≠ 0) then .inl fcMisaligned else .inr (g, ea, x.bv)

/-- VLD at the head of the queue (R177). -/
def vldRun (s : State) (c : Nat) (x : VecEntry) : Option State :=
  match vecAddr x with
  | .inl code => some (faultCore s c code uVector 0 x.pc)
  | .inr (g, ea, sa) =>
    readAccess s c ea (8 * g.bits) uVector x.pc x.ecc fun s =>
      let fin := fun (s : State) => some (vDone s c x.f.vd (loadLanes g (readLocal s c) ea sa))
      if g.scaled then readAccess s c sa 2 uVector x.pc .clean fin else fin s

/-- VST at the head of the queue (R177). -/
def vstRun (s : State) (c : Nat) (x : VecEntry) : Option State :=
  match vecAddr x with
  | .inl code => some (faultCore s c code uVector 0 x.pc)
  | .inr (g, ea, sa) =>
    access s c ea (8 * g.bits) uVector x.pc fun s =>
      let sr := x.f.rnd.val == 1
      let p := storeLanes g sr x.f.sat s.draws ((getCore s c).lanes x.f.va)
      let fin := fun (s : State) =>
        some (retire (modCore (storeLocal (tookDraws s sr 64) c ea (bytesLE (8 * g.bits) (packCodes g (p.1.map (·.code))))) c
          fun k => k.flag (p.1.foldl (fun a r => a ||| r.flags) 0)) c 1)
      if g.scaled then storeAccess s c sa (p.2.map fun y => BitVec.ofNat 8 y) uVector x.pc x.ecc fin else fin s

/-- The FP32 value of a converted result (R178, VCVT): INT32 values round again under RNE. -/
def widenBack (g : Fmt) (scale : Nat) (r : Res) : Res :=
  let v := g.elem (fun _ => 0) r.code
  let w := toFp32 (if g.scaled then scaledElem scale v else v)
  ⟨w.code, w.flags ||| r.flags⟩

/-- VCVT at the head of the queue (R177, R178). -/
def vcvtRun (s : State) (c : Nat) (x : VecEntry) : State :=
  match vecFmt x.f.fmt with
  | none => faultCore s c fcFormat uVector 0 x.pc
  | some g =>
    let sr := x.f.rnd.val == 1
    let p := storeLanes g sr x.f.sat s.draws ((getCore s c).lanes x.f.va)
    vDone (tookDraws s sr 64) c x.f.vd
      ((List.range 64).map fun i => widenBack g (p.2.getD (i / 32) 0) (p.1.getD i ⟨0, 0⟩))

/-! ## The queue (R132, R133, R178) -/

/-- The instruction at the head of the queue acts; none while a bank that it reads or writes is in handover. -/
def vecRun (s : State) (c : Nat) (x : VecEntry) : Option State :=
  let f := x.f
  match x.op with
  | .ld => vldRun s c x
  | .st => vstRun s c x
  | .add => some (lanes2 s c f f32add)
  | .sub => some (lanes2 s c f f32sub)
  | .mul => some (lanes2 s c f f32mul)
  | .fma => some (lanes3 s c f)
  | .min => some (lanes2 s c f f32min)
  | .max => some (lanes2 s c f f32max)
  | .abs => some (lanes1 s c f f32abs)
  | .neg => some (lanes1 s c f f32neg)
  | .adds => some (lanesS s c x.sv f f32add)
  | .muls => some (lanesS s c x.sv f f32mul)
  | .div => some (lanes2 s c f f32div)
  | .sqrt => some (lanes1 s c f f32sqrt)
  | .rcp => some (lanes1 s c f f32rcp)
  | .rsqrt => some (lanes1 s c f f32rsqrt)
  | .exp2 => some (lanes1 s c f f32exp2)
  | .log2 => some (lanes1 s c f f32log2)
  | .exp => some (lanes1 s c f f32exp)
  | .log => some (lanes1 s c f f32log)
  | .tanh => some (lanes1 s c f f32tanh)
  | .sigmoid => some (lanes1 s c f f32sigmoid)
  | .eq => some (cmpOp s c f f32eq)
  | .lt => some (cmpOp s c f f32lt)
  | .le => some (cmpOp s c f f32le)
  | .ne => some (cmpOp s c f f32ne)
  | .sel => some (selOp s c x.sv f)
  | .sum => some (redOp s c f fun l => reduce64 f32add (treeOrder l))
  | .rmax => some (redOp s c f (reduce64 f32max))
  | .rmin => some (redOp s c f (reduce64 f32min))
  | .bcast => some (vDone s c f.vd (List.replicate 64 ⟨canon32 (x.sv % 2 ^ 32), 0⟩))
  | .cvt => some (vcvtRun s c x)

/-- Room in the vector queue (R132). -/
abbrev vecQMax : Nat := 16

/-- The vector unit takes what it can from the head of its queue, at most `n` instructions. -/
def pumpVecN (s : State) (c : Nat) : Nat → State
  | 0 => s
  | n + 1 =>
    match (getCore s c).vecQ with
    | [] => s
    | x :: xs =>
      match vecRun (modCore s c fun k => { k with vecQ := xs }) c x with
      | some t => pumpVecN t c n
      | none => s

def pumpVec (s : State) (c : Nat) : State := pumpVecN s c vecQMax

/-- A vector instruction dispatches into the queue (R133): it stalls while the queue is full, and a scalar register that it
writes waits for it (R188). -/
def dispatchVec (s : State) (c : Nat) (op : VecOp) (f : FmtV) (e : Ecc) (uses : List Nat) (check : Option Nat) : State :=
  if check.isNone && decide (vecQMax ≤ (getCore s c).vecQ.length) then s
  else dispatch s c uses check fun s pc =>
    pumpVec (modCore s c fun k =>
      let x : VecEntry := ⟨op, f, k.s f.s, k.s f.vb, e, pc⟩
      { k with
        vecQ := k.vecQ ++ [x]
        busy := match x.dest with
          | some d => if d = 0 then k.busy else k.busy ++ [d]
          | none => k.busy }) c

/-- The scalar registers that a load or store reads. -/
def memUses (f : FmtV) : List Nat := if usesScale f.fmt then [f.s.val, f.vb.val] else [f.s.val]

/-- ADD (R178). -/
def execVadd (c : Fin 1280) (f : FmtV) (s : State) : Host.Outcome State Fault Refusal :=
  .next (dispatchVec s c .add f .clean [] (resvV f false true true true false))

/-- SUB (R178). -/
def execVsub (c : Fin 1280) (f : FmtV) (s : State) : Host.Outcome State Fault Refusal :=
  .next (dispatchVec s c .sub f .clean [] (resvV f false true true true false))

/-- MUL (R178). -/
def execVmul (c : Fin 1280) (f : FmtV) (s : State) : Host.Outcome State Fault Refusal :=
  .next (dispatchVec s c .mul f .clean [] (resvV f false true true true false))

/-- FMA, one rounding (R178). -/
def execVfma (c : Fin 1280) (f : FmtV) (s : State) : Host.Outcome State Fault Refusal :=
  .next (dispatchVec s c .fma f .clean [] (resvV f false true true true true))

/-- MIN (R178). -/
def execVmin (c : Fin 1280) (f : FmtV) (s : State) : Host.Outcome State Fault Refusal :=
  .next (dispatchVec s c .min f .clean [] (resvV f false true true true false))

/-- MAX (R178). -/
def execVmax (c : Fin 1280) (f : FmtV) (s : State) : Host.Outcome State Fault Refusal :=
  .next (dispatchVec s c .max f .clean [] (resvV f false true true true false))

/-- ABS (R178). -/
def execVabs (c : Fin 1280) (f : FmtV) (s : State) : Host.Outcome State Fault Refusal :=
  .next (dispatchVec s c .abs f .clean [] (resvV f false true true false false))

/-- NEG (R178). -/
def execVneg (c : Fin 1280) (f : FmtV) (s : State) : Host.Outcome State Fault Refusal :=
  .next (dispatchVec s c .neg f .clean [] (resvV f false true true false false))

/-- ADDS: the scalar sS [31:0] taken as FP32 (R178). -/
def execVadds (c : Fin 1280) (f : FmtV) (s : State) : Host.Outcome State Fault Refusal :=
  .next (dispatchVec s c .adds f .clean [f.s] (resvV f true true true false false))

/-- MULS: the scalar sS [31:0] taken as FP32 (R178). -/
def execVmuls (c : Fin 1280) (f : FmtV) (s : State) : Host.Outcome State Fault Refusal :=
  .next (dispatchVec s c .muls f .clean [f.s] (resvV f true true true false false))

/-- DIV (R178). -/
def execVdiv (c : Fin 1280) (f : FmtV) (s : State) : Host.Outcome State Fault Refusal :=
  .next (dispatchVec s c .div f .clean [] (resvV f false true true true false))

/-- SQRT (R178). -/
def execVsqrt (c : Fin 1280) (f : FmtV) (s : State) : Host.Outcome State Fault Refusal :=
  .next (dispatchVec s c .sqrt f .clean [] (resvV f false true true false false))

/-- RCP (R178). -/
def execVrcp (c : Fin 1280) (f : FmtV) (s : State) : Host.Outcome State Fault Refusal :=
  .next (dispatchVec s c .rcp f .clean [] (resvV f false true true false false))

/-- RSQRT (R178). -/
def execVrsqrt (c : Fin 1280) (f : FmtV) (s : State) : Host.Outcome State Fault Refusal :=
  .next (dispatchVec s c .rsqrt f .clean [] (resvV f false true true false false))

/-- EXP2 (R178). -/
def execVexp2 (c : Fin 1280) (f : FmtV) (s : State) : Host.Outcome State Fault Refusal :=
  .next (dispatchVec s c .exp2 f .clean [] (resvV f false true true false false))

/-- LOG2 (R178). -/
def execVlog2 (c : Fin 1280) (f : FmtV) (s : State) : Host.Outcome State Fault Refusal :=
  .next (dispatchVec s c .log2 f .clean [] (resvV f false true true false false))

/-- EXP (R178). -/
def execVexp (c : Fin 1280) (f : FmtV) (s : State) : Host.Outcome State Fault Refusal :=
  .next (dispatchVec s c .exp f .clean [] (resvV f false true true false false))

/-- LOG (R178). -/
def execVlog (c : Fin 1280) (f : FmtV) (s : State) : Host.Outcome State Fault Refusal :=
  .next (dispatchVec s c .log f .clean [] (resvV f false true true false false))

/-- TANH (R178). -/
def execVtanh (c : Fin 1280) (f : FmtV) (s : State) : Host.Outcome State Fault Refusal :=
  .next (dispatchVec s c .tanh f .clean [] (resvV f false true true false false))

/-- SIGMOID (R178). -/
def execVsigmoid (c : Fin 1280) (f : FmtV) (s : State) : Host.Outcome State Fault Refusal :=
  .next (dispatchVec s c .sigmoid f .clean [] (resvV f false true true false false))

/-- VCMP EQ: bit i of sS is the result of lane i (R178). -/
def execVcmpEq (c : Fin 1280) (f : FmtV) (s : State) : Host.Outcome State Fault Refusal :=
  .next (dispatchVec s c .eq f .clean [f.s] (resvV f true false true true false))

/-- VCMP LT: bit i of sS is the result of lane i (R178). -/
def execVcmpLt (c : Fin 1280) (f : FmtV) (s : State) : Host.Outcome State Fault Refusal :=
  .next (dispatchVec s c .lt f .clean [f.s] (resvV f true false true true false))

/-- VCMP LE: bit i of sS is the result of lane i (R178). -/
def execVcmpLe (c : Fin 1280) (f : FmtV) (s : State) : Host.Outcome State Fault Refusal :=
  .next (dispatchVec s c .le f .clean [f.s] (resvV f true false true true false))

/-- VCMP NE: bit i of sS is the result of lane i (R178). -/
def execVcmpNe (c : Fin 1280) (f : FmtV) (s : State) : Host.Outcome State Fault Refusal :=
  .next (dispatchVec s c .ne f .clean [f.s] (resvV f true false true true false))

/-- VRED SUM in a fixed pairwise tree whose order the manual does not give (log entry 18, DESIGN CHOICE) (R178). -/
def execVredSum (c : Fin 1280) (f : FmtV) (s : State) : Host.Outcome State Fault Refusal :=
  .next (dispatchVec s c .sum f .clean [f.s] (resvV f true true true false false))

/-- VRED MAX (R178). -/
def execVredMax (c : Fin 1280) (f : FmtV) (s : State) : Host.Outcome State Fault Refusal :=
  .next (dispatchVec s c .rmax f .clean [f.s] (resvV f true true true false false))

/-- VRED MIN (R178). -/
def execVredMin (c : Fin 1280) (f : FmtV) (s : State) : Host.Outcome State Fault Refusal :=
  .next (dispatchVec s c .rmin f .clean [f.s] (resvV f true true true false false))

/-- A defined FN of an operation whose only FN is 0 (R160, R178). -/
def onlyFn0 (fn : Nat) (chk : Option Nat) : Option Nat := if fn = 0 then chk else some fcIllegal

/-- VSEL (R178): lane i of VD is lane i of VA where bit i of sS is 1, else of VB. -/
def execVsel (c : Fin 1280) (fn : Fin 64) (f : FmtV) (s : State) : Host.Outcome State Fault Refusal :=
  .next (dispatchVec s c .sel f .clean [f.s] (onlyFn0 fn (resvV f true true true true false)))

/-- VBCAST (R178): every lane of VD is sS [31:0]. -/
def execVbcast (c : Fin 1280) (fn : Fin 64) (f : FmtV) (s : State) : Host.Outcome State Fault Refusal :=
  .next (dispatchVec s c .bcast f .clean [f.s] (onlyFn0 fn (resvV f true true false false false)))

/-- VLD (R177). -/
def execVld (c : Fin 1280) (fn : Fin 64) (f : FmtV) (e : Ecc) (s : State) : Host.Outcome State Fault Refusal :=
  .next (dispatchVec s c .ld f e (memUses f) (resv (fn.val == 0 && resvFields f true true false (usesScale f.fmt) false true true)))

/-- VST (R177). -/
def execVst (c : Fin 1280) (fn : Fin 64) (f : Met FmtV Ecc) (s : State) : Host.Outcome State Fault Refusal :=
  .next (dispatchVec s c .st f.word f.found (memUses f.word)
    (resv (fn.val == 0 && resvFields f.word true false true (usesScale f.word.fmt) false true true)))

/-- VCVT (R177, R178). -/
def execVcvt (c : Fin 1280) (fn : Fin 64) (f : FmtV) (s : State) : Host.Outcome State Fault Refusal :=
  .next (dispatchVec s c .cvt f .clean [] (onlyFn0 fn (resv (resvFields f true true true false false false false))))

end Sys2Proof.Machine
end

