-- ==== Sys2Proof/Machine/Cores.lean ====
section
/-! DEFINITION. Machine/Cores.lean: the power states of cores, core and cluster resets, the die networks, spare
substitution, handovers of banks and the size of the line cache (R137 to R149, R195 to R204, R412 to R421). -/

namespace Sys2Proof.Machine

/-! ## Power states (R138, R139) -/

/-- `COR_CTRL.PWR_REQ` as a write applies it: 0 ON, 1 RETAIN, 2 and 3 OFF (R138, R156). While the core is RUNNING it waits
for the next HALTED or MOVE_WAIT. -/
def pwrRequest (s : State) (c p : Nat) : State :=
  let st := coreState s c
  let k := getCore s c
  if p = 0 then
    if (st = csOff ∨ st = csRetained) ∧ !k.asked ∧ k.goal.isNone then
      govRequest (modCore s c fun k => { k with asked := true }) (if st = csOff then .corePower c else .coreReturn c)
    else if st = csHalted ∨ st = csMoveWait then modCore s c fun k => { k with goal := none }
    else s
  else if p = 1 then (if st = csHalted ∨ st = csMoveWait then setGoal s c csRetained else s)
  else if st = csHalted ∨ st = csMoveWait ∨ st = csFaulted ∨ st = csRetained then setGoal (dropPower s c) c csOff
  else if st = csOff ∧ (getCore s c).goal.isNone then dropPower s c
  else s

/-- The time of a transition in beats (R138): 5 µs from OFF, 2 µs from RETAINED, 1 µs down. -/
def goalBeats (st goal : Nat) : Nat :=
  if goal = csOff ∨ goal = csRetained then 100 else if st = csRetained then 200 else 500

/-- A transition is over (R138): a core powered up has undefined scratchpad contents and registers, one switched off loses
them. -/
def transitionDone (s : State) (c : Nat) : State :=
  match (getCore s c).goal with
  | none => s
  | some (g, t) =>
    let st := coreState s c
    if nowBeat s < t + goalBeats st g then s
    else
      let s := modCore s c fun k => { k with goal := none }
      if g = csRetained then
        setCoreState (modCore s c fun k => { k with wasWait := st == csMoveWait }) c csRetained
      else if g = csOff then setCoreState (scrambleCore (loseScratch s c) c) c csOff
      else if st = csOff ∨ st = csSpare then settle (setCoreState (scrambleCore (loseScratch s c) c) c csHalted) c
      else if g = csRunning then setCoreState s c g
      else settle (setCoreState s c g) c

/-- CORE_TRANSITION_DONE (R138). -/
def execCoreTransitionDone (c : Fin 1280) (s : State) : Host.Outcome State Fault Refusal := .next (transitionDone s c)

/-! ## Core resets (R417, R419, R572) -/

/-- The reset of a position takes effect: registers, queues, codebook slots, wake-pending bit (R161, R417, R572). -/
def coreResetDone (s : State) (c : Nat) : State :=
  let st := coreState s c
  let off := st == csOff || st == csRetained || st == csSpare
  let s := modCore s c fun k =>
    { Core.init with
      clock0 := dieClock s (corDie c)
      goal := if off then k.goal else none
      asked := k.asked && off
      wasWait := k.wasWait }
  let s := setF s COR_STAT_WAKE_PEND c 0 0
  if off then pwrRequest s c (getF s COR_CTRL_PWR_REQ c 0) else settle (setCoreState s c csHalted) c

/-- Nothing that the position issued is still open (R419). -/
def coreDrained (s : State) (c : Nat) : Bool :=
  let k := getCore s c
  k.outstanding == 0 && k.dmaLive == 0 && k.wait.isNone

/-- A core reset begins (R417, R419): dispatch stops, what has not issued is discarded, and the items already issued may
complete until the drain limit. -/
def coreReset (s : State) (c : Nat) : State :=
  let w := (getCore s c).wait
  let s := stopCore (modCore s c fun k => { k with wait := none }) c
  let s := modCore s c fun k => { k with wait := w }
  let lim := getF s MGT_RST_DRAIN 0 0
  if lim = 0 then coreResetDone (absorbCore s c) c
  else if coreDrained s c then coreResetDone s c
  else modCore s c fun k => { k with resetAt := some (s.time.tempoNo + lim) }

/-- A write of `COR_CTRL` (R138, R156): ignored by a SPARE or FAILED position; RESET is performed alone, with PWR_REQ
stored and applied after it, also while a reset drains. -/
def corCtrl (s : State) (c v : Nat) : State :=
  let st := coreState s c
  if st = csSpare ∨ st = csFailed then s
  else
    let s := setF s COR_CTRL_PWR_REQ c 0 (bitsOf v 5 4)
    if (getCore s c).resetAt.isSome then s
    else if hasBit v 3 then
      let t := coreReset s c
      if (getCore t c).resetAt.isSome then t else pwrRequest t c (bitsOf v 5 4)
    else
      let s := if hasBit v 2 ∧ st = csFaulted then settle (setCoreState s c csHalted) c else s
      let s := if hasBit v 1 ∧ st = csRunning then haltCore s c else s
      let s := if hasBit v 0 ∧ coreState s c = csHalted ∧ !(getCore s c).asked then
          govRequest (modCore s c fun k => { k with asked := true }) (.coreRun c) else s
      pwrRequest s c (bitsOf v 5 4)

/-- Clusters in reset (`MGT_RST_STAT.CLUSTERS`). -/
def showClusters (s : State) : State := setF s MGT_RST_STAT_CLUSTERS 0 0 s.cluResets.length

/-- Lines held by a cluster's cache. -/
def cluLines (s : State) (cl : Nat) : List (Nat × LineRec) :=
  (s.lines.filter fun e => e.1 / 2 ^ 50 == cl).map fun e => (e.1 % 2 ^ 50, e.2)

/-- Every line of a cluster's cache leaves it: M written back, E with PUT_E, S dropped (R212). -/
def flushCache (s : State) (cl : Nat) : State := forAll (cluLines s cl) s fun s e => leaveLine s cl e.1 e.2

/-- The positions of a cluster that take part in its reset. -/
def cluCores (cl : Nat) : List Nat := (List.range 40).map fun i => cl / 4 * 160 + cl % 4 * 40 + i

/-- The cluster DMA unit's own copies (R338, R417). -/
def cdmaCopy (s : State) (cl : Nat) (r : CopyRec) : Bool :=
  match r.kind with
  | .table _ => copyEngine s r.site r.req == cl % 4
  | _ => false

/-- A cluster reset is over: its positions are reset, its cache is empty and its DMA unit has nothing open. At the drain
limit what is left is absorbed, and lines not written back within `CLU_HO_TMO` are lost (R212, R417, R419). -/
def cluResetCheck (s : State) (cl : Nat) : State :=
  match SMap.find s.cluResets cl with
  | none => s
  | some t0 =>
    let due := decide (t0 + getF s MGT_RST_DRAIN 0 0 ≤ s.time.tempoNo)
    let site := cluSite cl
    let s := if due then absorbWhere s site (fun _ => false) (cdmaCopy s cl) else s
    let s := forAll (cluCores cl) s fun s c =>
      if (getCore s c).resetAt.isNone ∨ coreState s c = csFailed then s
      else if due then coreResetDone (absorbCore s c) c
      else if coreDrained s c then coreResetDone s c
      else s
    let lim := getF s CLU_HO_TMO cl 0
    let s := if lim ≠ 0 ∧ t0 + lim ≤ s.time.tempoNo then forAll (cluLines s cl) s fun s e => dropLine s cl e.1 else s
    let open_ := (cluCores cl).any (fun c => (getCore s c).resetAt.isSome && coreState s c != csFailed) ||
      !(cluLines s cl).isEmpty || s.copies.any (fun r => r.site == site && cdmaCopy s cl r)
    if open_ then s
    else setF (showClusters { s with cluResets := SMap.erase s.cluResets cl }) MGT_RST_STAT_LAST 0 0 1

/-- A cluster reset begins (R417, R418): refused at a site without a partition, absorbed in a reset of the site. -/
def clusterReset (s : State) (cl : Nat) : State :=
  let site := cluSite cl
  if (partOf s site).isNone then raiseFor (setF s MGT_RST_STAT_LAST 0 0 2) cMGT 0 20 .noPart
  else if siteResetting s site ∨ (SMap.find s.cluResets cl).isSome then setF s MGT_RST_STAT_LAST 0 0 3
  else
    let s := showClusters { s with cluResets := SMap.insert s.cluResets cl s.time.tempoNo }
    let s := forAll (cluCores cl) s fun s c =>
      if coreState s c = csFailed ∨ coreState s c = csSpare then s else coreReset s c
    cluResetCheck (flushCache s cl) cl

/-- RESET_DRAIN_LIMIT (R414, R419): of a core, or of a cluster. Before the limit it ends a reset whose items have all
completed. -/
def execResetDrainLimit (cluster : Bool) (n : Fin 1280) (s : State) : Host.Outcome State Fault Refusal :=
  .next (if cluster then cluResetCheck s (n % 32)
    else match (getCore s n).resetAt with
      | none => s
      | some t =>
        let due := decide (t ≤ s.time.tempoNo)
        if coreState s n = csFailed then
          (if due then modCore (absorbCore s n) n fun k => { k with resetAt := none, tiles := [] } else s)
        else if due then coreResetDone (absorbCore s n) n
        else if coreDrained s n then coreResetDone s n
        else s)

/-! ## Die network and ratios (R147, R149, R454) -/

/-- A link of a die (R145, R152): to the hub, between neighbours, or from the hub to the packet engine. -/
def dieLinkField (g : Nat) : Field :=
  if g = 0 then CDI_LINK_FAIL else if g = 1 then CDI_LINK_FAIL_X else CDI_HUB_FAIL

/-- Who waits for the data of a flit: a request's tag, or a copy's packet. -/
def flitLost (s : State) (site tag : Nat) : State :=
  match findTag s site (tag % 4096) with
  | none => s
  | some t =>
    if t.gen ≠ tag / 4096 % 16 then s
    else
      pumpSite (acceptAnswer s site tag .uncorrectable 0) site

/-- FLIT_CRC_FAIL (R147): a flit of a link (group 0 to 2, link number) failed; `n` replays were tried, and a replay
succeeds unless `n` is 4 and it fails too. The tag is that of the packet or transfer it carried. -/
def execFlitCrcFail (d : Fin 8) (g : Fin 3) (link : Fin 32) (ok : Bool) (tag : Fin 65536) (s : State) :
    Host.Outcome State Fault Refusal :=
  .next (if ok then raise (bumpF s CDI_NET_CE d 0 1) cCDI d 1
    else if g.val = 1 ∧ 16 ≤ link.val then s
    else
      let f := dieLinkField g
      let m := getF s f d 0
      let s := raise (bumpF s CDI_NET_UE d 0 1) cCDI d 2
      let s := if hasBit m link then s else fuseRepair (raise (setF s f d 0 (setBit m link)) cCDI d 3) 4 (dieSite d) (g + 4 * link.val)
      flitLost s (dieSite d) tag)

/-- RATIO_DECREASE (R454): a die takes the lower ratio that thermal management, the governor or firmware has decided. -/
def execRatioDecrease (d : Fin 8) (s : State) : Host.Outcome State Fault Refusal :=
  .next (if getF s CDI_CLK_RATIO d 0 < dieWant s d then setRatio s d (dieWant s d) else s)

/-! ## Spares (R412 to R415) -/

/-- SPARE_SUBSTITUTION (R414, R415): at a boundary, once the spare is HALTED and nothing of the failed position is in
flight; `ok` says that the spare passed its power-up and first check. -/
def execSpareSubstitution (c : Fin 1280) (ok : Bool) (s : State) : Host.Outcome State Fault Refusal :=
  .next (if !(s.substs.any fun x => x.pos == c.val) then s
    else if !ok then spareFails s c
    else if atBoundary s && coreState s (rowSpare c) == csHalted && nothingInFlight s c then substitute s c
    else s)

/-- A write of `MGT_RETIRE` with GO (R412): the position that holds the logical ID fails. -/
def retireLid (s : State) (lid : Nat) : State :=
  match corOfLid s lid with
  | some c => failCore s c
  | none => s

/-! ## Handovers (R196 to R202) -/

/-- What of a cluster's cores waits in a queue goes on where it can: the accesses that waited for a bank proceed (R197). -/
def pumpClu (s : State) (clu : Nat) : State :=
  forAll ((s.cores.filter fun e => corClu e.1 == clu).map (·.1)) s fun s c =>
    let k := getCore s c
    let s := if k.engQ = [] then s else pumpEng s c
    let s := if k.vecQ = [] then s else pumpVec s c
    if k.dmaQ = [] then s else dmaPump s c

/-- The bank in which a unit of a copy's destination lies. -/
def copyUnitBank (s : State) (r : CopyRec) (u : Nat) : Option Bank :=
  match placeOf s r.site (gaOfs (r.req.dst + 64 * u)) with
  | .bank b _ => some b
  | _ => none

/-- The packets of a copy, by their first unit, that are still to be written to the bank. -/
def copyToBank (s : State) (r : CopyRec) (b : Bank) : List Nat :=
  let n := r.req.pkt + 1
  (List.range r.req.units).filter fun u =>
    u % n == 0 && !r.got.contains u &&
    (List.range n).any fun i => decide (u + i < r.req.units) && copyUnitBank s r (u + i) == some b

/-- Copies accepted before the handover whose local end lies in the bank and that still write to it (R197). A copy's source is
read when it issues. -/
def bankCopies (s : State) (b : Bank) : List CopyRec :=
  s.copies.filter fun r =>
    decide (r.id < (b.next s).since) && decide (r.waiting ≠ 0) && isHere s r.req.dst && gaSite r.req.dst == r.site &&
    r.site == dieSite (b.clu / 4) && copyToBank s r b != []

/-- Requests of others that wait at the site for something else than the bank's new owner (R197). -/
def bankInbound (s : State) (b : Bank) : List HotReq :=
  let site := dieSite (b.clu / 4)
  (hotQueue s (2 ^ 60 + site)).filter fun h =>
    !reqHeld s site h.ingress h.pkt && (ownCopy s site h.pkt).isNone &&
    (match placeOf s site (gaOfs h.pkt.dst) with
      | .bank x _ => x == b
      | _ => false)

/-- HANDOVER_DONE (R197): nothing accepted before the write remains. -/
def execHandoverDone (cluster : Bool) (inst : Fin 1280) (n : Fin 32) (s : State) : Host.Outcome State Fault Refusal :=
  let b := bankOf cluster inst n
  .next (if b.get s b.sState = 1 ∧ bankTiles s b = [] ∧ bankCopies s b = [] then pumpClu (bankEffect s b 1) b.clu else s)

/-- The core that owns a bank under the settings in force. -/
def bankCore (s : State) (b : Bank) : Option Nat :=
  if b.get s b.sClass ≠ 1 then none else if b.cluster then corOfLid s (b.id s) else some b.inst

/-- HANDOVER_FORCED (R198): a core that owned the bank faults and its tiles there end without output; copy packets still
to be written end CANCELLED, and inbound accesses ACCESS_DENIED. -/
def execHandoverForced (cluster : Bool) (inst : Fin 1280) (n : Fin 32) (s : State) : Host.Outcome State Fault Refusal :=
  let b := bankOf cluster inst n
  let due := SMap.get s.bankJobs 0 b.key
  .next (if b.get s b.sState ≠ 1 ∨ getF s CLU_HO_TMO b.clu 0 = 0 ∨ s.time.tempoNo + 1 < due then s
    else
      let ts := bankTiles s b
      let s := match bankCore s b with
        | some c => faultCore s c fcBankOwner uScalar 0 (getCore s c).pc
        | none => s
      let s := forAll ts s fun s t => modCore s t.1 fun k => { k with
        tiles := k.tiles.erase t.2
        accValid := clearBit k.accValid (t.2.eng * 2 + t.2.bank) }
      let s := forAll (bankCopies s b) s fun s r =>
        let us := copyToBank s r b
        let s := modCopy s r.id fun r => { r with got := r.got ++ us }
        forAll us s fun s u =>
          copyAnswer (logItem s r.site (.copy r.id) 3 .cancelled (r.req.dst + 64 * u) r.tag) r.id .cancelled
      let site := dieSite (b.clu / 4)
      let key := 2 ^ 60 + site
      let hs := bankInbound s b
      let s := putHot s key ((hotQueue s key).filter fun h => !hs.contains h)
      let s := forAll hs s fun s h =>
        drainSub (answer (denyInbound s b 2) site h.pkt .accessDenied 0 0) h.pkt.epoch
      pumpClu (bankEffect s b 3) b.clu)

/-- BANK_SLEEP_DONE (R201): the bank has reached its level; OFF loses the contents. -/
def execBankSleepDone (cluster : Bool) (inst : Fin 1280) (n : Fin 32) (s : State) : Host.Outcome State Fault Refusal :=
  let b := bankOf cluster inst n
  .next (if b.get s b.sState ≠ 3 then s
    else
      let p := (b.next s).pwr
      let s := b.put (b.put s b.sPwr p) b.sState 0
      if p = 2 then bankLose s b else s)

/-- BANK_WAKE_DONE (R201): after admission by the governor, the bank has woken. -/
def execBankWakeDone (cluster : Bool) (inst : Fin 1280) (n : Fin 32) (s : State) : Host.Outcome State Fault Refusal :=
  let b := bankOf cluster inst n
  .next (if b.get s b.sState = 2 ∧ SMap.get s.bankJobs 0 b.key ≠ 0 then
      b.put (b.put { s with bankJobs := SMap.set s.bankJobs 0 b.key 0 } b.sPwr 0) b.sState 0
    else s)

/-- The value that a write of a bank's `_SET` register names, with GO (R196). -/
def bankWrite (s : State) (b : Bank) (v : Nat) : State :=
  bankHandover s b (bitsOf v 14 12) (bitsOf v 11 0) (bitsOf v 17 16) (bitsOf v 23 18) (bitsOf v 25 24)

/-! ## The line cache (R203, R204) -/

/-- Banks of a cache by its size. -/
def lcBanks (size : Nat) : List Nat :=
  (List.range 32).filter fun n => decide (32 - (if size = 0 then 0 else 2 ^ size) ≤ n)

/-- The settings by which a bank joins the line cache, and by which it leaves it (R204). -/
def lcJoin (s : State) : BankNext := bankSettings s 5 0 0 0 0
def lcLeave (s : State) : BankNext := bankSettings s 4 0 0 0 0

/-- The banks that a size asks for and that are not yet CACHE's; a failed bank is left out (R204, R413). -/
def lcJoins (s : State) (cl size : Nat) : List Bank :=
  ((lcBanks size).map fun n => (⟨true, cl, n⟩ : Bank)).filter fun b => b.get s b.sClass != 5 && b.get s b.sClass != 7

/-- The cache's new size is being applied: banks that join go over to CACHE, each once no other handover of it is in progress,
and lines whose set goes away leave (R204). A write while CHANGING is ignored. -/
def lcApply (s : State) (cl size : Nat) : State :=
  if getF s CLU_LC_STAT_STATE cl 0 = 1 then s
  else
    let old := getF s CLU_LC_STAT_SIZE cl 0
    let s := { s with lcNext := SMap.set s.lcNext 0 cl (size + 1) }
    let s := setF s CLU_LC_STAT_STATE cl 0 1
    let s := forAll (lcJoins s cl size) s fun s b => if b.get s b.sState = 0 then b.start s (lcJoin s) else s
    let keep := if size = 0 then 0 else 128 * 2 ^ size
    forAll (cluLines s cl) s fun s e =>
      if size < old ∧ keep ≤ e.1 % (128 * 2 ^ old) then leaveLine s cl e.1 e.2 else s

/-- LC_CHANGE_DONE (R204): the banks that join are CACHE's, no line is left in the sets that go away, and no line is on its way to
the cache. -/
def execLcChangeDone (cl : Fin 32) (s : State) : Host.Outcome State Fault Refusal :=
  let old := getF s CLU_LC_STAT_SIZE cl 0
  let size := SMap.get s.lcNext 0 cl - 1
  let joins := lcJoins s cl size
  let keep := if size = 0 then 0 else 128 * 2 ^ size
  .next (if getF s CLU_LC_STAT_STATE cl 0 ≠ 1 then s
    else if joins ≠ [] then
      forAll joins s fun s b => if b.get s b.sState = 0 then b.start s (lcJoin s) else s
    else if (size < old ∧ (cluLines s cl).any (fun e => decide (keep ≤ e.1 % (128 * 2 ^ old)))) ∨
        s.fills.any (fun w => w.cluster == cl.val) then s
    else
      let s := forAll ((lcBanks old).filter fun n => !(lcBanks size).contains n) s fun s n =>
        let b : Bank := ⟨true, cl.val, n⟩
        if b.get s b.sClass = 7 then s
        else b.put (b.adopt { s with bankNext := SMap.insert s.bankNext b.key (lcLeave s) }) b.sPwr 0
      let s := setF (setF s CLU_LC_STAT_SIZE cl 0 size) CLU_LC_STAT_STATE cl 0 (if size = 0 then 0 else 2)
      { s with lcNext := SMap.set s.lcNext 0 cl 0 })

end Sys2Proof.Machine
end

