-- ==== Sys2Proof/Machine/Stacks.lean ====
section
/-! DEFINITION. Machine/Stacks.lean: scrub, refresh, failures and the logic-layer reset of the memory stacks (R227 to R244). -/

namespace Sys2Proof.Machine

/-! ## The logic-layer reset (R241 to R243) -/

/-- Tempo 0 of the reset: PHASE becomes DRAIN (R242). -/
def stackResetBegin (s : State) (k : Nat) : State :=
  bumpF (setF s MST_STAT_PHASE k 0 1) MST_RST_CNT k 0 1

/-- A trigger of the reset (R241): absorbed while the sequence runs; tempo 0 is the boundary at or after it. -/
def stackReset (s : State) (k : Nat) : State :=
  let x := getStack s k
  if x.resetFrom.isSome ∨ stackFailed s k then s
  else
    let s := putStack s k { x with resetFrom := some (boundaryAfter s 0), resetLen := 42, exitOk := false }
    if atBoundary s then stackResetBegin s k else s

/-- STACK_WATCHDOG (R241). -/
def execStackWatchdog (k : Fin 8) (s : State) : Host.Outcome State Fault Refusal := .next (stackReset s k)

/-- The keys of the queues at a stack: its lines', and its site's. -/
def stackQueues (s : State) (k : Nat) : List Nat :=
  (s.hot.map (·.1)).filter fun key => if 2 ^ 60 ≤ key then key - 2 ^ 60 == stackSite k else lineStack key == k

/-- Requests whose access has not begun complete with TARGET_RESETTING and have no effect (R242, R243). -/
def stackRefuseAll (s : State) (k : Nat) : State :=
  let site := stackSite k
  let s := forAll (stackQueues s k) s fun s key =>
    let hs := hotQueue s key
    forAll hs (putHot s key []) fun s h =>
      let s := match h.held with
        | some l => freeCells s l (pktCells h.pkt)
        | none => s
      drainSub (answer s site h.pkt .targetResetting 0 (retryAfter s site)) h.pkt.epoch
  forAll (s.dirs.filter fun e => lineStack e.1 == k) s fun s e =>
    forAll e.2.waiting (putDir s e.1 { e.2 with waiting := [] }) fun s w => dirRefuse s w e.1 .targetResetting

/-- STACK_DRAIN_LIMIT (R242). -/
def execStackDrainLimit (k : Fin 8) (s : State) : Host.Outcome State Fault Refusal :=
  .next (match (getStack s k).resetFrom with
    | none => s
    | some t =>
      if t + 2 ≤ s.time.tempoNo ∧ getF s MST_STAT_PHASE k 0 = 1 then setF (stackRefuseAll s k) MST_STAT_PHASE k 0 2 else s)

/-- The exit from self-refresh is asked of the governor once (R242, R451). -/
def stackExit (s : State) (k : Nat) : State :=
  if (getStack s k).exitOk ∨ govHas s (fun g => g == .stack k) then s else govRequest (setF s MST_STAT_PHASE k 0 5) (.stack k)

/-- Does the stack serve accesses: not failed, not in reset, not in self-refresh. -/
def stackServes (s : State) (k : Nat) : Bool := !stackFailed s k && !stackResetting s k && !(getStack s k).asleep

/-- What a boundary brings to a stack: tempo 0 of its reset (R242), or, in service, the progress of its repair copy (R239). -/
def stackBoundary (s : State) (k : Nat) : State :=
  match (getStack s k).resetFrom with
  | none => if stackServes s k then evacStep s k else s
  | some t => if s.time.tempoNo = t then stackResetBegin s k else s

/-- What beat 15 of a tempo brings to a stack in reset (R242): the phases at the latest times of the table. A retrain that takes
longer moves its end with the length of the sequence (R244). -/
def stackBeat (s : State) (k : Nat) : State :=
  match (getStack s k).resetFrom with
  | none => s
  | some t =>
    let n := s.time.tempoNo
    let p := getF s MST_STAT_PHASE k 0
    if p = 2 ∧ t + 2 ≤ n then setF s MST_STAT_PHASE k 0 3
    else if p = 3 ∧ t + 12 ≤ n then setF s MST_STAT_PHASE k 0 4
    else if p = 4 ∧ t + (getStack s k).resetLen ≤ n + 2 then stackExit s k
    else s

/-- STACK_RESET_DONE (R242): each step begins when the one before it has finished, so it may come early; the exit from
self-refresh waits for the governor. A stack that has still to be trained by bring-up is then TRAINING (R245). -/
def execStackResetDone (k : Fin 8) (s : State) : Host.Outcome State Fault Refusal :=
  let x := getStack s k
  .next (if x.resetFrom.isNone ∨ getF s MST_STAT_PHASE k 0 < 2 ∨ stackFailed s k then s
    else if !x.exitOk then stackExit s k
    else
      let s := putStack s k { x with resetFrom := none, resetLen := 42, exitOk := false }
      raise (setF s MST_STAT_PHASE k 0 (if hasBit (getF s MGT_BOOT_STAT_DONE 0 0) 2 then 0 else 6)) cMST k 0)

/-! ## Scrub and refresh (R227 to R229) -/

/-- Does a request for the bank wait. -/
def bankWaits (s : State) (ch bank : Nat) : Bool :=
  let k := ch / 128
  s.hot.any fun e => e.2.any fun h =>
    gaSite h.pkt.dst == stackSite k && (let l := dramAt s k (gaOfs h.pkt.dst)
      l.ch == ch && l.bankNo == bank)

/-- Does a burst belong to the service range or to the used reserve, whose granules are the topmost (R220, R227, R235). -/
def scrubbed (s : State) (k ofs : Nat) : Bool :=
  decide (ofs < getF s MST_CAP_MIB k 0 * 2 ^ 20) ||
  (decide ((36864 - 6 * getF s MST_RESERVE_USED k 0) * 2 ^ 20 ≤ ofs) && decide (ofs < 36864 * 2 ^ 20))

/-- SCRUB_READ (R227): a burst of the stack is read, when no request for its bank waits. -/
def execScrubRead (k : Fin 8) (burst : Nat) (e : Ecc) (s : State) : Host.Outcome State Fault Refusal :=
  let ofs := burst * 64
  let l := dramAt s k ofs
  .next (if !stackServes s k ∨ getF s MST_CTRL_SCRUB_EN k 0 = 0 ∨ !scrubbed s k ofs ∨ bankWaits s l.ch l.bankNo then s
    else
      let s := dramFound s k ofs e
      if isUe s (physStack k ofs) then dramUe s k ofs else s)

/-- Refresh commands of a bank in a window (R229). -/
abbrev refreshMax : Nat := 776

/-- REFRESH_COMMAND (R229): it may be postponed for up to 8 intervals while a request for the bank waits. -/
def execRefreshCommand (ch : Fin 1024) (bank : Fin 48) (s : State) : Host.Outcome State Fault Refusal :=
  let k := ch.val / 128
  let key := ch.val % 128 * 64 + bank.val
  let x := getStack s k
  .next (if !stackServes s k then s
    else
      let p := SMap.get x.postponed 0 key
      if bankWaits s ch bank ∧ p < 8 then putStack s k { x with postponed := SMap.set x.postponed 0 key (p + 1) }
      else
        putStack s k { x with
          postponed := SMap.set x.postponed 0 key 0
          refreshed := SMap.set x.refreshed 0 key ((SMap.get x.refreshed 0 key + 1) % refreshMax) })

/-! ## Failures (R230 to R239) -/

/-- LANE_FAILURE (R232): of a via of a channel. During a reset the retraining takes longer (R244). -/
def execLaneFailure (ch : Fin 1024) (via : Fin 20) (s : State) : Host.Outcome State Fault Refusal :=
  let k := ch.val / 128
  let x := getStack s k
  .next (if stackFailed s k then s
    else
      let s := if x.resetFrom.isSome then putStack s k { x with resetLen := 200 } else s
      viaFail s ch via)

/-- LAYER_FAILURE (R234). -/
def execLayerFailure (k : Fin 8) (layer : Fin 12) (s : State) : Host.Outcome State Fault Refusal :=
  .next (layerFail s k layer)

/-- EVAC_DONE (R237, R239, R244): the copy that runs has read its last unit, and the code may have found an error in a burst of it, with
no further repair of what it leaves. A copy does not run while its stack is in reset. -/
def execEvacDone (e : EvacEnd) (s : State) : Host.Outcome State Fault Refusal :=
  let k := e.stack
  let ofs := e.burst * 64
  .next (if !stackServes s k then s
    else
      let x := getStack s k
      let mine := match x.evacs with
        | [] => false
        | v :: _ => evacCovers x k v ofs
      let s := if !mine then s
        else match e.ecc with
          | .clean => s
          | .corrected => countCe s k (dramLoc k ofs).ch
          | .lane _ => countCe s k (dramLoc k ofs).ch
          | .uncorrectable => markUe s (physStack k ofs) true
          | .bank => markUe s (physStack k ofs) true
      pumpSite (evacDone s k) (stackSite k))

/-! ## Refresh window (R228) -/

/-- The hottest layer as a housekeeping round measures it, in 0.1 °C: the window follows it, REFRESH_FAST on entry. In
self-refresh the DRAM follows its own temperature, and the window the first round after it (R244). -/
def stackTemp (s : State) (k : Nat) (t : Int) : State :=
  let s := setF s MST_TEMP k 0 (min 255 (max 0 (t / 10)).toNat)
  let thr : Int := getF s MST_REFRESH_THR_C k 0
  if stackResetting s k ∨ (getStack s k).asleep then s
  else if getF s MST_REFRESH_FAST k 0 = 0 then
    if thr * 10 ≤ t then raise (setF s MST_REFRESH_FAST k 0 1) cMST k 11 else s
  else if t ≤ (thr - 3) * 10 then setF s MST_REFRESH_FAST k 0 0 else s

end Sys2Proof.Machine
end

