-- ==== Sys2Proof/Machine/Taps.lean ====
section
/-! DEFINITION. Machine/Taps.lean: the sets of taps of the calibrated items, the temperature of a ring, and the heater codes that the
sets give (R268, R270, R467). -/

namespace Sys2Proof.Machine

/-! ## Items (R464, R474) -/

/-- The key of an item. -/
def calKey (cls site item : Nat) : Nat := cls * 2 ^ 24 + site * 2 ^ 20 + item

/-- Direction and index of a ring item. -/
def ringItem (item : Nat) : Nat × Nat := (item / 256 % 2, item % 256)

/-- Taps of an item. -/
def calTaps (cls : Nat) : Nat := if cls = 0 then 19 else if cls = 1 then 12 else if cls = 2 then 3 else 2

/-! ## Sets (R467) -/

/-- The sets of an item: at first the one that bring-up filled. -/
def setsOf (s : State) (cls site item : Nat) : List CalSet :=
  match SMap.get s.calSets [] (calKey cls site item) with
  | [] =>
    let seed := SMap.get s.calFirst 0 (if cls = 2 then 0 else 2)
    let tap := Config.bringUpTap seed (calKey cls site item)
    [⟨tap 63, (List.range (calTaps cls)).map tap⟩]
  | l => l

/-- The distance of two numbers. -/
def gap (a b : Int) : Nat := (a - b).natAbs

/-- Interpolated between, or extrapolated from, two sets. -/
def between (a b : CalSet) (t : Int) : List Int :=
  let d := b.temp - a.temp
  (a.taps.zip b.taps).map fun p => if d = 0 then p.1 else p.1 + (p.2 - p.1) * (t - a.temp) / d

/-- The taps in use at a temperature from sets in order of temperature, and whether they are extrapolated. -/
def tapsFrom (t : Int) : List CalSet → List Int × Bool
  | [] => ([], false)
  | [a] => (a.taps, decide (a.temp ≠ t))
  | a :: b :: l =>
    if t < a.temp then (if gap a.temp t ≤ 10000 then between a b t else a.taps, true)
    else if t ≤ b.temp then (between a b t, false)
    else match l with
      | [] => (if gap b.temp t ≤ 10000 then between a b t else b.taps, true)
      | _ => tapsFrom t (b :: l)

/-- The taps in use of an item at a temperature (R467). -/
def tapsAt (s : State) (cls site item : Nat) (t : Int) : List Int × Bool :=
  tapsFrom t (sortBy (fun a b => decide (a.temp < b.temp)) (setsOf s cls site item))

/-! ## Heater codes (R268, R270) -/

/-- The reading of a temperature channel in 0.1 °C, if it has one. -/
def chTemp (s : State) (ch : Nat) : Option Int :=
  match SMap.find s.therm.chans ch with
  | some v => if v / 2 ^ 16 = 0 then some (toSigned 16 (v % 2 ^ 16)) else none
  | none => none

/-- The present temperature of a ring in m°C (R467): its nearest housekeeping channel, one of the eight of its site on the Canvas
(R457), advanced each tempo by the site's heat rate; before the first round, that of its first set (log entry 134, DESIGN CHOICE). -/
def ringTemp (s : State) (dir site n : Nat) : Int :=
  let k := calKey 0 site (256 * dir + n)
  match chTemp s (592 + 8 * site + Config.nearestChannel k % 8) with
  | some t => t * 100 + SMap.get s.therm.rise 0 site
  | none => ((setsOf s 0 site (256 * dir + n)).head?.map fun x => x.temp).getD 0

/-- The heater code that a ring's sets give for a wavelength at its present temperature (R270; log entry 134, DESIGN CHOICE). -/
def expectCode (s : State) (dir site n l : Nat) : Nat :=
  Config.ringCode (tapsAt s 0 site (256 * dir + n) (ringTemp s dir site n)).1 l % 2 ^ 16

/-- The park code of a ring (R268): midway between the codes of two adjacent wavelengths, which two the manual leaves open (log
entry 134, DESIGN CHOICE). -/
def parkCode (s : State) (dir site n : Nat) : Nat :=
  let l := Config.parkLambda (calKey 0 site (256 * dir + n)) % 63
  (expectCode s dir site n l + expectCode s dir site n (l + 1)) / 2

end Sys2Proof.Machine
end

