-- ==== Sys2Proof/Machine/Canvas.lean ====
section
/-! DEFINITION. Machine/Canvas.lean: the circuits of the Canvas: rings, grants, releases, tuning, mislocks, comb sources
and parking (R249 to R290). -/

namespace Sys2Proof.Machine

/-! ## Rings (R250, R268, R269, R285) -/

/-- The state fields of a ring: transmit (`dir` 0) or receive (1). -/
def ringSt (dir : Nat) : Field := if dir = 0 then PRT_RING_TX_STATE else PRT_RING_RX_STATE
def ringPeer (dir : Nat) : Field := if dir = 0 then PRT_RING_TX_PEER else PRT_RING_RX_PEER
def ringLam (dir : Nat) : Field := if dir = 0 then PRT_RING_TX_LAMBDA else PRT_RING_RX_LAMBDA
def ringHeat (dir : Nat) : Field := if dir = 0 then PRT_RING_TX_HEATER else PRT_RING_RX_HEATER
def ringsUsed (dir : Nat) : Field := if dir = 0 then PRT_RINGS_TX_USED else PRT_RINGS_RX_USED
def ringsFailed (dir : Nat) : Field := if dir = 0 then PRT_RINGS_FAILED_TX_FAILED else PRT_RINGS_FAILED_RX_FAILED

/-- The state codes of a ring (R285). -/
abbrev rgFree : Nat := 0
abbrev rgClaimed : Nat := 1
abbrev rgReady : Nat := 2
abbrev rgActive : Nat := 3
abbrev rgCal : Nat := 4
abbrev rgHeldOut : Nat := 5
abbrev rgSweep : Nat := 6
abbrev rgFailed : Nat := 7

/-- A ring given a state, with the counts of `PRT_RINGS` and `PRT_RINGS_FAILED`. -/
def setRing (s : State) (dir site n st : Nat) : State :=
  let old := getF s (ringSt dir) site n
  let one := fun (b : Bool) => if b then 1 else 0
  let s := setF s (ringSt dir) site n st
  let s := setF s (ringsUsed dir) site 0 (getF s (ringsUsed dir) site 0 + one (st != 0) - one (old != 0))
  setF s (ringsFailed dir) site 0 (getF s (ringsFailed dir) site 0 + one (st == 7) - one (old == 7))

/-- The key of a ring. -/
def ringKey (dir site n : Nat) : Nat := (dir * 16 + site) * 256 + n

/-- What is kept of a ring besides its register: 0 mislocks, 1 sweep start. -/
def ringGet (s : State) (dir site n k : Nat) : Nat := SMap.get s.ringData 0 (ringKey dir site n * 4 + k)
def ringPut (s : State) (dir site n k v : Nat) : State :=
  { s with ringData := SMap.set s.ringData 0 (ringKey dir site n * 4 + k) v }

/-- A byte of a site's crosstalk matrix: block, target ring, source ring (R269). -/
def crosstalk (s : State) (dir site block i j : Nat) : Nat :=
  bitsOf (getF s (if dir = 0 then PRT_XT_TX else PRT_XT_RX) site (block * 4 + i)) (8 * j + 7) (8 * j)

/-- The heater code of a ring: a parked one holds its park code (R268). -/
def heaterOf (s : State) (dir site n : Nat) : Nat :=
  if getF s (ringSt dir) site n = rgFree ∧ bootDone s 4 then parkCode s dir site n else getF s (ringHeat dir) site n

/-- The neighbourhood of a ring whose heater changes by `d` codes is compensated by −C × the change, C being the byte over 1,024
(R269; a code counts as power, log entry 33, DEDUCED); a parked ring stays at its park code. -/
def compensate (s : State) (dir site n : Nat) (d : Int) : State :=
  let lane := n / 4
  let j := n % 4
  forAll ([(0, lane), (1, lane + 1)] ++ (if lane = 0 then [] else [(2, lane - 1)])) s fun s b =>
    if 64 ≤ b.2 then s
    else forAll (List.range 4) s fun s i =>
      let m := 4 * b.2 + i
      if m = n ∨ getF s (ringSt dir) site m = rgFree then s
      else
        let c := crosstalk s dir site b.1 i j
        setF s (ringHeat dir) site m (min 65535 (max 0 ((getF s (ringHeat dir) site m : Int) - (c * d) / 1024)).toNat)

/-- A heater takes a code (R269). -/
def setHeater (s : State) (dir site n code : Nat) : State :=
  let d : Int := (code : Int) - (heaterOf s dir site n : Int)
  compensate (setF s (ringHeat dir) site n code) dir site n d

/-- A ring is parked (R265, R268, R283): its coupler is open and its heater at the park code. -/
def parkRing (s : State) (dir site n : Nat) : State :=
  if getF s (ringSt dir) site n = rgFailed then s
  else setRing (setHeater s dir site n (parkCode s dir site n)) dir site n rgFree

/-- A ring leaves its park code and begins to be tuned to a wavelength. -/
def tuneRing (s : State) (dir site n peer l : Nat) : State :=
  let s := setRing (setF s (ringHeat dir) site n (heaterOf s dir site n)) dir site n rgClaimed
  setF (setF s (ringPeer dir) site n peer) (ringLam dir) site n l

/-! ## The lane table (R257, R260) -/

/-- Is a place that of a floor circuit (R257). -/
def floorPlace (lane l : Nat) : Bool :=
  58 ≤ l && l ≤ 61 && (decide (lane < 48) || l != 61)

/-- The place of the floor circuit of a pair (R257). -/
def floorOf (src dst : Nat) : Nat × Nat :=
  let k := (dst + 16 - src) % 16
  let q := (k - 1) / 4
  let r := (k - 1) % 4
  (16 * q + (src + 4 * r) % 16, 58 + r)

/-- Lane-table state codes (R287). -/
abbrev ocFree : Nat := 0
abbrev ocFloor : Nat := 1
abbrev ocPinned : Nat := 2
abbrev ocDemand : Nat := 3
abbrev ocReserve : Nat := 4
abbrev ocReserveUsed : Nat := 5
abbrev ocPending : Nat := 6
abbrev ocOut : Nat := 7

/-- Does a reserve wavelength of a lane stand for a lost one (R281). -/
def isSubst (s : State) (lane l : Nat) : Bool :=
  (l == 62 && getF s LAN_SUBST_FOR62 lane 0 != 63) || (l == 63 && getF s LAN_SUBST_FOR63 lane 0 != 63)

/-- The state of an entry without a holder. -/
def idleOcc (s : State) (lane l : Nat) : Nat := if 62 ≤ l ∧ !isSubst s lane l then ocReserve else ocFree

/-- The entry of the lane table for a wavelength of a lane: its own, or that of the reserve wavelength which has taken it over
(R281; log entry 135, DEDUCED). -/
def entryOf (s : State) (lane lam : Nat) : Nat :=
  if lam < 62 ∧ getF s LAN_SUBST_FOR63 lane 0 = lam then 63
  else if lam < 62 ∧ getF s LAN_SUBST_FOR62 lane 0 = lam then 62
  else lam

def setOcc (s : State) (lane l st : Nat) : State := setF s LAN_OCC_STATE lane l st

/-- Does a claim use a ring of the lane: direction, site, ring. -/
def Claim.uses (c : Claim) (dir site r : Nat) : Bool :=
  if dir = 0 then c.src == site && c.txRing == r else c.dst == site && c.rxRing == r

/-- The claims on a lane that use a ring, with their wavelengths. -/
def ringClaims (s : State) (dir site lane r : Nat) : List (Nat × Claim) :=
  (List.range 64).flatMap fun l =>
    let x := getCirc s (circKey lane l)
    ((x.cur.toList ++ x.next.toList).filter fun c => c.uses dir site r).map fun c => (l, c)

/-- Is a ring free from the boundary `e` on by a pending release, and claimed by no other grant (R266). -/
def ringReusable (s : State) (dir site lane r e : Nat) : Bool :=
  match ringClaims s dir site lane r with
  | [(l, c)] =>
    let x := getCirc s (circKey lane l)
    x.cur == some c && (match x.relAt with
      | some t => decide (t ≤ e)
      | none => false)
  | _ => false

/-- A free ring of a site on a lane, that no claim uses. -/
def freeRingOf (s : State) (dir site lane : Nat) : Option Nat :=
  (List.range 4).find? fun r =>
    getF s (ringSt dir) site (4 * lane + r) == rgFree && (ringClaims s dir site lane r).isEmpty

def hasFreeRing (s : State) (dir site lane : Nat) : Bool := (freeRingOf s dir site lane).isSome

/-- A ring that a grant for the boundary `e` may claim (R260, R266): a free one, or one whose release takes effect by `e`. -/
def ringFor (s : State) (dir site lane e : Nat) : Bool :=
  hasFreeRing s dir site lane || (List.range 4).any fun r => ringReusable s dir site lane r e

/-- A ring claimed for a wavelength (R260, R266): a free one, or one whose release takes effect by `e`, which counts as
locked, since the old couplers open and the new close at one boundary (log entry 30, DEDUCED). -/
def claimRing (s : State) (dir site lane l peer e : Nat) : Option (State × Nat × Bool) :=
  match freeRingOf s dir site lane with
  | some r => some (tuneRing s dir site (4 * lane + r) peer l, r, false)
  | none =>
    ((List.range 4).find? fun r => ringReusable s dir site lane r e).map fun r => (s, r, true)

/-- A claim's ring at an end is free again, unless another claim of the lane uses it. -/
def freeRing (s : State) (dir site lane r : Nat) : State :=
  if 4 ≤ r then s
  else if getF s (ringSt dir) site (4 * lane + r) = rgFailed then s
  else match ringClaims s dir site lane r with
    | [] => parkRing s dir site (4 * lane + r)
    | (l, c) :: _ =>
      let n := 4 * lane + r
      let s := setF (setF s (ringPeer dir) site n (if dir = 0 then c.dst else c.src)) (ringLam dir) site n l
      setRing s dir site n rgReady

/-- Both rings of a claim that no entry holds any more. -/
def freeRings (s : State) (lane : Nat) (c : Claim) : State :=
  freeRing (freeRing s 0 c.src lane c.txRing) 1 c.dst lane c.rxRing

/-- The wavelength by which a descriptor names an entry (R281). -/
def lamOf (s : State) (lane l : Nat) : Nat :=
  if l = 62 ∧ isSubst s lane l then getF s LAN_SUBST_FOR62 lane 0
  else if l = 63 ∧ isSubst s lane l then getF s LAN_SUBST_FOR63 lane 0 else l

/-! ## Refusals and completions (R260, R285) -/

/-- A refusal (R260): counted, recorded and raised at the issuing site; firmware's command ends with the result. -/
def refuseGrant (s : State) (issuer origin entry code peer lane l : Nat) : State :=
  let s := bumpF s PRT_GRANT_REFUSED origin 0 1
  let s := setF s PRT_REFUSE_LAST_RESULT origin 0 code
  let s := setF s PRT_REFUSE_LAST_ENTRY origin 0 (if issuer = 0 then entry else 0)
  let s := setF s PRT_REFUSE_LAST_PEER origin 0 peer
  let s := setF s PRT_REFUSE_LAST_LAMBDA origin 0 l
  let s := setF s PRT_REFUSE_LAST_LANE origin 0 lane
  let s := setF s PRT_REFUSE_SRC origin 0 issuer
  let s := if issuer = 2 then setF (setF s PRT_GRANT_STAT_BUSY origin 0 0) PRT_GRANT_STAT_RESULT origin 0 code else s
  raiseWith s cPRT origin 0 .site code

/-- A firmware command has taken effect (R285, R286). -/
def grantDone (s : State) (issuer origin : Nat) : State :=
  if issuer = 2 then
    let s := setF (setF s PRT_GRANT_STAT_BUSY origin 0 0) PRT_GRANT_STAT_RESULT origin 0 1
    raise (setF s PRT_GRANT_STAT_EFFECT origin 0 s.time.count) cPRT origin 10
  else s

/-- The other end of a claim. -/
def Claim.peer (c : Claim) : Nat := if c.origin = c.src then c.dst else c.src

/-- A reserve circuit that served for another is gone: the next boundary is to find one again (R276). -/
def loseResv (s : State) (k : Nat) : State :=
  forAll (s.circs.filter fun e => e.2.resv == some k) s fun s e => putCirc s e.1 { e.2 with resv := none, due := e.2.held }

/-- The entry of a claim without it: the next claim in its place, or none. A release that was pending has then taken effect. -/
def dropClaim (s : State) (lane l : Nat) (c : Claim) : State :=
  let k := circKey lane l
  let x := getCirc s k
  let s :=
    if x.next = some c then putCirc s k { x with next := none }
    else if x.cur = some c then
      let s := if x.relAt.isSome then grantDone s (x.relBy % 4) (x.relBy / 4) else s
      match x.next with
      | some n =>
        let s := putCirc s k { x with cur := some n, next := none, relAt := none, cut := false }
        setOcc (setF (setF (setF s LAN_OCC_SRC lane l n.src) LAN_OCC_DST lane l n.dst) LAN_OCC_REL_PEND lane l 0) lane l ocPending
      | none =>
        let s := putCirc s k { Circ.init with lastSent := x.lastSent }
        setOcc (setF (setF (setF (setF s LAN_OCC_REL_PEND lane l 0) LAN_OCC_SRC lane l 0) LAN_OCC_DST lane l 0)
          LAN_OCC_EFFECT lane l 0) lane l (idleOcc s lane l)
    else s
  let s := if c.issuer = 3 ∧ !c.floor then loseResv s k else s
  freeRings s lane c

/-- A claim is given up with a result. -/
def abandon (s : State) (lane l : Nat) (c : Claim) (code : Nat) : State :=
  refuseGrant (dropClaim s lane l c) c.issuer c.origin c.entry code c.peer lane l

/-! ## Grants (R258 to R267) -/

/-- The stamp in beats of a claim's both locks as both ends know them, or none. -/
def Claim.stamp (c : Claim) : Option Nat :=
  match c.txLock, c.rxLock, c.txSeen, c.rxSeen with
  | some a, some b, some x, some y => some (max (max a b) (max x y))
  | _, _, _, _ => none

/-- A READY message to the other end (R262, R297), with the place in CTR, which the message has no other room for (log
entry 32). -/
def sendReady (s : State) (src dst lane l : Nat) : State :=
  sendPlain s src (stampPkt s src (ctrlPkt opGRANT_READY (gaHere s dst 0) (lane + 64 * l)
    (s.time.beat + 256 * (s.time.count % 2 ^ 56))))

/-- A claim of an entry changed. -/
def modClaim (s : State) (lane l : Nat) (c : Claim) (f : Claim → Claim) : State :=
  let x := getCirc s (circKey lane l)
  putCirc s (circKey lane l) { x with
    cur := x.cur.map fun y => if y = c then f y else y
    next := x.next.map fun y => if y = c then f y else y }

/-- A ring of a claim has locked (R262): its end is stamped, and tells the other; a circuit of the device itself needs no
message (log entry 31, DEDUCED). -/
def ringLocked (s : State) (lane l : Nat) (c : Claim) (dir : Nat) : State :=
  let t := nowBeat s
  if dir = 0 then
    let s := modClaim s lane l c fun y => { y with txLock := some t, txSeen := if c.issuer = 3 then some t else y.txSeen }
    if c.issuer = 3 then s else sendReady s c.src c.dst lane l
  else
    let s := modClaim s lane l c fun y => { y with rxLock := some t, rxSeen := if c.issuer = 3 then some t else y.rxSeen }
    if c.issuer = 3 then s else sendReady s c.dst c.src lane l

/-- A message of a grant between the ends of a pair. -/
def grantMsg (s : State) (op src dst ctr desc : Nat) : State :=
  sendPlain s src (stampPkt s src (ctrlPkt op (gaHere s dst 0) ctr desc))

/-- The claim that a grant may displace or follow at an entry, in the order of R261 and R266. -/
inductive Entry where
  | free
  | follow
  | preempt
  | oust (c : Claim)
  | taken

def entryFor (s : State) (lane l e : Nat) (pin : Bool) : Entry :=
  let x := getCirc s (circKey lane l)
  let st := occState s lane l
  if st = ocFree then .free
  else match x.next, x.cur with
    | some n, _ => if pin && !n.pin then .oust n else .taken
    | none, none => .taken
    | none, some c =>
      let rel := match x.relAt with
        | some t => decide (t ≤ e)
        | none => false
      if rel then .follow
      else if st = ocDemand ∧ pin then .preempt
      else if st = ocPending ∧ pin ∧ !c.pin then .oust c
      else .taken

/-- A release is pending at an entry. -/
def setRelease (s : State) (lane l t by_ : Nat) : State :=
  let x := getCirc s (circKey lane l)
  setF (putCirc s (circKey lane l) { x with relAt := some t, relBy := by_ }) LAN_OCC_REL_PEND lane l 1

/-- An on-demand circuit gives way at a boundary, or sooner where its release is pending (R261, R282). -/
def preempt (s : State) (lane l e : Nat) : State :=
  let x := getCirc s (circKey lane l)
  let s := match x.relAt with
    | some t => setRelease s lane l (min t e) x.relBy
    | none => setRelease s lane l e 0
  raise (raise s cPRT (getF s LAN_OCC_SRC lane l) 3) cPRT (getF s LAN_OCC_DST lane l) 3

/-- A claim takes its entry: at once, or after the release that is pending. -/
def placeClaim (s : State) (lane l : Nat) (c : Claim) : State :=
  let x := getCirc s (circKey lane l)
  match x.cur with
  | none =>
    let s := putCirc s (circKey lane l) { x with cur := some c }
    setOcc (setF (setF s LAN_OCC_SRC lane l c.src) LAN_OCC_DST lane l c.dst) lane l ocPending
  | some _ => putCirc s (circKey lane l) { x with next := some c }

/-- A site cannot be an end of a new circuit: parked or FAILED (R260). -/
def endShut (s : State) (site : Nat) : Bool := siteParked s site || siteFailed s site

/-- The first refusal of R260 that needs no ring and no entry. -/
def grantCheck (s : State) (origin desc : Nat) (pin : Bool) : Option Nat :=
  let lane := bitsOf desc 5 0
  let l := bitsOf desc 11 6
  let src := bitsOf desc 15 12
  let dst := bitsOf desc 19 16
  if src = dst ∨ 61 < l ∨ floorPlace lane l ∨ desc / 2 ^ 29 ≠ 0 then some 7
  else if origin ≠ src ∧ origin ≠ dst then some 5
  else if endShut s src ∨ endShut s dst then some 9
  else if pin != hasBit (getF s LAN_PIN lane 0) l then some 6
  else none

/-- A grant is issued (R258 to R262): by the issuer, at a site, with a descriptor. The circuit that it displaces has given way when
its rings are claimed (R261, R266). -/
def issueGrant (s : State) (issuer origin entry desc : Nat) : State :=
  let lane := bitsOf desc 5 0
  let l := entryOf s lane (bitsOf desc 11 6)
  let src := bitsOf desc 15 12
  let dst := bitsOf desc 19 16
  let pin := issuer == 0 || hasBit desc 28
  let peer := if origin = src then dst else src
  let e := boundaryAfter s (max 3 (bitsOf desc 27 20))
  let no := fun (code : Nat) => refuseGrant s issuer origin entry code peer lane (bitsOf desc 11 6)
  match grantCheck s origin desc pin with
  | some code => no code
  | none =>
    match entryFor s lane l e pin with
    | .taken => no 2
    | kind =>
      let dir := if origin = src then 0 else 1
      let t := match kind with
        | .preempt => preempt s lane l e
        | .oust c => abandon s lane l c 2
        | _ => s
      match claimRing t dir origin lane l peer e with
      | none => no (if ringFor t 0 src lane e then 4 else 3)
      | some (s, r, ready) =>
        let c : Claim := ⟨issuer, origin, entry, pin, src, dst, e, if dir = 0 then r else 4, if dir = 0 then 4 else r,
          none, none, none, none, nowBeat s, false, 0, false⟩
        let s := placeClaim s lane l c
        let s := if issuer = 2 then setF (setF s PRT_GRANT_STAT_BUSY origin 0 1) PRT_GRANT_STAT_RESULT origin 0 0 else s
        let s := grantMsg s opGRANT_MSG origin peer 0 (desc % 2 ^ 28 + (if pin then 2 ^ 28 else 0))
        if ready then ringLocked s lane l c dir else s

/-- A release is issued (R258, R265). -/
def issueRelease (s : State) (issuer origin entry desc : Nat) : State :=
  let lane := bitsOf desc 5 0
  let lam := bitsOf desc 11 6
  let l := entryOf s lane lam
  let src := bitsOf desc 15 12
  let dst := bitsOf desc 19 16
  let pin := issuer == 0 || hasBit desc 28
  let peer := if origin = src then dst else src
  let t := boundaryAfter s (max 1 (bitsOf desc 27 20))
  let no := fun (code : Nat) => refuseGrant s issuer origin entry code peer lane lam
  let x := getCirc s (circKey lane l)
  let held := match x.cur with
    | some c => c.src == src && c.dst == dst && c.pin == pin && x.relAt.isNone
    | none => false
  if src = dst ∨ 61 < lam ∨ floorPlace lane lam ∨ desc / 2 ^ 29 ≠ 0 then no 7
  else if origin ≠ src ∧ origin ≠ dst then no 5
  else if !held then no 10
  else
    let s := setRelease s lane l t (issuer + 4 * origin)
    let s := if issuer = 2 then setF (setF s PRT_GRANT_STAT_BUSY origin 0 1) PRT_GRANT_STAT_RESULT origin 0 0 else s
    grantMsg s opRELEASE_MSG origin peer 0 (desc % 2 ^ 28 + (if pin then 2 ^ 28 else 0))

/-- A write of `PRT_GRANT_CTRL` (R258, R285): ignored while BUSY; of the two bits GRANT comes first. -/
def grantCtrl (s : State) (site v : Nat) : State :=
  if getF s PRT_GRANT_STAT_BUSY site 0 = 1 then s
  else
    let d := getF s PRT_GRANT_DESC site 0
    if hasBit v 0 then issueGrant s 2 site 0 d
    else if hasBit v 1 then issueRelease s 2 site 0 d
    else s

/-- The claim of a place between two ends that waits for a ring at one of them. -/
def claimAt (s : State) (lane l src dst : Nat) (p : Claim → Bool) : Option Claim :=
  let x := getCirc s (circKey lane l)
  (x.next.toList ++ x.cur.toList).find? fun c => c.src == src && c.dst == dst && p c

/-- A link message between sites arrives. -/
def linkMsgRow (a : Arrival) (op : Nat) (s : State) (act : State → State) : State :=
  if a.pkt.op = op then arrive s a fun s _ => (act s, true) else s

/-- The other end claims its ring, or answers with a refusal (R260). -/
def takeGrantMsg (s : State) (site desc : Nat) : State :=
  let lane := bitsOf desc 5 0
  let l := entryOf s lane (bitsOf desc 11 6)
  let src := bitsOf desc 15 12
  let dst := bitsOf desc 19 16
  let dir := if site = src then 0 else 1
  match claimAt s lane l src dst fun c => c.origin != site && (if dir = 0 then c.txRing == 4 else c.rxRing == 4) with
  | none => s
  | some c =>
    if site ≠ src ∧ site ≠ dst then s
    else match claimRing s dir site lane l c.origin c.e with
      | none => grantMsg s opGRANT_REFUSE site c.origin (if dir = 0 then 3 else 4) desc
      | some (s, r, ready) =>
        let c' := if dir = 0 then { c with txRing := r } else { c with rxRing := r }
        let s := modClaim s lane l c fun _ => c'
        if ready then ringLocked s lane l c' dir else s

/-- GRANT_MSG (R260). -/
def execGrantMsg (a : Arrival) (s : State) : Host.Outcome State Fault Refusal :=
  .next (linkMsgRow a opGRANT_MSG s fun s => takeGrantMsg s a.site (pktWord a.pkt))

/-- GRANT_REFUSE (R260): the issuing end frees its claims. -/
def execGrantRefuse (a : Arrival) (s : State) : Host.Outcome State Fault Refusal :=
  .next (linkMsgRow a opGRANT_REFUSE s fun s =>
    let d := pktWord a.pkt
    let l := entryOf s (bitsOf d 5 0) (bitsOf d 11 6)
    match claimAt s (bitsOf d 5 0) l (bitsOf d 15 12) (bitsOf d 19 16) fun c => c.origin == a.site.val with
    | none => s
    | some c => abandon s (bitsOf d 5 0) l c (a.pkt.ctr % 16))

/-- A READY stamp received, in beats of the device's own count since power-on. -/
def stampBeats (s : State) (w : Nat) : Nat :=
  nowBeat s + (w / 256 * 100 + w % 128) - (s.time.count % 2 ^ 56 * 100 + s.time.beat)

/-- GRANT_READY (R262): the other end's lock stamp. -/
def execGrantReady (a : Arrival) (s : State) : Host.Outcome State Fault Refusal :=
  .next (linkMsgRow a opGRANT_READY s fun s =>
    let lane := a.pkt.ctr % 64
    let l := a.pkt.ctr / 64 % 64
    let t := stampBeats s (pktWord a.pkt)
    let x := getCirc s (circKey lane l)
    match (x.next.toList ++ x.cur.toList).find? fun c => c.src == a.site.val || c.dst == a.site.val with
    | none => s
    | some c => modClaim s lane l c fun y =>
        if c.src = a.site.val then { y with rxSeen := some t } else { y with txSeen := some t })

/-- RELEASE_MSG (R265): the other end takes note of a release. -/
def execReleaseMsg (a : Arrival) (s : State) : Host.Outcome State Fault Refusal :=
  .next (linkMsgRow a opRELEASE_MSG s fun s =>
    let d := pktWord a.pkt
    let lane := bitsOf d 5 0
    let l := entryOf s lane (bitsOf d 11 6)
    let x := getCirc s (circKey lane l)
    match claimAt s lane l (bitsOf d 15 12) (bitsOf d 19 16) fun c => x.cur == some c with
    | none => s
    | some _ =>
      if x.relAt.isSome then s else setRelease s lane l (boundaryAfter s (max 1 (bitsOf d 27 20))) (4 * a.pkt.srcSite))

/-! ## Taking effect (R262 to R265) -/

/-- The training word of a circuit (R256). -/
def trainWord (s : State) (lane l : Nat) : Nat :=
  let v := 0xC35A + 2 ^ 16 * lane + 2 ^ 22 * l + 2 ^ 28 * getF s LAN_OCC_SRC lane l + 2 ^ 32 * getF s LAN_OCC_DST lane l +
    2 ^ 36 * getF s LAN_OCC_EFFECT lane l
  v + 2 ^ 56 * crcBits 8 0x07 0xFF (bitsLSB 56 v)

/-- The words that the transmitter sends at the effect (R256, R263), and the first packet from beat 2. -/
def trainCirc (s : State) (lane l : Nat) : State :=
  let x := getCirc s (circKey lane l)
  let s := circuitBack s (getF s LAN_OCC_SRC lane l) (getF s LAN_OCC_DST lane l)
  emit (putCirc s (circKey lane l) { x with lastSent := nowClk s + 32, words := 0 }) (.training lane l (trainWord s lane l))

/-- A circuit that has become idle in the last beat is filled with training words until its next packet (R255). -/
def idleTrain (s : State) : State :=
  forAll s.circs s fun s e =>
    let lane := e.1 / 64
    let l := e.1 % 64
    if e.1 < 4096 ∧ e.2.lastSent ≤ nowClk s ∧ nowClk s < e.2.lastSent + 16 ∧ occServes (occState s lane l) ∧ circLive s (lane, l) ∧
        !siteParked s (getF s LAN_OCC_SRC lane l) then
      emit s (.training lane l (trainWord s lane l))
    else s

/-- The rings of a circuit's claim in a state; a failed one stays so. -/
def setRings (s : State) (lane : Nat) (c : Claim) (st : Nat) : State :=
  let set := fun (s : State) (dir site r : Nat) =>
    if r < 4 ∧ getF s (ringSt dir) site (4 * lane + r) ≠ rgFailed then setRing s dir site (4 * lane + r) st else s
  set (set s 0 c.src c.txRing) 1 c.dst c.rxRing

/-- A circuit that was held out of use returns (R273, R276, R279): with training words; its reserve circuit is released
with LEAD 1. -/
def resumeCirc (s : State) (lane l : Nat) : State :=
  let x := getCirc s (circKey lane l)
  let s := putCirc s (circKey lane l) { x with held := false, backAt := none, resv := none, due := false }
  let s := match x.cur with
    | some c => setRings s lane c rgActive
    | none => s
  let s := trainCirc s lane l
  match x.resv with
  | some k => setRelease s (k / 64) (k % 64) (boundaryAfter s 1) 3
  | none => s

/-- The state of an entry whose claim takes effect. -/
def effectOcc (s : State) (c : Claim) (lane l : Nat) : Nat :=
  if 62 ≤ l ∧ !isSubst s lane l then ocReserveUsed
  else if c.floor then ocFloor else if c.pin then ocPinned else ocDemand

/-- The circuit under calibration whose traffic a reserve circuit takes over starts no further packet (R273). -/
def calTraffic (s : State) (k : Nat) : State :=
  forAll s.calSlots s fun s x => match x.circ with
    | some c => if x.cls = 0 ∧ (getCirc s c).resv = some k then putCirc s c { getCirc s c with held := true } else s
    | none => s

/-- A claim takes effect at this boundary (R262, R263). -/
def takeEffect (s : State) (lane l : Nat) (c : Claim) : State :=
  let late := decide (c.e < s.time.tempoNo)
  let s := setOcc (setF s LAN_OCC_EFFECT lane l s.time.count) lane l (effectOcc s c lane l)
  let s := setRings s lane c rgActive
  let s := if c.issuer = 3 ∧ 62 ≤ l then raise s cLAN lane 5 else s
  let s := calTraffic s (circKey lane l)
  let s := if late then
      forAll [c.src, c.dst] s fun s x => raise (bumpF s PRT_GRANT_LATE x 0 1) cPRT x 1
    else s
  grantDone (trainCirc s lane l) c.issuer c.origin

/-- The boundary at which a claim takes effect (R262): E, or the first at or after the later stamp plus 20 beats. -/
def Claim.effectAt (c : Claim) : Option Nat := c.stamp.map fun t => max c.e ((t + 20 + 99) / 100)

/-- CIRCUIT_EFFECT (R262, R263): at a boundary, while the lane has light. -/
def execCircuitEffect (lane l : Fin 64) (s : State) : Host.Outcome State Fault Refusal :=
  let x := getCirc s (circKey lane l)
  let due : Option Nat → Bool := fun o => match o with
    | some t => decide (t ≤ s.time.tempoNo)
    | none => false
  .next (if !atBoundary s || getF s LAN_STAT_LIT lane 0 == 0 then s
    else match x.cur with
      | none => s
      | some c =>
        if endShut s c.src ∨ endShut s c.dst then s
        else if occState s lane l = ocPending then (if due c.effectAt then takeEffect s lane l c else s)
        else if x.held ∧ due x.backAt then resumeCirc s lane l
        else s)

/-- RELEASE_CUTOFF (R265): from beat 89 of the tempo before the release. -/
def execReleaseCutoff (lane l : Fin 64) (s : State) : Host.Outcome State Fault Refusal :=
  let x := getCirc s (circKey lane l)
  .next (if cutOff s x then putCirc s (circKey lane l) { x with cut := true } else s)

/-- A circuit is released now: couplers open, rings park, the entry passes on (R265, R266). -/
def releaseNow (s : State) (lane l : Nat) : State :=
  match (getCirc s (circKey lane l)).cur with
  | none => s
  | some c =>
    let s := dropClaim s lane l c
    if circuitsOf s c.src c.dst = [] ∧ (getTx s (linkCanvas c.src c.dst)).queue ≠ [] then noCircuit s (linkCanvas c.src c.dst)
    else s

/-- RELEASE_EFFECT (R265). -/
def execReleaseEffect (lane l : Fin 64) (s : State) : Host.Outcome State Fault Refusal :=
  let x := getCirc s (circKey lane l)
  .next (match x.relAt with
    | none => s
    | some t =>
      if atBoundary s && decide (t ≤ s.time.tempoNo) then releaseNow s lane l else s)

/-! ## Tuning (R262, R267) -/

/-- The ring of a claim at an end: site and ring. -/
def Claim.ring (c : Claim) (dir : Nat) : Nat × Nat := if dir = 0 then (c.src, c.txRing) else (c.dst, c.rxRing)
def Claim.lock (c : Claim) (dir : Nat) : Option Nat := if dir = 0 then c.txLock else c.rxLock

/-- The ring of a claim at an end is being tuned: claimed or swept, and not yet locked. -/
def Claim.tuning (s : State) (lane : Nat) (c : Claim) (dir : Nat) : Bool :=
  let st := getF s (ringSt dir) (c.ring dir).1 (4 * lane + (c.ring dir).2)
  decide ((c.ring dir).2 < 4) && (c.lock dir).isNone && (st == rgClaimed || st == rgSweep)

/-- A claim of an entry whose ring at an end is being tuned. -/
def tuningClaim (s : State) (lane l dir : Nat) : Option Claim :=
  let x := getCirc s (circKey lane l)
  (x.next.toList ++ x.cur.toList).find? fun c => c.tuning s lane dir

/-- The beats for which a claim has been tuned, the time in the dark left out (R267). -/
def Claim.tuned (s : State) (lane : Nat) (c : Claim) : Nat :=
  c.ran + (if getF s LAN_STAT_LIT lane 0 = 1 then nowBeat s - c.claimedAt else 0)

/-- Every claim of a lane changed. -/
def modLane (s : State) (lane : Nat) (f : Claim → Claim) : State :=
  { s with circs := s.circs.map fun e =>
      if e.1 < 4096 ∧ e.1 / 64 = lane then (e.1, { e.2 with cur := e.2.cur.map f, next := e.2.next.map f }) else e }

/-- A lane goes dark: the times of R267 stop. -/
def laneDark (s : State) (lane : Nat) : State :=
  setF (modLane s lane fun c => { c with ran := c.tuned s lane }) LAN_STAT_LIT lane 0 0

/-- A lane has light: the times of R267 go on. -/
def laneLight (s : State) (lane : Nat) : State :=
  setF (modLane s lane fun c => { c with claimedAt := nowBeat s }) LAN_STAT_LIT lane 0 1

/-- A circuit in service whose rings are both locked returns at a boundary under R262. -/
def circBack (s : State) (lane l : Nat) : State :=
  let x := getCirc s (circKey lane l)
  match x.cur with
  | none => s
  | some c =>
    let ok := fun (dir : Nat) =>
      let st := getF s (ringSt dir) (c.ring dir).1 (4 * lane + (c.ring dir).2)
      decide ((c.ring dir).2 < 4) && (st == rgReady || st == rgActive)
    if x.held ∧ occServes (occState s lane l) ∧ ok 0 ∧ ok 1 then
      putCirc s (circKey lane l) { x with backAt := some ((nowBeat s + 20 + 99) / 100) }
    else s

/-- RING_LOCK (R262): a claimed ring locks at a heater code, and its end sends a stamped READY. A floor circuit of a site that is
no longer parked so returns (R283). -/
def execRingLock (lane l : Fin 64) (rx : Bool) (code : Fin 65536) (s : State) : Host.Outcome State Fault Refusal :=
  let dir := if rx then 1 else 0
  .next (match tuningClaim s lane l dir with
    | none => s
    | some c =>
      let n := 4 * lane.val + (c.ring dir).2
      let s := setRing (setHeater s dir (c.ring dir).1 n code) dir (c.ring dir).1 n rgReady
      circBack (ringLocked s lane l c dir) lane l)

/-- TUNE_RESWEEP (R267): unlocked 5 µs after its claim, the ring is swept again; not while the lane is dark. -/
def execTuneResweep (lane l : Fin 64) (rx : Bool) (s : State) : Host.Outcome State Fault Refusal :=
  let dir := if rx then 1 else 0
  .next (match tuningClaim s lane l dir with
    | none => s
    | some c =>
      if c.resweep ∨ c.tuned s lane < 500 ∨ getF s LAN_STAT_LIT lane 0 = 0 then s
      else
        let n := 4 * lane.val + (c.ring dir).2
        let s := setRing (setHeater s dir (c.ring dir).1 n 0) dir (c.ring dir).1 n rgSweep
        modClaim s lane l c fun y => { y with resweep := true })

/-! ## Reserve circuits (R254, R273, R282) -/

/-- The lanes with a free reserve wavelength, lit. -/
def reservePlaces (s : State) : List (Nat × Nat) :=
  (List.range 64).flatMap fun n => ([62, 63].filter fun l =>
    occState s n l == ocReserve && getF s LAN_STAT_LIT n 0 == 1).map fun l => (n, l)

/-- The device claims a place and both rings for a pair, from boundary `e`, for a floor circuit or as a pinned one or not (log entry
31, DEDUCED). -/
def deviceClaim (s : State) (lane l src dst e : Nat) (floor pin : Bool) : Option State :=
  match claimRing s 0 src lane l dst e with
  | none => none
  | some (s1, a, ra) =>
    match claimRing s1 1 dst lane l src e with
    | none => none
    | some (s2, b, rb) =>
      let c : Claim := ⟨3, src, 0, pin, src, dst, e, a, b, none, none, none, none, nowBeat s, false, 0, floor⟩
      let s := placeClaim s2 lane l c
      let s := if ra then ringLocked s lane l c 0 else s
      match claimAt s lane l src dst fun _ => true with
      | some c => some (if rb then ringLocked s lane l c 1 else s)
      | none => some s

/-- A reserve circuit for a pair, on the first lane that has a free reserve wavelength and free rings at both ends (R273);
`lead` tempos from the next boundary. The answer is its place. -/
def placeReserve (s : State) (src dst lead : Nat) (floor : Bool) : State × Option Nat :=
  let e := boundaryAfter s 0 + lead
  match (reservePlaces s).find? fun p => hasFreeRing s 0 src p.1 && hasFreeRing s 1 dst p.1 with
  | none => (s, none)
  | some p => match deviceClaim s p.1 p.2 src dst e floor false with
    | some s => (s, some (circKey p.1 p.2))
    | none => (s, none)

/-- The on-demand circuit of a lane that uses a ring of a site, in effect. -/
def demandAt (s : State) (dir site lane : Nat) : Option Nat :=
  (List.range 62).find? fun l => occState s lane l == ocDemand && (match (getCirc s (circKey lane l)).cur with
    | some c => if dir = 0 then c.src == site else c.dst == site
    | none => false)

/-- A floor circuit is placed again on a reserve wavelength of a lit lane, with LEAD 3; an on-demand circuit gives way
where no ring is otherwise free (R282, R284). -/
def placeFloor (s : State) (src dst : Nat) : State :=
  match placeReserve s src dst 3 true with
  | (s, some _) => s
  | (s, none) =>
    let e := boundaryAfter s 0 + 3
    let can := fun (dir site lane : Nat) => hasFreeRing s dir site lane || (demandAt s dir site lane).isSome
    match (reservePlaces s).find? fun p => can 0 src p.1 && can 1 dst p.1 with
    | none => s
    | some p =>
      let free := fun (s : State) (dir site : Nat) =>
        if hasFreeRing s dir site p.1 then s
        else match demandAt s dir site p.1 with
          | some l => preempt s p.1 l e
          | none => s
      (deviceClaim (free (free s 0 src) 1 dst) p.1 p.2 src dst e true false).getD s

/-! ## Mislocks (R276, R277) -/

/-- A ring fails (R277): marked, counted, raised and recorded in the field fuse bank. -/
def ringFail (s : State) (dir site n : Nat) : State :=
  if getF s (ringSt dir) site n = rgFailed then s
  else fuseRepair (raise (ringPut (setRing s dir site n rgFailed) dir site n 1 0) cPRT site 5) 0x10 site (dir + 2 * n)

/-- TUNE_FAIL (R267, R277): still unlocked 8 µs after that. The ring is failed; its grant fails, and a floor circuit is placed
anew. A circuit in service moves to another ring at the next boundary. -/
def execTuneFail (lane l : Fin 64) (rx : Bool) (s : State) : Host.Outcome State Fault Refusal :=
  let dir := if rx then 1 else 0
  .next (match tuningClaim s lane l dir with
    | none => s
    | some c =>
      if !c.resweep ∨ c.tuned s lane < 1300 ∨ getF s LAN_STAT_LIT lane 0 = 0 then s
      else
        let s := ringFail s dir (c.ring dir).1 (4 * lane + (c.ring dir).2)
        let x := getCirc s (circKey lane l)
        if x.cur = some c ∧ x.held then putCirc s (circKey lane l) { x with due := true }
        else
          let s := raise (raise (abandon s lane l c 8) cPRT c.src 2) cPRT c.dst 2
          if c.floor then placeFloor s c.src c.dst else s)

/-- The circuit of a failed ring moves to another free ring of its site on the lane; if there is none it stays on its reserve
circuit (R277). -/
def moveRing (s : State) (lane l dir : Nat) : State :=
  match (getCirc s (circKey lane l)).cur with
  | none => s
  | some c =>
    let site := (c.ring dir).1
    match claimRing s dir site lane l (if dir = 0 then c.dst else c.src) 0 with
    | none => s
    | some (s, r, _) =>
      let s := modClaim s lane l c fun y => if dir = 0 then { y with txRing := r } else { y with rxRing := r }
      ringPut (setRing s dir site (4 * lane + r) rgSweep) dir site (4 * lane + r) 1 (nowBeat s + 1)

/-- The sites of a calibration slot; of a ring's, both ends. -/
def CalSlot.sites (x : CalSlot) : List Nat :=
  x.site :: (match x.other with
    | some o => if x.cls = 0 then [o.1] else []
    | none => [])

/-- The slots in progress, with `CAL_STAT.ACTIVE`; a ring's is one at each end. -/
def putSlots (s : State) (l : List CalSlot) : State :=
  setF { s with calSlots := l } CAL_STAT_ACTIVE 0 0 ((l.map fun x => x.sites.length).sum)

/-- A slot is over, with its outcome in `CAL_LAST` (R474). -/
def slotOver (s : State) (x : CalSlot) (res : Nat) : State :=
  let s := putSlots s (s.calSlots.erase x)
  let s := if x.cls = 0 then forAll x.sites s fun s y => setF s PRT_CAL_STAT_ACTIVE y 0 0 else s
  let s := setF (setF s CAL_LAST_RESULT 0 0 res) CAL_LAST_CLASS 0 0 x.cls
  setF (setF s CAL_LAST_SITE 0 0 x.site) CAL_LAST_ITEM 0 0 x.item

/-- A slot is abandoned: the old values are kept (R466). -/
def slotLost (s : State) (x : CalSlot) : State :=
  raise (bumpF (slotOver s x 4) CAL_ABANDON_CNT 0 0 1) cCAL 0 4

/-- Is a ring coupled. -/
def ringCoupled (s : State) (dir site n : Nat) : Bool :=
  let st := getF s (ringSt dir) site n
  st == rgActive || st == rgCal

/-- A mislock is declared on a circuit's ring (R276, R277): the coupler opens and no packet starts. The next boundary finds a
reserve circuit and starts the sweep. `cause` is 1 identity, 2 window, 3 both. -/
def mislock (s : State) (lane l dir cause : Nat) : State :=
  let x := getCirc s (circKey lane l)
  match x.cur with
  | none => s
  | some c =>
    let site := (c.ring dir).1
    let n := 4 * lane + (c.ring dir).2
    if !occServes (occState s lane l) ∨ 4 ≤ (c.ring dir).2 ∨ !ringCoupled s dir site n then s
    else
      let s := match s.calSlots.find? fun y => y.cls == 0 && y.circ == some (circKey lane l) with
        | some y => slotLost (if getF s (ringSt dir) site n = rgCal then setRings s lane c rgActive else s) y
        | none => s
      let s := bumpF s PRT_MISLOCK site 0 1
      let s := setF (setF s PRT_MISLOCK_LAST_CAUSE site 0 cause) PRT_MISLOCK_LAST_DIR site 0 dir
      let s := setF (setF s PRT_MISLOCK_LAST_LAMBDA site 0 l) PRT_MISLOCK_LAST_LANE site 0 lane
      let s := raise (setF s PRT_MISLOCK_LAST_TEMPO site 0 s.time.count) cPRT site 4
      let k := ringGet s dir site n 0 + 1
      let s := ringPut s dir site n 0 k
      let s := putCirc s (circKey lane l) { x with held := true, backAt := none, words := 0, due := true }
      if 3 ≤ k then ringFail s dir site n else setRing s dir site n rgHeldOut

/-- A ring held out begins its sweep at a boundary: its heater is set to code 0 (R276). -/
def sweepBegin (s : State) (dir site n : Nat) : State :=
  ringPut (setRing (setHeater s dir site n 0) dir site n rgSweep) dir site n 1 (nowBeat s + 1)

/-- What a boundary brings to circuits held out of use: a reserve circuit with LEAD 3, or RESERVE_SHORT, and the sweep of a ring
held out, or another ring in the place of a failed one (R276, R277). -/
def canvasBoundary (s : State) : State :=
  forAll (s.circs.filter fun e => decide (e.1 < 4096) && e.2.due) s fun s e =>
    let lane := e.1 / 64
    let l := e.1 % 64
    let x := getCirc s e.1
    match x.due, x.cur with
    | true, some c =>
      let s := putCirc s e.1 { x with due := false }
      let s := if x.resv.isSome ∨ endShut s c.src ∨ endShut s c.dst then s
        else match placeReserve s c.src c.dst 3 false with
          | (s, some p) => putCirc s e.1 { getCirc s e.1 with resv := some p }
          | (s, none) => raise s cPRT c.src 7
      forAll [0, 1] s fun s dir =>
        let n := 4 * lane + (c.ring dir).2
        let st := getF s (ringSt dir) (c.ring dir).1 n
        if 4 ≤ (c.ring dir).2 then s
        else if st = rgFailed then moveRing s lane l dir
        else if st = rgHeldOut then sweepBegin s dir (c.ring dir).1 n
        else s
    | _, _ => s

/-- Does a training word that passes its CHECK name a circuit other than the receiver's record (R256, R276). -/
def wordOk (w : Nat) : Bool :=
  decide (w % 65536 = 0xC35A) && bitsOf w 63 56 == crcBits 8 0x07 0xFF (bitsLSB 56 (w % 2 ^ 56))
def wordMatches (s : State) (lane l w : Nat) : Bool :=
  bitsOf w 21 16 == lane && bitsOf w 27 22 == l && bitsOf w 31 28 == getF s LAN_OCC_SRC lane l &&
  bitsOf w 35 32 == getF s LAN_OCC_DST lane l && bitsOf w 51 36 == getF s LAN_OCC_EFFECT lane l

/-- MISLOCK (R270, R276): the heater of a coupled ring has been moved to a code by its loop, and is compared with the code that the
ring's sets give; in the same beat a training word may have come, and fail its identity. -/
def execMislock (lane l : Fin 64) (rx : Bool) (code : Fin 65536) (came : Bool) (word : Fin (2 ^ 64)) (s : State) :
    Host.Outcome State Fault Refusal :=
  let dir := if rx then 1 else 0
  .next (match (getCirc s (circKey lane l)).cur with
    | none => s
    | some c =>
      let site := (c.ring dir).1
      let n := 4 * lane.val + (c.ring dir).2
      if 4 ≤ (c.ring dir).2 ∨ !ringCoupled s dir site n then s
      else
        let s := setHeater s dir site n code
        let breach := decide (getF s PRT_WINDOW site 0 < gap (heaterOf s dir site n) (expectCode s dir site n l))
        let ident := came && rx && wordOk word && !wordMatches s lane l word
        if breach ∨ ident then mislock s lane l dir ((if ident then 1 else 0) + (if breach then 2 else 0)) else s)

/-- TRAINING_WORD (R256, R276): four matching words in a row accept the circuit; a valid word of another identity is a
mislock of the receiver. -/
def execTrainingWord (lane l : Fin 64) (w : Fin (2 ^ 64)) (s : State) : Host.Outcome State Fault Refusal :=
  let x := getCirc s (circKey lane l)
  .next (if !occServes (occState s lane l) then s
    else if !wordOk w then putCirc s (circKey lane l) { x with words := if x.words < 4 then 0 else 4 }
    else if wordMatches s lane l w then putCirc s (circKey lane l) { x with words := min 4 (x.words + 1) }
    else mislock s lane l 1 1)

/-- The ring of a circuit in service that is being swept at an end. -/
def sweeping (s : State) (lane l dir : Nat) : Option (Claim × Nat × Nat) :=
  match (getCirc s (circKey lane l)).cur with
  | none => none
  | some c =>
    let site := (c.ring dir).1
    let n := 4 * lane + (c.ring dir).2
    if getF s (ringSt dir) site n = rgSweep ∧ occState s lane l ≠ ocPending then some (c, site, n) else none

/-- SWEEP_LOCK (R276): the ring locks at a heater code, and the circuit returns at a boundary under R262. -/
def execSweepLock (lane l : Fin 64) (rx : Bool) (code : Fin 65536) (s : State) : Host.Outcome State Fault Refusal :=
  let dir := if rx then 1 else 0
  .next (match sweeping s lane l dir with
    | none => s
    | some (_, site, n) =>
      circBack (ringPut (setRing (setHeater s dir site n code) dir site n rgReady) dir site n 1 0) lane l)

/-- SWEEP_TIMEOUT (R277): a sweep that has not locked 8 µs after its start, 1 µs at code 0 included before it. The ring fails, and
the next boundary moves its circuit. -/
def execSweepTimeout (lane l : Fin 64) (rx : Bool) (s : State) : Host.Outcome State Fault Refusal :=
  let dir := if rx then 1 else 0
  .next (match sweeping s lane l dir with
    | none => s
    | some (_, site, n) =>
      let t := ringGet s dir site n 1
      if t = 0 ∨ nowBeat s + 1 < t + 900 then s
      else
        let s := ringFail s dir site n
        putCirc s (circKey lane l) { getCirc s (circKey lane l) with due := true })

/-! ## Heat (R271) -/

/-- A site's fused thermal coefficient, in 1/256 m°C for each heater code (R271; log entry 34, DESIGN CHOICE). -/
def heatCoef (site : Nat) : Nat := Config.fusedValue (2 ^ 80 + site) % 2 ^ 16

/-- HEAT_RATE (R271): the heater codes of rings (receivers from 256 on) as the loops have left them, with the compensation of their neighbours (R269); the rate is the mean
change over the coupled rings, converted, positive while heaters fall. -/
def execHeatRate (site : Fin 16) (codes : List (Fin 512 × Fin 65536)) (s : State) : Host.Outcome State Fault Refusal :=
  let on := codes.filter fun c => getF s (ringSt (c.1.val / 256)) site (c.1.val % 256) == rgActive
  let sum := on.foldl (fun (a : Int) c =>
    a + ((c.2.val : Int) - (getF s (ringHeat (c.1.val / 256)) site (c.1.val % 256) : Int))) 0
  let coupled := (([0, 1].flatMap fun d => (List.range 256).filter fun n => getF s (ringSt d) site n == rgActive)).length
  let rate := if coupled = 0 then 0 else ofSigned 16 (-(sum * heatCoef site) / (256 * coupled))
  let old := fun (c : Fin 512 × Fin 65536) => getF s (ringHeat (c.1.val / 256)) site (c.1.val % 256)
  let s := forAll (on.map fun c => (c, old c)) s fun s c =>
    compensate s (c.1.1.val / 256) site (c.1.1.val % 256) ((c.1.2.val : Int) - (c.2 : Int))
  let s := forAll on s fun s c => setF s (ringHeat (c.1.val / 256)) site (c.1.val % 256) c.2
  let s := { s with therm := { s.therm with rise := SMap.set s.therm.rise 0 site (SMap.get s.therm.rise 0 site + toSigned 16 rate) } }
  let s := setF s PRT_HEAT_RATE_RATE site 0 rate
  .next (if toSigned 16 (getF s PRT_HEAT_RATE_PEAK site 0) < toSigned 16 rate then setF s PRT_HEAT_RATE_PEAK site 0 rate
    else s)

/-! ## Comb sources (R278 to R282, R289) -/

/-- The lanes of a group. -/
def groupLanes (g : Nat) : List Nat := (List.range 16).map fun i => 16 * g + i

/-- The source that feeds a group. -/
def groupSource (s : State) (g : Nat) : Option Nat :=
  (List.range 6).find? fun i => getF s LSR_STAT_STATE i 0 == 3 && getF s LSR_STAT_FEED i 0 == g

/-- The lowest-numbered source in STANDBY. -/
def standby (s : State) : Option Nat := (List.range 6).find? fun i => getF s LSR_STAT_STATE i 0 == 2

/-- Is a lane out of service: every entry of it. -/
def laneDead (s : State) (n : Nat) : Bool := (List.range 64).all fun l => occState s n l == ocOut

/-- A lane goes out of service for good: its circuits are released, its entries are OUT, and its floor circuits are placed
again elsewhere (R282, R284). -/
def laneOut (s : State) (n : Nat) : State :=
  let floors := (s.circs.filter fun e => decide (e.1 < 4096) && e.1 / 64 == n).flatMap fun e =>
    ((e.2.cur.toList ++ e.2.next.toList).filter fun c => c.floor).map fun c => (c.src, c.dst)
  let s := forAll (List.range 64) s fun s l =>
    let x := getCirc s (circKey n l)
    let s := match x.next with
      | some c => abandon s n l c 2
      | none => s
    let s := match (getCirc s (circKey n l)).cur with
      | some c => if occState s n l = ocPending then abandon s n l c 2 else releaseNow s n l
      | none => s
    setOcc s n l ocOut
  forAll floors (setF s LAN_STAT_LIT n 0 0) fun s p => placeFloor s p.1 p.2

/-- A wavelength goes out of service on a lane (R281), and a reserve wavelength takes it over where one is free: its circuit moves
there at the next boundary with LEAD 3. -/
def lambdaOut (s : State) (n l : Nat) : State :=
  if hasBit (getF s LAN_LOST n 0) l ∨ occState s n l = ocOut then s
  else
    let s := raise (setF s LAN_LOST n 0 (setBit (getF s LAN_LOST n 0) l)) cLAN n 2
    let lam := if l = 62 then getF s LAN_SUBST_FOR62 n 0 else if l = 63 then getF s LAN_SUBST_FOR63 n 0 else l
    let sub := if lam = 63 then none
      else if l ≠ 62 ∧ occState s n 62 = ocReserve then some 62
      else if l ≠ 63 ∧ occState s n 63 = ocReserve then some 63 else none
    let x := getCirc s (circKey n l)
    let st := occState s n l
    let s := match x.next with
      | some c => abandon s n l c 2
      | none => s
    let s := match x.cur with
      | some c => if st = ocPending then abandon s n l c 2 else dropClaim s n l c
      | none => s
    let s := setOcc s n l ocOut
    let s := match sub with
      | some r => setOcc (setF s (if r = 62 then LAN_SUBST_FOR62 else LAN_SUBST_FOR63) n 0 lam) n r ocFree
      | none => s
    match x.cur with
    | none => s
    | some c =>
      let again := if c.floor then placeFloor s c.src c.dst else s
      if st = ocPending then again
      else match sub with
        | some r => (deviceClaim s n r c.src c.dst (boundaryAfter s 0 + 3) c.floor c.pin).getD again
        | none => again

/-- The lines of a source that have failed (R281). -/
def failedLines (s : State) (i : Nat) : List Nat := (List.range 64).filter (hasBit (getF s LSR_LINE_FAIL i 0))

/-- A source feeds a group from now on; the group is dark until its rings relock, and the wavelengths whose lines it lacks go out of
service (R281). -/
def feedGroup (s : State) (i g : Nat) : State :=
  let s := raise (setF (setF s LSR_STAT_STATE i 0 3) LSR_STAT_FEED i 0 g) cLSR i 1
  forAll (groupLanes g) s fun s n => forAll (failedLines s i) (setF s LAN_STAT_SOURCE n 0 i) fun s l => lambdaOut s n l

/-- A group has lost its light (R279, R282): its source is FAILED, the lowest standby takes over, or the group stays
dark. -/
def lightLoss (s : State) (g : Nat) : State :=
  match groupSource s g with
  | none => s
  | some i =>
    let s := setF (setF (setF s LSR_STAT_STATE i 0 4) LSR_STAT_FEED i 0 7) LSR_STAT_LOCK i 0 0
    let s := fuseRepair (raise s cLSR i 0) 0x13 0 i
    let s := forAll (groupLanes g) s fun s n => raise (laneDark s n) cLAN n 0
    match standby s with
    | some j => feedGroup s j g
    | none => forAll (groupLanes g) (forAll (groupLanes g) s fun s n => setF s LAN_STAT_SOURCE n 0 7) laneOut

/-- LIGHT_LOSS (R279). -/
def execLightLoss (g : Fin 4) (s : State) : Host.Outcome State Fault Refusal := .next (lightLoss s g)

/-- GROUP_RESUME (R279, R280): at a boundary, the group's rings have relocked on the source that feeds it. -/
def execGroupResume (g : Fin 4) (s : State) : Host.Outcome State Fault Refusal :=
  .next (if !atBoundary s || (groupSource s g).isNone then s
    else forAll (groupLanes g) s fun s n =>
      if getF s LAN_STAT_LIT n 0 = 1 ∨ getF s LAN_STAT_SOURCE n 0 = 7 ∨ laneDead s n then s
      else
        let s := raise (laneLight s n) cLAN n 1
        forAll (List.range 64) s fun s l =>
          if occServes (occState s n l) ∧ circLive s (n, l) then trainCirc s n l else s)

/-- A write of `LSR_CTRL` (R280, R289). -/
def lsrCtrl (s : State) (i v : Nat) : State :=
  let st := getF s LSR_STAT_STATE i 0
  let s := setF s LSR_CTRL_TAKE i 0 (bitsOf v 6 4)
  let s := if hasBit v 7 then
      let s := setF s LSR_CTRL_EN i 0 1
      if st = 0 ∧ !govHas s (fun g => g == .source i) then govRequest s (.source i) else s
    else if st = 3 then s
    else
      let s := setF (govDrop s fun g => g == .source i) LSR_CTRL_EN i 0 0
      if st = 1 ∨ st = 2 then setF (setF s LSR_STAT_STATE i 0 0) LSR_STAT_LOCK i 0 0 else s
  if hasBit v 0 ∧ getF s LSR_STAT_STATE i 0 = 2 then { s with lsrArmed := setBit s.lsrArmed i } else s

/-- PLANNED_SWITCH (R280): at the boundary of `LSR_SWITCH_AT`, a source in STANDBY takes its group; the old source enters
STANDBY if it is healthy, and OFF otherwise. -/
def execPlannedSwitch (i : Fin 6) (s : State) : Host.Outcome State Fault Refusal :=
  let g := getF s LSR_CTRL_TAKE i 0
  .next (if !(atBoundary s && hasBit s.lsrArmed i && s.time.count == getF s LSR_SWITCH_AT i 0) then s
    else
      let s := { s with lsrArmed := clearBit s.lsrArmed i }
      if getF s LSR_STAT_STATE i 0 ≠ 2 ∨ 3 < g then s
      else
        let s := match groupSource s g with
          | some o =>
            let ok := getF s LSR_LINE_FAIL o 0 == 0
            setF (setF (setF s LSR_STAT_FEED o 0 7) LSR_STAT_STATE o 0 (if ok then 2 else 0)) LSR_STAT_LOCK o 0
              (if ok then 1 else 0)
          | none => s
        feedGroup (forAll (groupLanes g) s laneDark) i g)

/-- SOURCE_WARMUP_DONE (R289): the lines are locked to the grid. -/
def execSourceWarmupDone (i : Fin 6) (s : State) : Host.Outcome State Fault Refusal :=
  .next (if getF s LSR_STAT_STATE i 0 = 1 then
      raise (setF (setF s LSR_STAT_STATE i 0 2) LSR_STAT_LOCK i 0 1) cLSR i 4
    else s)

/-- WAVEGUIDE_FAILURE (R284). -/
def execWaveguideFailure (lane : Fin 64) (s : State) : Host.Outcome State Fault Refusal :=
  .next (if laneDead s lane then s else laneOut (fuseRepair s 0x11 0 lane) lane)

/-- A comb line of a source fails (R281): its wavelength goes out on the lanes that the source feeds. -/
def lineFail (s : State) (i l : Nat) : State :=
  if hasBit (getF s LSR_LINE_FAIL i 0) l then s
  else
    let s := raise (setF s LSR_LINE_FAIL i 0 (setBit (getF s LSR_LINE_FAIL i 0) l)) cLSR i 3
    let s := fuseRepair s 0x12 0 (i + 8 * l)
    let g := getF s LSR_STAT_FEED i 0
    if 3 < g then s else forAll (groupLanes g) s fun s n => lambdaOut s n l

/-! ## Parking (R283) -/

/-- A pair of free rings and their reserve wavelength are as before (R274). -/
def freePair (s : State) (k : Nat) (ends : List (Nat × Nat)) : State :=
  let s := forAll ends s fun s e =>
    let r := ringItem e.2
    if getF s (ringSt r.1) e.1 r.2 = rgCal then parkRing s r.1 e.1 r.2 else s
  let s := putCirc s k { getCirc s k with held := false }
  if occState s (k / 64) (k % 64) = ocReserveUsed then setOcc s (k / 64) (k % 64) ocReserve else s

/-- A ring slot is over because one of its sites is parked. -/
def slotParked (s : State) (x : CalSlot) : State :=
  match x.circ with
  | none => slotLost s x
  | some k =>
    if x.free then slotLost (freePair s k ((x.site, x.item) :: x.other.toList)) x
    else match (getCirc s k).cur with
      | some c => slotLost (putCirc (setRings s (k / 64) c rgActive) k { getCirc s k with resv := none, held := false }) x
      | none => slotLost s x

/-- A site is parked: every circuit with an end there but the floor circuits is released, its claims are given up with
PARKED, and its rings park. The floor circuits keep their entries and carry nothing. -/
def parkSite (s : State) (site : Nat) : State :=
  if siteParked s site then s
  else
    let s := forAll (s.calSlots.filter fun x => x.cls == 0 && x.sites.contains site) s slotParked
    let s := forAll (s.circs.filter fun e => decide (e.1 < 4096)) s fun s e =>
      let lane := e.1 / 64
      let l := e.1 % 64
      let mine := fun (c : Claim) => c.src == site || c.dst == site
      let s := match (getCirc s e.1).next with
        | some c => if mine c then abandon s lane l c 9 else s
        | none => s
      match (getCirc s e.1).cur with
      | none => s
      | some c =>
        if !mine c then s
        else if occState s lane l = ocPending then
          (let s := abandon s lane l c 9
           if c.floor then placeFloor s c.src c.dst else s)
        else if c.floor then
          let s := putCirc s e.1 { getCirc s e.1 with held := true, backAt := none, due := false }
          forAll [0, 1] s fun s dir =>
            if (c.ring dir).1 = site ∧ (c.ring dir).2 < 4 then parkRing s dir site (4 * lane + (c.ring dir).2) else s
        else releaseNow s lane l
    raise (setF s PRT_PARK site 0 1) cPRT site 8

/-- A site's floor circuits resume at a boundary under R262, once their rings are tuned to their wavelengths again (R283). -/
def unparkSite (s : State) (site : Nat) : State :=
  if !siteParked s site then s
  else
    let s := setF s PRT_PARK site 0 0
    let s := forAll (s.circs.filter fun e => decide (e.1 < 4096)) s fun s e =>
      let x := getCirc s e.1
      match x.cur with
      | none => s
      | some c =>
        if !c.floor ∨ !x.held then s
        else forAll ([0, 1].filter fun dir => (c.ring dir).1 == site && decide ((c.ring dir).2 < 4)) s fun s dir =>
          let n := 4 * (e.1 / 64) + (c.ring dir).2
          if getF s (ringSt dir) site n = rgFailed then putCirc s e.1 { getCirc s e.1 with due := true }
          else
            let s := tuneRing s dir site n (if dir = 0 then c.dst else c.src) (e.1 % 64)
            let again := fun (c : Claim) =>
              let c := { c with claimedAt := nowBeat s, resweep := false, ran := 0 }
              if dir = 0 then { c with txLock := none } else { c with rxLock := none }
            let x := getCirc s e.1
            putCirc s e.1 { x with cur := x.cur.map again }
    raise s cPRT site 9

end Sys2Proof.Machine
end

