-- ==== Sys2Proof/Machine/Move.lean ====
section
/-! DEFINITION. Machine/Move.lean: move lists and their sequencers (R72 to R86, R93). -/

namespace Sys2Proof.Machine

/-! ## The Tempo's roles and states (R49, R89) -/

abbrev roleSourced : Nat := 0
abbrev roleMaster : Nat := 1
abbrev roleFollower : Nat := 2
abbrev roleLocal : Nat := 3

abbrev tmOff : Nat := 0
abbrev tmAcquiring : Nat := 1
abbrev tmLocked : Nat := 2
abbrev tmHoldover : Nat := 3
abbrev tmSuspended : Nat := 4
abbrev tmLocal : Nat := 5

def tmpState (s : State) : Nat := getF s TMP_STAT_STATE 0 0

/-- The Tempo unit's own state put back. -/
def putTempo (s : State) (t : TempoSt) : State := { s with tempo := t }

/-- Does the role in force receive frames (R49). -/
def framedRole (s : State) : Bool :=
  s.tempo.role == roleFollower || (s.tempo.role == roleSourced && s.tempo.framed == 1)

/-- Does the role in force receive marks. -/
def markedRole (s : State) : Bool := s.tempo.role == roleFollower || s.tempo.role == roleSourced

/-- `TMP_STAT` follows the unit: FRAME_OK reads 0 in holdover and SUSPENDED (R55). -/
def showTempo (s : State) (st : Nat) : State :=
  let ok := s.tempo.flock && st != tmHoldover && st != tmSuspended
  setF (setF s TMP_STAT_STATE 0 0 st) TMP_STAT_FRAME_OK 0 0 (if ok then 1 else 0)

/-! ## Entries and states (R72, R73, R92) -/

/-- The sequencer states of `MOV_STAT.STATE` (R92). -/
abbrev mvIdle : Nat := 0
abbrev mvArmed : Nat := 1
abbrev mvRunning : Nat := 2
abbrev mvStalled : Nat := 3
abbrev mvSuspended : Nat := 4
abbrev mvStopped : Nat := 5
abbrev mvChecking : Nat := 6

def seqState (s : State) (site : Nat) : Nat := getF s MOV_STAT_STATE site 0

/-- A sequencer enters a state; one that enters CHECKING, ARMED or RUNNING makes an accepted epoch stale (R58). -/
def setSeqState (s : State) (site st : Nat) : State :=
  let s := if (st = mvChecking ∨ st = mvArmed ∨ st = mvRunning) ∧ seqState s site ≠ st then
    { s with tempo := { s.tempo with epochStale := true } } else s
  setF s MOV_STAT_STATE site 0 st

/-- A list in force: CHECKING, ARMED, RUNNING or STALLED (R83). -/
def seqActive (s : State) (site : Nat) : Bool :=
  let st := seqState s site
  st == mvChecking || st == mvArmed || st == mvRunning || st == mvStalled

/-- The action codes of R73. -/
abbrev actNop : Nat := 0
abbrev actGrant : Nat := 1
abbrev actRelease : Nat := 2
abbrev actCopy : Nat := 3
abbrev actWake : Nat := 4
abbrev actAdd : Nat := 5
abbrev actSet : Nat := 6
abbrev actCal : Nat := 7
abbrev actHalt : Nat := 8

/-- Entry `idx` of a site's move memory, 256 bits (R72). -/
def moveEntry (s : State) (site idx : Nat) : Nat := SMap.get s.moveMem 0 (site * 4096 + idx)

/-- The fields of R72. -/
def meOfs (e : Nat) : Nat := bitsOf e 15 0
def meBeat (e : Nat) : Nat := bitsOf e 22 16
def meAct (e : Nat) : Nat := bitsOf e 31 24
def meWait (e : Nat) : Bool := hasBit e 32
def meStride (e : Nat) : Bool := hasBit e 33
def meEvt (e : Nat) : Bool := hasBit e 34
def meSync (e : Nat) : Nat := bitsOf e 63 48
def meValue (e : Nat) : Nat := bitsOf e 111 64
def meDeadline (e : Nat) : Nat := bitsOf e 127 112
def meOp0 (e : Nat) : Nat := bitsOf e 191 128
def meOp1 (e : Nat) : Nat := bitsOf e 255 192

/-- Are the reserved bits [23] and [47:35] all 0. -/
def meReserved (e : Nat) : Bool := bitOf e 23 == 0 && bitsOf e 47 35 == 0

/-- Has the entry an uncorrectable error (R81). -/
def entryBad (s : State) (site idx : Nat) : Bool := SMap.get s.moveEcc false (site * 4096 + idx)

/-- An entry's uncorrectable error arises or is gone. -/
def setEntryBad (s : State) (site idx : Nat) (b : Bool) : State :=
  { s with moveEcc := SMap.set s.moveEcc false (site * 4096 + idx) b }

/-! ## The rules of a list (R75) -/

/-- The breach of one entry, by the order of R75: its error code. -/
def entryBreach (s : State) (site base period i : Nat) : Option Nat :=
  let e := moveEntry s site (base + i)
  let p := moveEntry s site (base + i - 1)
  if entryBad s site (base + i) then some 8
  else if 0 < i ∧ (meOfs e < meOfs p ∨ (meOfs e = meOfs p ∧ meBeat e < meBeat p)) then some 1
  else if period ≤ meOfs e then some 2
  else if 99 < meBeat e then some 3
  else if actHalt < meAct e then some 4
  else if meAct e = actWake ∧ siteDie site = none then some 6
  else if !meReserved e then some 12
  else none

/-- The sync objects at other sites that the waits of a list name. -/
def remoteWaits (s : State) (site base len : Nat) : List Nat :=
  ((List.range len).filterMap fun i =>
    let e := moveEntry s site (base + i)
    if meWait e ∧ syncSite (meSync e) ≠ site then some (meSync e) else none).eraseDups

/-- The check of a list (R75): its first breach, as the code for `MOV_STAT.ERR` and the index for `MOV_STAT.POS`, given the
other list and the objects that another list in force needs. -/
def listCheck (s : State) (site base len period : Nat) (other : Nat × Nat) (held : List Nat) : Option (Nat × Nat) :=
  if len = 0 ∨ 4096 < base + len then some (9, base)
  else match (List.range len).findSome? fun i => (entryBreach s site base period i).map fun c => (c, base + i) with
    | some b => some b
    | none =>
      if 0 < other.2 ∧ base < other.1 + other.2 ∧ other.1 < base + len then some (7, max base other.1)
      else if shadowMax < (remoteWaits s site base len ++ held).eraseDups.length then some (10, base)
      else none

/-! ## Subscriptions of lists (R346) -/

/-- The objects that the lists in force at a site need: the list that is armed or runs, and a checked swap. -/
def listObjs (s : State) (site : Nat) : List Nat :=
  let q := getSeq s site
  let st := seqState s site
  (if st = mvArmed ∨ st = mvRunning ∨ st = mvStalled then remoteWaits s site q.base q.len else []) ++
    (match q.swap with
      | some (b, n) => if q.swapChecking then [] else remoteWaits s site b n
      | none => [])

/-- A SWAIT whose shadow gave way goes on by polling (R346). -/
def displaced (s : State) (site obj : Nat) : State :=
  forAll (s.cores.map (·.1)) s fun s c =>
    match (getCore s c).wait with
    | some w =>
      if corSite c = site ∧ w.obj = obj ∧ !w.polling then
        bumpF (modCore s c fun k => { k with wait := some { w with polling := true } }) PRT_SHADOW_POLLS site 0 1
      else s
    | none => s

/-- The subscriptions of a site's lists follow its lists (R346): new objects subscribe, and the others' end where no SWAIT
needs them. -/
def resubscribe (s : State) (site : Nat) : State :=
  let objs := (listObjs s site).eraseDups
  let s := forAll (((SMap.get s.shadows [] site).filter fun h => h.byMove && !objs.contains h.obj).map (·.obj)) s
    fun s o =>
      let s := putShadows s site ((SMap.get s.shadows [] site).map fun h => if h.obj = o then { h with byMove := false } else h)
      if otherWait s site o then s else unsubscribe s site o
  forAll objs s fun s o =>
    match subscribe s site o true with
    | (s, some w, _) => displaced s site w
    | (s, none, _) => s

/-! ## Time of entries (R76, R78) -/

/-- The beats from an instant named by a tempo count to now, negative before it (counts are modulo 2^64). -/
def beatsSince (s : State) (count : Nat) : Int :=
  toSigned 64 ((s.time.count + 2 ^ 64 - count % 2 ^ 64) % 2 ^ 64) * 100 + (s.time.beat : Int)

/-- The memory index of the next entry. -/
def Seq.idx (q : Seq) : Nat := q.base + q.pos

/-- The beats since the scheduled time of the next entry (R76). -/
def sinceDue (s : State) (site : Nat) : Int :=
  let q := getSeq s site
  let e := moveEntry s site q.idx
  beatsSince s (q.start + q.posIter * q.period + meOfs e) - (meBeat e : Int)

/-- Does a loop head with this number lie in the past or now. -/
def headPassed (s : State) (q : Seq) (k : Nat) : Bool := decide (0 ≤ beatsSince s (q.start + k * q.period))

/-- Is the wait of the next entry met (R72, R78; log entry 37, DEDUCED). -/
def moveWaitMet (s : State) (site : Nat) : Bool :=
  let q := getSeq s site
  let e := moveEntry s site q.idx
  let v := seenAt s site (meSync e)
  if !meWait e then true
  else if meStride e then reached v (meValue e * (q.posIter + 1) % 2 ^ 48)
  else decide (meValue e ≤ v)

/-- Entries a sequencer issues in one beat (R77), at the ratio of its own half of the Canvas (R455). -/
def issueMax (s : State) (site : Nat) : Nat := 8 / 2 ^ min 2 (getF s (halfField (halfOf site)) 0 0)

/-- Is the next entry due: a list runs, its loop head and its scheduled time have passed, and the beat has room. -/
def entryDue (s : State) (site : Nat) : Bool :=
  let q := getSeq s site
  let st := seqState s site
  (st == mvRunning || (st == mvStalled && !q.eccStall)) && decide (q.posIter < q.heads) && decide (0 ≤ sinceDue s site) &&
    (q.beatStamp != nowBeat s || decide (q.beatIssued < issueMax s site))

/-! ## The end of a run (R69, R73, R84) -/

/-- The entries of iterations whose loop head has passed that have not issued (log entry 36, DEDUCED). -/
def unissued (q : Seq) : Nat := if q.heads ≤ q.posIter then 0 else (q.heads - 1 - q.posIter) * q.len + (q.len - q.pos)

/-- A run ends in a state, with an event: what has not issued is abandoned, counted and signalled, wakes booked are
withdrawn, and subscriptions end (R69, R74, R84, R346). -/
def endRun (s : State) (site st evt : Nat) : State :=
  let q := getSeq s site
  let was := seqState s site
  let n := if was = mvRunning ∨ was = mvStalled then unissued q else 0
  let s := govDrop s fun k => match k with
    | .wake x i j _ _ _ => x == site && q.bookings.any fun b => b.idx == i && b.iter == j && !b.issued
    | _ => false
  let s := putSeq s site { q with bookings := q.bookings.filter (·.issued), stopReq := none, suspReq := none, eccStall := false, reloaded := 0 }
  let s := raise (setSeqState s site st) cMOV site evt
  let s := if n = 0 then s else raise (bumpF s MOV_ABANDONED site 0 n) cMOV site 12
  resubscribe s site

/-- Every sequencer with a list in force is suspended at its next beat boundary (R59, R69 to R71): at once in the first
clock of a beat, else when the beat has ended (`seqSettle`). -/
def suspendAll (s : State) : State :=
  forAll (List.range 16) s fun s x =>
    if !seqActive s x then s
    else if s.time.clk = 0 then endRun s x mvSuspended 4
    else
      let q := getSeq s x
      putSeq s x { q with suspReq := some (q.suspReq.getD (nowBeat s)) }

/-- Has holdover reached its limit (R69). -/
def limitDue (s : State) : Bool :=
  tmpState s == tmHoldover && decide (getF s TMP_HOLD_LIMIT 0 0 ≤ getF s TMP_HOLD_ELAPSED 0 0)

/-- The limit of holdover takes effect: SUSPENDED, with SUSPEND, before anything else at that instant (R69, R71, R85). -/
def holdLimit (s : State) : State :=
  if limitDue s then suspendAll (raise (showTempo s tmSuspended) cTMP 0 3) else s

/-- A request to end a run at the next beat boundary, written or due in a beat that has ended (R69, R84). -/
def endDue (s : State) (r : Option Nat) : Bool :=
  match r with
  | some b => decide (b < nowBeat s)
  | none => false

/-- What ends a site's run at a beat boundary that has passed takes effect: a STOP (R84) or a suspension (R69), whichever came
first, and of two in one beat the suspension (log entry 118, DESIGN CHOICE). -/
def seqSettle (s : State) (site : Nat) : State :=
  let s := holdLimit s
  let q := getSeq s site
  let stopFirst := match q.stopReq, q.suspReq with
    | some a, some b => decide (a < b)
    | _, none => true
    | none, some _ => false
  if endDue s q.stopReq && stopFirst then endRun s site mvStopped 11
  else if endDue s q.suspReq then endRun s site mvSuspended 4
  else s

/-- The suspensions that fell due at the beat boundary that has come (R69). -/
def suspendDue (s : State) : State :=
  forAll (List.range 16) s fun s x => if (getSeq s x).suspReq.isSome then seqSettle s x else s

/-! ## Loop heads and swaps (R76, R81, R85) -/

/-- The number of the loop head that comes next. -/
def nextHead (s : State) (site : Nat) : Nat := if seqState s site = mvArmed then 0 else (getSeq s site).heads

/-- Has the next loop head of a site's list come. -/
def headDue (s : State) (site : Nat) : Bool :=
  let st := seqState s site
  (st == mvArmed || st == mvRunning || st == mvStalled) && headPassed s (getSeq s site) (nextHead s site)

/-- Does that loop head find entries of an earlier iteration unissued (R81). -/
def headOverrun (s : State) (site : Nat) : Bool :=
  let q := getSeq s site
  seqState s site != mvArmed && decide (q.posIter < q.heads)

/-- Does an armed swap take effect at that loop head (R85). `MOV_SWAP_AT` is read at each loop head (log entry 121, DEDUCED). -/
def headSwaps (s : State) (site : Nat) : Bool :=
  let q := getSeq s site
  !headOverrun s site && !q.swapChecking && q.swap.isSome &&
    decide (0 ≤ toSigned 64 ((q.start + nextHead s site * q.period + 2 ^ 64 - getF s MOV_SWAP_AT site 0) % 2 ^ 64))

/-- A loop head passes (R76): ARMED becomes RUNNING and `MOV_ITER` advances; with OVERRUN when entries of an earlier
iteration remain (R81), and with the swap that takes effect at it (R85). -/
def loopHead (s : State) (site : Nat) : State :=
  let q := getSeq s site
  let k := nextHead s site
  if headSwaps s site then
    let list := q.swap.getD (q.base, q.len)
    let q' := { q with
      start := (q.start + k * q.period) % 2 ^ 64
      period := getF s MOV_PERIOD site 0
      sel := 1 - q.sel
      base := list.1
      len := list.2
      pos := 0
      posIter := 0
      heads := 1
      swap := none }
    let s := putSeq s site q'
    let s := setF (setF (setF s MOV_ITER site 0 0) MOV_CTRL_SWAP_ARM site 0 0) MOV_STAT_ACTIVE site 0 q'.sel
    let s := setSeqState (setF s MOV_STAT_POS site 0 q'.idx) site mvRunning
    resubscribe (raise s cMOV site 8) site
  else
    let s := if headOverrun s site then raise s cMOV site 3 else s
    let s := putSeq s site { q with heads := k + 1 }
    let s := setF s MOV_ITER site 0 k
    if seqState s site = mvArmed then setSeqState s site mvRunning else s

/-- A loop head of a site passes (R76). -/
def execLoopHead (site : Fin 16) (s : State) : Host.Outcome State Fault Refusal :=
  let s := seqSettle s site
  .next (if headDue s site then loopHead s site else s)

/-- A loop head passes with entries of the iteration before unissued (R81). -/
def execMovOverrun (site : Fin 16) (s : State) : Host.Outcome State Fault Refusal :=
  let s := seqSettle s site
  .next (if headDue s site && headOverrun s site then loopHead s site else s)

/-- A loop head at which an armed swap takes effect (R85). -/
def execSwap (site : Fin 16) (s : State) : Host.Outcome State Fault Refusal :=
  let s := seqSettle s site
  .next (if headDue s site && headSwaps s site then loopHead s site else s)

/-! ## Bookings (R74) -/

/-- The wake of an entry in an iteration, as the governor holds it. -/
def wakeKind (s : State) (site idx iter : Nat) : GovKind :=
  let e := moveEntry s site idx
  .wake site idx iter (meOp0 e % 4) (meOp1 e % 2 ^ 36) (wakeStep s site (meOp0 e % 4) (meOp1 e % 2 ^ 36))

/-- An entry's wake is booked: its request joins the governor's queue. -/
def bookWake (s : State) (site idx iter due : Nat) (issued late : Bool) : State :=
  let q := getSeq s site
  govRequest (putSeq s site { q with bookings := q.bookings ++ [⟨idx, iter, due, false, issued, late⟩] })
    (wakeKind s site idx iter)

/-- At the boundary that begins a tempo, the WAKE_CORE entries scheduled in it are booked in list order (R74). -/
def execWakeBooking (site : Fin 16) (s : State) : Host.Outcome State Fault Refusal :=
  let s := seqSettle s site
  let st := seqState s site
  if !atBoundary s ∨ (st ≠ mvRunning ∧ st ≠ mvStalled) then .next s
  else
    let q := getSeq s site
    let k := q.heads - 1
    .next (forAll (List.range q.len) s fun s i =>
      let e := moveEntry s site (q.base + i)
      if meAct e = actWake ∧ beatsSince s (q.start + k * q.period + meOfs e) = 0 ∧
          (q.posIter < k ∨ (q.posIter = k ∧ q.pos ≤ i)) ∧
          !((getSeq s site).bookings.any fun b => b.idx == q.base + i && b.iter == k) then
        bookWake s site (q.base + i) k (nowBeat s + meBeat e) false false
      else s)

/-! ## Issue (R72 to R81) -/

/-- An entry issues: the sequencer moves on to the next, RUNNING, with EVT and lateness as R72 and R79 say; `least` is the
lateness it counts at least (1 for a FORCE, R80). A wake that the governor holds back counts when it takes effect. -/
def issued (s : State) (site least : Nat) : State :=
  let q := getSeq s site
  let idx := q.idx
  let e := moveEntry s site idx
  let late := max least (sinceDue s site).toNat
  let last := q.pos + 1 = q.len
  let q' := { q with
    pos := if last then 0 else q.pos + 1
    posIter := if last then q.posIter + 1 else q.posIter
    beatStamp := nowBeat s
    beatIssued := if q.beatStamp = nowBeat s then q.beatIssued + 1 else 1
    eccStall := false
    reloaded := 0 }
  let s := moveLate s site idx q.posIter late
  let s := setF (setSeqState (putSeq s site q') site mvRunning) MOV_STAT_POS site 0 q'.idx
  if meEvt e then raise (setF s MOV_EVT_IDX site 0 idx) cMOV site 9 else s

/-- The wake of an entry that has issued (R74): at once when admitted, when admitted if the governor holds it, and by a
request of its own when it was not booked. -/
def issueWake (s : State) (site idx iter due : Nat) (late : Bool) : State :=
  let e := moveEntry s site idx
  let q := getSeq s site
  match q.bookings.find? fun b => b.idx == idx && b.iter == iter with
  | some b =>
    if b.admitted then
      wakeAll (putSeq s site { q with bookings := q.bookings.erase b }) site (meOp0 e % 4) (meOp1 e % 2 ^ 36)
    else putSeq s site { q with bookings := q.bookings.map fun x => if x == b then { b with issued := true, late := late } else x }
  | none => bookWake s site idx iter due true late

/-- A window of calibration opens at a site for some classes and a number of tempos; windows join (R465). -/
def openWindow (s : State) (site classes len : Nat) : State :=
  if len = 0 then s
  else forAll (List.range 4) s fun s c =>
    if hasBit classes c then
      { s with calWin := SMap.set s.calWin 0 (site * 4 + c) (max (SMap.get s.calWin 0 (site * 4 + c)) (nowBeat s + 100 * len)) }
    else s

/-- The action of an entry that has issued (R73), with its index, iteration, due instant and lateness. A code that R73
reserves, which only a reload after the check can bring in (R81), has no action (log entry 38, DESIGN CHOICE). -/
def moveAction (s : State) (site idx iter due : Nat) (late : Bool) : State :=
  let e := moveEntry s site idx
  let a := meAct e
  if a = actGrant then issueGrant s 0 site idx (meOp0 e)
  else if a = actRelease then issueRelease s 0 site idx (meOp0 e)
  else if a = actCopy then tableStart s site (meOp0 e % 65536)
  else if a = actWake then (if (siteDie site).isSome then issueWake s site idx iter due late else s)
  else if a = actAdd then inject s site (syncPkt s opSYNC_ADD (meOp0 e % 2 ^ 16) (meOp1 e % 2 ^ 48)) (.moveSync site)
  else if a = actSet then inject s site (syncPkt s opSYNC_SET (meOp0 e % 2 ^ 16) (meOp1 e % 2 ^ 48)) (.moveSync site)
  else if a = actCal then openWindow s site (bitsOf (meOp0 e) 19 16) (bitsOf (meOp0 e) 15 0)
  else if a = actHalt then endRun s site mvStopped 11
  else s

/-- The next entry issues with its action. -/
def issueEntry (s : State) (site least : Nat) : State :=
  let q := getSeq s site
  let d := sinceDue s site
  let late := decide (0 < max (least : Int) d)
  moveAction (issued s site least) site q.idx q.posIter (nowBeat s - d.toNat) late

/-- Must a COPY_START wait for a slot of its engine (R338). -/
def copyWaits (s : State) (site e : Nat) : Bool :=
  let i := meOp0 e % 65536
  meAct e == actCopy && descOk s site i && (descReq (copyDesc s site i)).units != 0 &&
    decide (engineMax ≤ engineBusy s site (copyEngine s site (descReq (copyDesc s site i))))

/-- The next entry of a site issues if it has this action and may issue (R76 to R79, R338). -/
def moveRow (site act : Nat) (s : State) : State :=
  let s := seqSettle s site
  let e := moveEntry s site (getSeq s site).idx
  if entryDue s site && meAct e == act && !entryBad s site (getSeq s site).idx && moveWaitMet s site && !copyWaits s site e
  then issueEntry s site 0 else s

/-- A NOP entry issues (R73). -/
def execMoveNop (site : Fin 16) (s : State) : Host.Outcome State Fault Refusal := .next (moveRow site actNop s)

/-- A GRANT entry issues (R73, R260). -/
def execMoveGrant (site : Fin 16) (s : State) : Host.Outcome State Fault Refusal := .next (moveRow site actGrant s)

/-- A RELEASE entry issues (R73, R265). -/
def execMoveRelease (site : Fin 16) (s : State) : Host.Outcome State Fault Refusal := .next (moveRow site actRelease s)

/-- A COPY_START entry issues (R73, R338, R341). -/
def execMoveCopyStart (site : Fin 16) (s : State) : Host.Outcome State Fault Refusal := .next (moveRow site actCopy s)

/-- A WAKE_CORE entry issues (R73, R74, R139). -/
def execMoveWakeCore (site : Fin 16) (s : State) : Host.Outcome State Fault Refusal := .next (moveRow site actWake s)

/-- A SYNC_ADD entry issues (R73). -/
def execMoveSyncAdd (site : Fin 16) (s : State) : Host.Outcome State Fault Refusal := .next (moveRow site actAdd s)

/-- A SYNC_SET entry issues (R73). -/
def execMoveSyncSet (site : Fin 16) (s : State) : Host.Outcome State Fault Refusal := .next (moveRow site actSet s)

/-- A CAL_WINDOW entry issues (R73, R465). -/
def execMoveCalWindow (site : Fin 16) (s : State) : Host.Outcome State Fault Refusal := .next (moveRow site actCal s)

/-- A HALT entry issues (R73). -/
def execMoveHalt (site : Fin 16) (s : State) : Host.Outcome State Fault Refusal := .next (moveRow site actHalt s)

/-- The next entry's deadline passes with its wait unmet (R80). -/
def execDeadline (site : Fin 16) (s : State) : Host.Outcome State Fault Refusal :=
  let s := seqSettle s site
  let q := getSeq s site
  let e := moveEntry s site q.idx
  if seqState s site = mvRunning ∧ q.posIter < q.heads ∧ meDeadline e ≠ 0 ∧ !moveWaitMet s site ∧
      (meDeadline e * 100 : Int) ≤ sinceDue s site ∧ !entryBad s site q.idx then
    let s := setF (setF s MOV_STALL_IDX site 0 q.idx) MOV_STALL_SYNC site 0 (meSync e)
    .next (setSeqState (raise s cMOV site 2) site mvStalled)
  else .next s

/-- The next entry is read for issue and has an uncorrectable error (R81). -/
def execEntryEccError (site : Fin 16) (s : State) : Host.Outcome State Fault Refusal :=
  let s := seqSettle s site
  let q := getSeq s site
  if entryDue s site then
    let s := putSeq (setEntryBad s site q.idx true) site { q with eccStall := true, reloaded := 0 }
    let s := setF (setF (setSeqState s site mvStalled) MOV_STAT_ERR site 0 8) MOV_STAT_POS site 0 q.idx
    .next (raise s cMOV site 5)
  else .next s

/-! ## Control (R80 to R85) -/

/-- FORCE (R80, R81): the stalled entry issues without its wait, unless its error has not been mended by a whole reload. -/
def seqForce (s : State) (site : Nat) : State :=
  let q := getSeq s site
  if seqState s site = mvStalled ∧ (!q.eccStall ∨ q.reloaded = 8) then issueEntry s site 1 else s

/-- START (R82, R83): refused while a list is in force; else the settings are latched and the check begins. The 8 tempos are
measured in whole beats from the beat of the write (log entry 119, DESIGN CHOICE). -/
def seqStart (s : State) (site : Nat) : State :=
  if seqActive s site then raise (setF s MOV_STAT_ERR site 0 11) cMOV site 13
  else
    let sel := getF s MOV_CTRL_LIST_SEL site 0
    let at_ := getF s MOV_START site 0
    let q := { getSeq s site with
      start := at_
      period := getF s MOV_PERIOD site 0
      sel := sel
      base := getF s MOV_LIST_BASE site sel
      len := getF s MOV_LIST_LEN site sel
      startOk := decide (beatsSince s at_ ≤ -800)
      prior := seqState s site
      stopReq := none
      suspReq := none }
    setSeqState (putSeq s site q) site mvChecking

/-- STOP (R82, R84): a check ends at once; a run ends at the next beat boundary. -/
def seqStop (s : State) (site : Nat) : State :=
  if seqState s site = mvChecking then endRun s site mvStopped 11
  else if seqActive s site then
    let q := getSeq s site
    putSeq s site { q with stopReq := some (q.stopReq.getD (nowBeat s)) }
  else s

/-- `SWAP_ARM` written 1 with no swap armed: the check of the other list begins (R85). -/
def swapArm (s : State) (site : Nat) : State :=
  let q := getSeq s site
  let sel := if seqActive s site then 1 - q.sel else 1 - getF s MOV_CTRL_LIST_SEL site 0
  putSeq (setF s MOV_CTRL_SWAP_ARM site 0 1) site { q with
    swap := some (getF s MOV_LIST_BASE site sel, getF s MOV_LIST_LEN site sel)
    swapChecking := true }

/-- `SWAP_ARM` written 0 with a swap armed: it is disarmed, and its subscriptions end (R85). -/
def swapDisarm (s : State) (site : Nat) : State :=
  resubscribe (putSeq (setF s MOV_CTRL_SWAP_ARM site 0 0) site
    { getSeq s site with swap := none, swapChecking := false }) site

/-- A write of `MOV_CTRL` (R80 to R85), the fields being stored: FORCE, STOP, START, and `SWAP_ARM`, in this order (log entry
120, DESIGN CHOICE); the value of `SWAP_ARM` counts in every write (log entry 39, DEDUCED). -/
def movCtrl (s : State) (site v : Nat) : State :=
  let s := seqSettle s site
  let s := if hasBit v 2 then seqForce s site else s
  let s := if hasBit v 1 then seqStop s site else s
  let s := if hasBit v 0 then seqStart s site else s
  let armed := (getSeq s site).swap.isSome
  if hasBit v 4 then (if armed then s else swapArm s site)
  else if armed then swapDisarm s site else s

/-- The check of a start ends (R75, R82). `ue` names an entry that turns out to have an uncorrectable error. -/
def execListCheckDone (site : Fin 16) (ue : Option (Fin 4096)) (s : State) : Host.Outcome State Fault Refusal :=
  if seqState s site ≠ mvChecking then .next s
  else
    let s := match ue with
      | some i => setEntryBad s site i true
      | none => s
    let q := getSeq s site
    let held := match q.swap with
      | some (b, n) => if q.swapChecking then [] else remoteWaits s site b n
      | none => []
    let other := (getF s MOV_LIST_BASE site (1 - q.sel), getF s MOV_LIST_LEN site (1 - q.sel))
    if !q.startOk then .next (raise (setSeqState (setF s MOV_STAT_ERR site 0 5) site q.prior) cMOV site 13)
    else match listCheck s site q.base q.len q.period other held with
      | some (err, pos) =>
        let s := setF (setF s MOV_STAT_ERR site 0 err) MOV_STAT_POS site 0 pos
        .next (raise (setSeqState s site q.prior) cMOV site 5)
      | none =>
        let s := putSeq s site { q with pos := 0, posIter := 0, heads := 0, eccStall := false, reloaded := 0 }
        let s := setF (setF (setF s MOV_STAT_ERR site 0 0) MOV_STAT_POS site 0 q.base) MOV_ITER site 0 0
        let s := setSeqState (setF s MOV_STAT_ACTIVE site 0 q.sel) site mvArmed
        .next (resubscribe (raise s cMOV site 0) site)

/-- A STOP takes effect at the beat boundary after its write (R84); no later command of the sequencer acts before it. -/
def execStopApply (site : Fin 16) (s : State) : Host.Outcome State Fault Refusal := .next (seqSettle s site)

/-- The check of a swap ends (R75, R85). -/
def execSwapCheckDone (site : Fin 16) (ue : Option (Fin 4096)) (s : State) : Host.Outcome State Fault Refusal :=
  let q := getSeq s site
  match q.swap with
  | none => .next s
  | some (b, n) =>
    if !q.swapChecking then .next s
    else
      let s := match ue with
        | some i => setEntryBad s site i true
        | none => s
      let active := seqActive s site
      let sel := getF s MOV_CTRL_LIST_SEL site 0
      let other := if active then (q.base, q.len) else (getF s MOV_LIST_BASE site sel, getF s MOV_LIST_LEN site sel)
      let held := if active then remoteWaits s site q.base q.len else []
      match listCheck s site b n (getF s MOV_PERIOD site 0) other held with
      | some (err, pos) =>
        let s := putSeq s site { q with swap := none, swapChecking := false }
        let s := setF (setF (setF s MOV_STAT_ERR site 0 err) MOV_STAT_POS site 0 pos) MOV_CTRL_SWAP_ARM site 0 0
        .next (raise s cMOV site 5)
      | none => .next (resubscribe (putSeq s site { q with swapChecking := false }) site)

/-! ## Loading (R86) -/

/-- Do the entries lie in the running list or in an armed swap. A list that is still being checked counts with them (log entry
122, DESIGN CHOICE). -/
def loadTouches (s : State) (site lo n : Nat) : Bool :=
  let q := getSeq s site
  let meets := fun (b len : Nat) => decide (lo < b + len) && decide (b < lo + n)
  (seqActive s site && meets q.base q.len) || (match q.swap with
    | some (b, len) => meets b len
    | none => false)

/-- Is a load of the entries refused: all but a load of the entry alone on which the sequencer stalls (R81, R86). -/
def loadRefused (s : State) (site lo n : Nat) : Bool :=
  let q := getSeq s site
  loadTouches s site lo n && !(seqState s site == mvStalled && q.eccStall && lo == q.idx && n == 1)

/-- An entry has been written whole: its error is gone, and a stalled entry has been reloaded. -/
def entryLoaded (s : State) (site idx : Nat) : State :=
  let q := getSeq s site
  let s := setEntryBad s site idx false
  if q.eccStall && q.idx == idx then putSeq s site { q with reloaded := 8 } else s

/-- A write of `MOV_LOAD_DATA`: the next word of the entry at `MOV_LOAD_IDX`, or LOAD_CONFLICT (R86). -/
def movLoadData (s : State) (site v : Nat) : State :=
  let idx := getF s MOV_LOAD_IDX site 0
  if loadRefused s site idx 1 then raise s cMOV site 10
  else
    let q := getSeq s site
    let w := q.loadWord
    let e := moveEntry s site idx
    let e' := e - placeBits (bitsOf e (32 * w + 31) (32 * w)) (32 * w + 31) (32 * w) + placeBits v (32 * w + 31) (32 * w)
    let s := { s with moveMem := SMap.set s.moveMem 0 (site * 4096 + idx) e' }
    if w < 7 then putSeq s site { q with loadWord := w + 1 }
    else entryLoaded (setF (putSeq s site { q with loadWord := 0 }) MOV_LOAD_IDX site 0 ((idx + 1) % 4096)) site idx

/-- A write of `MOV_LOAD_IDX`: the next word is the entry's first. -/
def movLoadIdx (s : State) (site : Nat) : State := putSeq s site { getSeq s site with loadWord := 0 }

/-- A copy load ends with a status (R86). -/
def loadEnds (s : State) (site : Nat) (st : Status) : State :=
  raise (setF s MOV_DMA_CTRL_STATUS site 0 st.code) cMOV site (if st.success then 6 else 7)

/-- The request of a copy load from a source rounded down to 64 B: the units that hold its entries, in packets of 1,024 B.
Its destination stands for move memory: an offset of the site that counts the bytes read (log entry 117, DESIGN CHOICE). -/
def loadReq (s : State) (site src n : Nat) : CopyReq :=
  ⟨gaHere s site 0, src - src % 64, (src % 64 + 32 * n + 63) / 64, 15, false, false, 0, 0, false, false⟩

/-- Data of a copy load arrive, from byte `ofs` of what it reads on: each entry that they hold whole is written (R86). -/
def loadEntries (s : State) (site ofs : Nat) (bs : List Byte) : State :=
  match (getSeq s site).dma with
  | none => s
  | some (src, dst, n) =>
    let r := src % 64
    forAll ((List.range n).filter fun i => decide (ofs ≤ r + 32 * i) && decide (r + 32 * i + 32 ≤ ofs + bs.length)) s
      fun s i =>
        let v := ofBytesLE ((bs.drop (r + 32 * i - ofs)).take 32)
        entryLoaded { s with moveMem := SMap.set s.moveMem 0 (site * 4096 + (dst + i)) v } site (dst + i)

/-- A packet of a copy load has come with its data; a load that now touches a list in force fails with ACCESS_DENIED and
writes nothing more (log entry 123, DEDUCED). -/
def loadArrives (s : State) (site id ofs : Nat) (bs : List Byte) : State :=
  match (getSeq s site).dma with
  | none => copyAnswer s id .ok
  | some (_, dst, n) =>
    if loadRefused s site dst n then copyAnswer s id .accessDenied else copyAnswer (loadEntries s site ofs bs) id .ok

/-- A copy load reads its packet from unit `u` on: at its own site, once the source serves it, elsewhere by READ_REQ (R86, R339).
`e` is what the code finds at byte `place` of the source. -/
def loadPacket (s : State) (r : CopyRec) (u : Nat) (e : Ecc) (place : Nat) : State :=
  let n := min 16 (r.req.units - u)
  let src := r.req.src + 64 * u
  if isHere s src ∧ gaSite src = r.site then
    let got := fun (s : State) => modCopy s r.id fun r => { r with got := r.got ++ [u] }
    match checkAccess s r.site none r.site (gaOfs src) (64 * n) 2 with
    | (_, .hold) => s
    | (s, .fail st) => copyAnswer (got s) r.id st
    | (s, .pass) =>
      let s := if 64 * u ≤ place ∧ place < 64 * (u + n) then memFound s r.site (gaOfs r.req.src + place) e else s
      match memRead s r.site (gaOfs src) (64 * n) .clean with
      | .done s bs => loadArrives (got s) r.site r.id (64 * u) bs
      | .fail s st => copyAnswer (got s) r.id st
      | .wait => s
  else
    copySend s r { stampPkt s r.site (ctrlPkt opREAD_REQ src 0 (r.req.dst + 64 * u)) with tag := r.tag, cmpReq := true, len := n }

/-- A copy load that waits for a tag takes one when one is free, and its packets are then sent (R86, R339, R342). -/
def loadBegin (s : State) (site : Nat) (e : Ecc) (place : Nat) : State :=
  match (getSeq s site).dma with
  | none => s
  | some (src, _, n) =>
    if s.copies.any fun r => r.kind == .moveLoad site then s
    else match freeSlot s site with
      | none => s
      | some k =>
        let id := s.copyNext
        let q := loadReq s site src n
        let cnt := (q.units + 15) / 16
        let t := takeTag s site k (stampPkt s site (ctrlPkt opREAD_REQ q.src 0 0)) (.copy id)
        let r : CopyRec := ⟨id, site, .moveLoad site, q, 0, cnt, 0, 0, t.2.tag, []⟩
        forAll (List.range cnt) { t.1 with copies := t.1.copies ++ [r], copyNext := id + 1 } fun s i => loadPacket s r (16 * i) e place

/-- A write of `MOV_DMA_CTRL` with GO (R86): a copy load starts, or fails at once. GO during a load is ignored (log entry
40, DEDUCED). -/
def movDma (s : State) (site : Nat) : State :=
  let n := getF s MOV_DMA_CTRL_COUNT site 0
  let dst := getF s MOV_DMA_CTRL_DST site 0
  let src := getF s MOV_DMA_SRC site 0
  let q := getSeq s site
  if q.dma.isSome then s
  else if n = 0 ∨ 4096 < dst + n ∨ src % 32 ≠ 0 then loadEnds s site .addressInvalid
  else if loadRefused s site dst n then loadEnds s site .accessDenied
  else loadBegin (putSeq s site { q with dma := some (src, dst, n) }) site .clean 0

/-- A copy load ends (R86) when every packet has been answered: LOAD_DONE, or the status of its first failure with its entries
undefined. One that waited for a tag, or for its source at its own site, begins; `ecc` is what the code finds at byte `place`
of such a source. -/
def execCopyLoadComplete (site : Fin 16) (ecc : Ecc) (place : Fin (2 ^ 18)) (s : State) : Host.Outcome State Fault Refusal :=
  let s := loadBegin s site ecc place
  let mine := fun (s : State) => s.copies.find? fun r => r.kind == .moveLoad site
  let s := match mine s with
    | some r =>
      if isHere s r.req.src ∧ gaSite r.req.src = r.site then
        forAll (((List.range ((r.req.units + 15) / 16)).map fun i => 16 * i).filter fun u => !r.got.contains u) s fun s u =>
          match mine s with
          | some r => loadPacket s r u ecc place
          | none => s
      else s
    | none => s
  .next (match mine s with
    | some r => if r.waiting = 0 then copyEnd s r else s
    | none => s)

/-- A READ_DATA packet (R297): data of a copy load go into move memory (R86), any other to its destination. -/
def execReadData (a : Arrival) (s : State) : Host.Outcome State Fault Refusal :=
  .next (if a.pkt.op = opREAD_DATA then
    arrive s a fun s ing =>
      match ownCopy s a.site a.pkt with
      | some r => match r.kind with
        | .moveLoad _ => (drainSub (loadArrives s a.site r.id (gaOfs a.pkt.dst) a.pkt.payload) a.pkt.epoch, true)
        | _ => takeReq s a.site ing a.pkt a.ecc (some (viaLink a.site a.via))
      | none => takeReq s a.site ing a.pkt a.ecc (some (viaLink a.site a.via))
    else s)

end Sys2Proof.Machine
end

