-- ==== Sys2Proof/Machine/Tempo.lean ====
section
/-! DEFINITION. Machine/Tempo.lean: the Tempo: roles, frames, epochs, loss and return (R48 to R71, R88 to R91). -/

namespace Sys2Proof.Machine

/-! ## Roles and states (R49, R89) -/

/-- The device is LOCKED, or LOCAL, with the event when it was not (R90). -/
def tempoLocked (s : State) : State :=
  let was := tmpState s
  let st := if s.tempo.role = roleLocal then tmLocal else tmLocked
  let s := showTempo (putTempo s { s.tempo with slewing := false, compare := false, missedMarks := 0 }) st
  if was = tmLocked ∨ was = tmLocal then s else raise s cTMP 0 0

/-- Frame lock is dropped (R55). -/
def dropFrameLock (s : State) : State :=
  let s := putTempo s { s.tempo with flock := false, lastFrame := none, rxCount := none, differs := false, badFrames := 0 }
  showTempo s (tmpState s)

/-- A received count takes the place of the local one (R59, R71): COUNT_JUMP, and every sequencer is suspended. -/
def countJump (s : State) (c : Nat) : State :=
  suspendAll (raise { s with time := { s.time with count := c } } cTMP 0 4)

/-! ## Frames (R54 to R56, R59) -/

/-- The check of the first 112 bits of a frame. -/
def frameCheck (f : Nat) : Nat := crcBits 16 0x1021 0xFFFF (bitsLSB 112 f)

/-- A valid frame: SYNC and CRC (R54). -/
def frameValid (f : Nat) : Bool := bitsOf f 15 0 == 0xD2B4 && bitsOf f 127 112 == frameCheck f

/-- The bit of the module's own frame at a place (R54, R56), but for the CRC. SUSPEND is sent while the device or a sequencer
of it is SUSPENDED, or the last frame received carries it; HOP is 0 in every frame of the module's own, a FOLLOWER's among
them (log entry 124, DEDUCED). -/
def ownBit (s : State) (p : Nat) : Nat :=
  let st := tmpState s
  let hold := st == tmHoldover || st == tmSuspended || st == tmAcquiring
  let susp := st == tmSuspended || s.tempo.rxSuspend || (List.range 16).any fun x => seqState s x == mvSuspended
  if p < 16 then bitOf 0xD2B4 p
  else if p < 80 then bitOf ((s.time.count + 2 ^ 64 - p) % 2 ^ 64) (p - 16)
  else if p = 80 then (if hold then 1 else 0)
  else if p = 81 then (if s.tempo.txNewEpoch then 1 else 0)
  else if p = 82 then (if susp then 1 else 0)
  else 0

/-- A repeating module's bit: as received, with HOP advanced (R56; log entry 41, DEDUCED). -/
def repeatBit (s : State) (p : Nat) : Nat :=
  if 84 ≤ p ∧ p < 88 then bitOf (min 15 (getF s TMP_STAT_HOP 0 0 + 1)) (p - 84) else bitOf s.tempo.rxBits 127

/-- The frame bit of the tempo that begins is sent, with its place in the running check (R54, R56). -/
def sendBit (s : State) : State :=
  let p := s.time.count % 128
  let s := if p = 0 then putTempo s { s.tempo with txCrc := 0xFFFF, txNewEpoch := false } else s
  let b := if 112 ≤ p then bitOf s.tempo.txCrc (p - 112)
    else if framedRole s ∧ tmpState s = tmLocked ∧ s.tempo.flock then repeatBit s p
    else ownBit s p
  let s := if p < 112 then putTempo s { s.tempo with txCrc := crcStep 16 0x1021 s.tempo.txCrc (b == 1) } else s
  if getF s TMP_CTRL_OUT_EN 0 0 = 1 then emit s (.frameBit b) else s

/-- A frame with an invalid check (R55). -/
def frameBad (s : State) : State :=
  let n := s.tempo.badFrames + 1
  let s := raise (putTempo s { s.tempo with lastFrame := none, rxSince := 0, badFrames := n, differs := false }) cTMP 0 5
  if n < 2 then s else dropFrameLock s

/-- A valid frame's count: two in order give frame lock, and the second sets the local count (R55); it is replaced too by a
frame with EPOCH_NEW, or by the second of two in a row that differ from it (R59). What is still to be compared under R71 waits
for that. -/
def frameCount (s : State) (c : Nat) (new : Bool) : State :=
  let now := (c + 127) % 2 ^ 64
  let locks := !s.tempo.flock && s.tempo.lastFrame == some ((c + 2 ^ 64 - 128) % 2 ^ 64)
  let flock := s.tempo.flock || locks
  let s := putTempo s { s.tempo with lastFrame := some c, flock := flock, rxCount := if flock then some now else s.tempo.rxCount }
  let s := if locks then showTempo s (tmpState s) else s
  if s.tempo.compare then s
  else if s.time.count = now then putTempo s { s.tempo with differs := false }
  else if new ∨ locks ∨ s.tempo.differs then
    let s := putTempo s { s.tempo with differs := false }
    if tmpState s = tmLocked then countJump s now else { s with time := { s.time with count := now } }
  else raise (putTempo s { s.tempo with differs := true }) cTMP 0 6

/-- The last 128 bits received make a frame (R54, R55, R59, R70). Without frame lock, only what begins with SYNC is one. -/
def execFrameReceived (s : State) : Host.Outcome State Fault Refusal :=
  let f := s.tempo.rxBits
  if !framedRole s ∨ tmpState s = tmOff ∨ s.tempo.rxSince < 128 ∨ (!s.tempo.flock ∧ bitsOf f 15 0 ≠ 0xD2B4) then .next s
  else if !frameValid f then .next (frameBad s)
  else
    let susp := hasBit f 82
    let s := putTempo s { s.tempo with
      rxSince := 0
      badFrames := 0
      rxSuspend := susp
      suspendDue := susp && (!s.tempo.rxSuspend || s.tempo.suspendDue || (List.range 16).any (seqActive s)) }
    .next (frameCount (setF s TMP_STAT_HOP 0 0 (bitsOf f 87 84)) (bitsOf f 79 16) (hasBit f 81))

/-- A repeating module follows a SUSPEND that it has received (R70), in each frame that carries it. -/
def execSuspendFollow (s : State) : Host.Outcome State Fault Refusal :=
  if s.tempo.suspendDue then
    .next (suspendAll (raise (putTempo s { s.tempo with suspendDue := false }) cTMP 0 3))
  else .next s

/-! ## Roles and epochs (R50, R58) -/

/-- APPLY_EPOCH (R58). -/
def applyEpoch (s : State) : State :=
  let v := getF s TMP_EPOCH_SET 0 0
  let busy := (List.range 16).any fun x =>
    let st := seqState s x
    st == mvChecking || st == mvArmed || st == mvRunning
  if markedRole s ∨ v % 128 ≠ 0 ∨ busy then raise s cTMP 0 8
  else putTempo s { s.tempo with epochNext := some (v, s.tempo.role), epochStale := false }

/-- A write of `TMP_CTRL`, whose other fields are stored (R50, R58): a change of ROLE or FRAMED is refused while a list is in
force. -/
def tmpCtrl (s : State) (v : Nat) : State :=
  let role := bitsOf v 1 0
  let fr := bitOf v 6
  let s := if role = getF s TMP_CTRL_ROLE 0 0 ∧ fr = getF s TMP_CTRL_FRAMED 0 0 then s
    else if (List.range 16).any (seqActive s) then raise s cTMP 0 10
    else setF (setF s TMP_CTRL_ROLE 0 0 role) TMP_CTRL_FRAMED 0 0 fr
  if hasBit v 7 then applyEpoch s else s

/-- At the next boundary a change of role that was accepted takes effect, and the device acquires the Tempo in it (R50). -/
def execRoleApply (s : State) : Host.Outcome State Fault Refusal :=
  let role := getF s TMP_CTRL_ROLE 0 0
  let fr := getF s TMP_CTRL_FRAMED 0 0
  if !atBoundary s ∨ (role = s.tempo.role ∧ fr = s.tempo.framed) then .next s
  else
    let s := putTempo s { s.tempo with
      role := role
      framed := fr
      flock := false
      lastFrame := none
      rxCount := none
      rxSuspend := false
      suspendDue := false
      differs := false
      badFrames := 0
      missedMarks := 0
      compare := true
      slewing := false }
    .next (showTempo s tmAcquiring)

/-- At a frame start an accepted epoch is applied, unless a sequencer has become active or the role has changed since its
write (R58). -/
def execEpochApply (s : State) : Host.Outcome State Fault Refusal :=
  match s.tempo.epochNext with
  | none => .next s
  | some (v, role) =>
    if !atBoundary s ∨ s.time.count % 128 ≠ 0 then .next s
    else
      let ok := !s.tempo.epochStale && role == s.tempo.role
      let s := putTempo s { s.tempo with epochNext := none, txNewEpoch := ok }
      if ok then .next (raise { s with time := { s.time with count := v } } cTMP 0 9) else .next (raise s cTMP 0 8)

/-! ## Lock, loss and return (R63, R67 to R71) -/

/-- The device's loops have locked in the role in force (R50, R63): with frames, once frame lock is held and the counts
agree. -/
def execReferenceLock (s : State) : Host.Outcome State Fault Refusal :=
  let ok := !framedRole s || (s.tempo.flock && s.tempo.rxCount == some s.time.count)
  if tmpState s = tmAcquiring ∧ ok ∧ !s.tempo.slewing then .next (tempoLocked s) else .next s

/-- The Tempo is lost (R67, R68): by its reference, or by three marks in a row (`marks`). Lost again while it slews back, the
device goes on in holdover. -/
def execTempoLost (marks : Bool) (s : State) : Host.Outcome State Fault Refusal :=
  let st := tmpState s
  if s.tempo.role = roleLocal ∨ (marks ∧ (!markedRole s ∨ s.tempo.missedMarks < 3)) then .next s
  else if st = tmLocked ∨ st = tmAcquiring then
    let s := dropFrameLock (putTempo s { s.tempo with compare := true, slewing := false, missedMarks := 0 })
    .next (raise (showTempo (setF s TMP_HOLD_ELAPSED 0 0 0) tmHoldover) cTMP 0 1)
  else if st = tmHoldover ∨ st = tmSuspended then .next (dropFrameLock (putTempo s { s.tempo with slewing := false }))
  else .next s

/-- Holdover reaches its limit (R69). -/
def execHoldoverLimit (s : State) : Host.Outcome State Fault Refusal := .next (holdLimit s)

/-- The input is back and locked, its boundary a phase in ps away and the input in a beat of its tempo (R50, R71): within
10 ns and with its count agreeing the boundary slews back; otherwise count and phase are adopted at once. A limit of holdover
that has been reached comes first. -/
def execTempoReturn (phase : Int) (beat : Fin 100) (s : State) : Host.Outcome State Fault Refusal :=
  let s := holdLimit s
  let st := tmpState s
  let waits := st == tmHoldover || st == tmSuspended || (st == tmAcquiring && s.tempo.compare && framedRole s)
  if !waits ∨ (framedRole s ∧ !s.tempo.flock) then .next s
  else
    let same := !framedRole s || s.tempo.rxCount == some s.time.count
    if same ∧ phase.natAbs ≤ 10000 then
      .next (putTempo (setF s TMP_PHASE_ERR 0 0 (ofSigned 32 phase)) { s.tempo with slewing := true })
    else
      let c := if framedRole s then s.tempo.rxCount.getD s.time.count else s.time.count
      let s := { setF s TMP_PHASE_ERR 0 0 0 with time := { s.time with beat := beat, clk := 0 } }
      .next (tempoLocked (countJump s c))

/-- The slewed boundary is within 100 ps (R71): the device leaves holdover, after a limit of holdover that has been reached.
HOLDOVER_EXIT is raised only where STATE was HOLDOVER or SUSPENDED, not after the slew of a role change (log entry 125,
DEDUCED). -/
def execHoldoverExit (phase : Int) (s : State) : Host.Outcome State Fault Refusal :=
  let s := holdLimit s
  let st := tmpState s
  if s.tempo.slewing ∧ phase.natAbs < 100 then
    let s := tempoLocked (setF s TMP_PHASE_ERR 0 0 (ofSigned 32 phase))
    .next (if st = tmHoldover ∨ st = tmSuspended then raise s cTMP 0 2 else s)
  else .next s

/-! ## The boundary, as the Tempo unit takes it (R57, R67, R68, R88) -/

/-- A mark that is expected and does not come (R67); MARK_MISS is raised for each (log entry 126, DEDUCED). -/
def missMark (s : State) : State :=
  raise (putTempo s { s.tempo with missedMarks := s.tempo.missedMarks + 1 }) cTMP 0 7

/-- One tempo later: count, beat and clock, the bit received with the mark, missed marks, holdover, whose tempos are counted
also in SUSPENDED (log entry 127, DEDUCED), the scan settings, the phase error, which is a free value (log entry 128, DESIGN
CHOICE), and the bit sent. -/
def tempoAdvance (s : State) (mark : Option Bool) : State :=
  let st := tmpState s
  let s := { s with time := ⟨(s.time.count + 1) % 2 ^ 64, 0, 0, s.time.tempoNo + 1⟩ }
  let bit := match mark with
    | some true => 1
    | _ => 0
  let t := s.tempo
  let s := putTempo s { t with
    rxBits := if framedRole s then t.rxBits / 2 + bit * 2 ^ 127 else t.rxBits
    rxSince := if framedRole s then min 128 (t.rxSince + 1) else t.rxSince
    rxCount := t.rxCount.map fun c => (c + 1) % 2 ^ 64
    scanBeat := (List.range 8).map fun p => getF s TMP_SCAN_BEAT 0 p
    scanPeriod := (List.range 8).map fun p => getF s TMP_SCAN_PERIOD 0 p }
  let s := if markedRole s ∧ (st = tmLocked ∨ st = tmAcquiring) then
      (if mark.isSome then putTempo s { s.tempo with missedMarks := 0 } else missMark s)
    else s
  let s := if st = tmHoldover ∨ st = tmSuspended then bumpF s TMP_HOLD_ELAPSED 0 0 1 else s
  sendBit (if st = tmOff ∨ t.role = roleLocal then s else
    let d := draw s
    setF d.2 TMP_PHASE_ERR 0 0 d.1)

end Sys2Proof.Machine
end

