-- ==== Sys2Proof/Machine/Routing.lean ====
section
/-! DEFINITION. Machine/Routing.lean: routing-table versions and their switches, congestion maps and what the fabric
manager does with them, and small tables of the fabric: multicast cache, node number, copy descriptors, sync registers
(R309 to R320, R331, R341, R366). -/

namespace Sys2Proof.Machine

/-! ## Versions of the routing table (R311 to R313) -/

abbrev vsFree : Nat := 0
abbrev vsActive : Nat := 1
abbrev vsDraining : Nat := 2
abbrev vsCopying : Nat := 3

def setVer (s : State) (v st : Nat) : State := setF s (if v % 2 = 0 then FAB_EPOCH_STAT_V0 else FAB_EPOCH_STAT_V1) 0 0 st

/-- The version in use for injection, and the other. -/
def curVer (s : State) : Nat := getF s FAB_EPOCH_STAT_CUR 0 0
def otherVer (s : State) : Nat := 1 - curVer s

/-- A write of `FAB_RT_DATA` (R310, R311): only into a FREE version; reserved bits stay 0. -/
def rtWrite (s : State) (v : Nat) : State :=
  let ver := getF s FAB_RT_IDX_VER 0 0
  if verState s ver = vsFree then
    { s with routes := SMap.set s.routes 0 (ver * 16384 + getF s FAB_RT_IDX_NODE 0 0) (v % 2 ^ 18) }
  else raise s cFAB 0 9

/-- A write of `FAB_CTRL.COPY_ACTIVE` (R311). -/
def rtCopyActive (s : State) : State :=
  if verState s (otherVer s) = vsFree ∧ s.rtArmed.isNone then setVer s (otherVer s) vsCopying else raise s cFAB 0 9

/-- The entries of one version as another's. -/
def rtCopied (s : State) (src dst : Nat) : SMap Nat :=
  let keep := s.routes.filter fun e => e.1 / 16384 != dst
  (s.routes.filter fun e => e.1 / 16384 == src).foldl (fun m e => SMap.insert m (dst * 16384 + e.1 % 16384) e.2) keep

/-- The copy of the ACTIVE version is complete (R311). -/
def execRtCopyDone (s : State) : Host.Outcome State Fault Refusal :=
  let o := otherVer s
  if verState s o = vsCopying then .next (setVer { s with routes := rtCopied s (curVer s) o } o vsFree) else .next s

/-- A write of `FAB_CTRL.EPOCH_ARM` (R312): at least 4 tempos ahead, with the other version FREE. -/
def epochArm (s : State) : State :=
  let t := getF s FAB_EPOCH_AT 0 0
  if verState s (otherVer s) = vsFree ∧ beatsSince s t ≤ -400 then
    setF { s with rtArmed := some t } FAB_EPOCH_STAT_ARMED 0 0 1
  else raise s cFAB 0 10

/-- A write of `FAB_CTRL`, its other fields being stored. -/
def fabCtrl (s : State) (v : Nat) : State :=
  let s := if hasBit v 4 then rtCopyActive s else s
  if hasBit v 0 then epochArm s else s

/-- At beat 0 of the tempo latched, every site injects under the other version (R312). -/
def execEpochSwitch (s : State) : Host.Outcome State Fault Refusal :=
  match s.rtArmed with
  | none => .next s
  | some t =>
    if beatsSince s t < 0 then .next s
    else
      let o := otherVer s
      let s := setVer (setVer s (curVer s) vsDraining) o vsActive
      let s := setF (setF s FAB_EPOCH_STAT_CUR 0 0 o) FAB_EPOCH_STAT_ARMED 0 0 0
      .next (raise { s with rtArmed := none, rtSwitched := s.time.tempoNo } cFAB 0 0)

/-- At a boundary a DRAINING version whose packets are gone and whose hold has passed is FREE (R313). -/
def execVersionFree (s : State) : Host.Outcome State Fault Refusal :=
  let o := otherVer s
  if atBoundary s ∧ verState s o = vsDraining ∧ getF s FAB_DRAIN 0 o = 0 ∧
      s.rtSwitched + getF s FAB_EPOCH_HOLD 0 0 ≤ s.time.tempoNo then
    .next (raise (setVer s o vsFree) cFAB 0 1)
  else .next s

/-! ## Congestion maps (R316 to R318) -/

/-- KiB of a number of bytes, at most `m` (log entry 43, DEDUCED: rounded down). -/
def kib (m b : Nat) : Nat := min m (b / 1024)

/-- The bytes of a packet on its circuit (R292). -/
def wireBytes (p : Pkt) : Nat := if p.data then 32 + 64 * p.len else 32

/-- OUT of a link (R317): KiB queued, KiB sent, sixteenths of the interval in which the head waited for credits. -/
def cmapOut (s : State) (l : Nat) : Nat :=
  let queued := (getTx s l).queue.foldl (fun a q => a + wireBytes q.pkt) 0
  kib 4095 queued + 2 ^ 12 * kib 65535 (SMap.get s.cmap 0 (cmapKey 0 l)) +
    2 ^ 28 * min 15 (SMap.get s.cmap 0 (cmapKey 3 l) / 100)

/-- IN of a Canvas link. -/
def cmapIn (s : State) (l : Nat) : Nat :=
  kib 65535 (SMap.get s.cmap 0 (cmapKey 1 l)) + 2 ^ 16 * min 65535 (SMap.get s.cmap 0 (cmapKey 2 l))

/-- The busiest sources of one line at a stack site: key of `hotCount` and cells, highest first, at most 8. -/
def hotTop (s : State) (site : Nat) : List (Nat × Nat) :=
  if (siteStack site).isNone then []
  else (sortBy (fun a b => decide (b.2 < a.2)) (s.cmap.filter fun e => e.1 / 2 ^ 48 == 2 ^ 12 + site)).take 8

/-- The two words of a HOT entry; the rate is in 64 B, two cells, per tempo. -/
def hotWords (e : Nat × Nat) : List Nat :=
  let v := e.1 % 2 ^ 18 + min 65535 (e.2 / 32) * 2 ^ 18 + e.1 / 2 ^ 18 % 2 ^ 30 * 2 ^ 34
  [v % 2 ^ 32, v / 2 ^ 32]

/-- A site's record, as 64 words of 32 bits (R317); of a parked or FAILED site only its flag (R316). -/
def cmapRecord (s : State) (site : Nat) : List Nat :=
  let t := s.time.count
  let head := fun (flags pool : Nat) => [t % 2 ^ 32, t / 2 ^ 32, site + flags * 2 ^ 8 + pool * 2 ^ 16, 0]
  if siteParked s site ∨ siteFailed s site then [0, 0, 2 ^ 8] ++ List.replicate 61 0
  else
    let flags := (if SMap.get s.throttles [] site = [] then 0 else 2) + (if noCircMask s site = 0 then 0 else 4)
    let hot := (hotTop s site).flatMap hotWords
    head flags (getF s PRT_POOL_PEAK site 0) ++
      ((List.range 16).map fun d => if d = site then 0 else cmapOut s (linkCanvas site d)) ++
      ((List.range 16).map fun x => if x = site then 0 else cmapIn s (linkCanvas x site)) ++
      [cmapOut s (linkPort site), kib 65535 (SMap.get s.cmap 0 (cmapKey 1 (linkPort site))),
        getF s VLK_STAT_TX_LAMBDAS site 0] ++ List.replicate 5 0 ++ hot ++ List.replicate (16 - hot.length) 0 ++
      List.replicate 4 0

/-- The counters of the next interval at a gathering: the gatherings in a row in which each pair has sent nothing (R319), and the
cells of each pool now in use, from which its peak rises (R317). -/
def idleCounts (s : State) : SMap Nat :=
  let m := (List.range 256).foldl (fun m l =>
    SMap.set m 0 (cmapKey 4 l) (if SMap.get s.cmap 0 (cmapKey 0 l) = 0 then SMap.get s.cmap 0 (cmapKey 4 l) + 1 else 0)) []
  s.rx.foldl (fun m e => SMap.set m 0 (cmapKey 2 e.1) e.2.used) m

/-- In a tempo whose count is a multiple of 16, every site's record reaches the fabric manager (R316). -/
def execCmapGather (s : State) : Host.Outcome State Fault Refusal :=
  if s.time.count % 16 ≠ 0 ∨ s.mapAt = s.time.tempoNo + 1 ∨ managerDown s 1 then .next s
  else
    let s := { s with
      mapAt := s.time.tempoNo + 1
      mapRecs := (List.range 16).map (cmapRecord s)
      mapActed := false
      mapCopied := false
      cmap := idleCounts s }
    let s := forAll (List.range 16) s fun s x =>
      let peak := fun (s : State) (p u : Field) => setF s p x 0 (getF s u x 0)
      let s := peak (peak (peak s PRT_POOL_PEAK PRT_POOL_USED) PRT_TAG_PEAK PRT_TAG_USED) PRT_DEDUP_PEAK PRT_DEDUP_USED
      emit s (.fmRecord x s.time.count)
    .next (raise s cFAB 0 2)

/-- The fabric manager copies the map of a gathering (R318) to a global address, in packets of 1,024 B where it lies elsewhere (log
entry 138, DESIGN CHOICE). -/
def execMapCopy (s : State) : Host.Outcome State Fault Refusal :=
  if s.mapAt = 0 ∨ s.mapCopied ∨ getF s FAB_CTRL_CMAP_COPY_EN 0 0 = 0 ∨ managerDown s 1 then .next s
  else
    let g := getF s FAB_CMAP_SEQ 0 0
    let bs := s.mapRecs.flatMap fun r => r.flatMap (bytesLE 4)
    let s := forAll (List.range 4) s fun s i =>
      deviceWrite s 0 (getF s FAB_CMAP_ADDR 0 0 + g % 2 * 4096 + 1024 * i) ((bs.drop (1024 * i)).take 1024)
    .next (wrapF { s with mapCopied := true } FAB_CMAP_SEQ 0 0 1)

/-! ## The fabric manager's action on a map (R319) -/

/-- The word of the map for a pair. -/
def mapOut (s : State) (src dst : Nat) : Nat := (s.mapRecs.getD src []).getD (4 + dst) 0

/-- Every ordered pair of sites. -/
def allPairs : List (Nat × Nat) := (List.range 16).flatMap fun a => ((List.range 16).filter fun b => a != b).map fun b => (a, b)

/-- The pairs that ask for a circuit, by descending queue. -/
def demandPairs (s : State) : List (Nat × Nat) :=
  sortBy (fun a b => decide (mapOut s b.1 b.2 % 4096 < mapOut s a.1 a.2 % 4096)) (allPairs.filter fun p =>
    decide (getF s FAB_GRANT_POL_THR_KIB 0 0 ≤ mapOut s p.1 p.2 % 4096) && decide (2 ≤ mapOut s p.1 p.2 / 2 ^ 28))

/-- A grantable place outside the pinned pool, on a lit lane where both ends have a free ring (R319). -/
def demandPlace (s : State) (src dst : Nat) : Option (Nat × Nat) :=
  allCircs.find? fun p =>
    decide (p.2 < 62) && occState s p.1 (entryOf s p.1 p.2) == ocFree && !floorPlace p.1 p.2 && !hasBit (getF s LAN_PIN p.1 0) p.2 &&
      getF s LAN_STAT_LIT p.1 0 == 1 && hasFreeRing s 0 src p.1 && hasFreeRing s 1 dst p.1

/-- A grant descriptor of R258, on demand. -/
def grantDesc (lane l src dst lead : Nat) : Nat := lane + l * 2 ^ 6 + src * 2 ^ 12 + dst * 2 ^ 16 + lead * 2 ^ 20

/-- The on-demand grants of a gathering: at most MAX are issued. -/
def demandGrants (s : State) : State :=
  ((demandPairs s).foldl (fun (a : State × Nat) p =>
    if a.2 = 0 then a
    else match demandPlace a.1 p.1 p.2 with
      | some q => (issueGrant a.1 1 p.1 0 (grantDesc q.1 q.2 p.1 p.2 3), a.2 - 1)
      | none => a) (s, getF s FAB_GRANT_POL_MAX 0 0)).1

/-- The releases of a gathering: one on-demand circuit of each pair idle for IDLE gatherings in a row. -/
def demandReleases (s : State) : State :=
  forAll allPairs s fun s p =>
    if SMap.get s.cmap 0 (cmapKey 4 (linkCanvas p.1 p.2)) < max 1 (getF s FAB_GRANT_POL_IDLE 0 0) then s
    else match allCircs.find? fun c => occState s c.1 c.2 == ocDemand && getF s LAN_OCC_SRC c.1 c.2 == p.1 &&
        getF s LAN_OCC_DST c.1 c.2 == p.2 && (getCirc s (circKey c.1 c.2)).relAt.isNone with
      | some c => issueRelease s 1 p.1 0 (grantDesc c.1 (lamOf s c.1 c.2) p.1 p.2 1)
      | none => s

/-- The throttles of a gathering: one to each source of a HOT entry above the rate, for 32 tempos. -/
def mapThrottles (s : State) : State :=
  let node := getF s FAB_NODE_NODE 0 0
  let rate := getF s FAB_THR_RATE 0 0
  forAll ((List.range 16).flatMap fun x => (List.range 8).map fun h => (x, h)) s fun s p =>
    let r := s.mapRecs.getD p.1 []
    let v := r.getD (44 + 2 * p.2) 0 + 2 ^ 32 * r.getD (45 + 2 * p.2) 0
    if bitsOf v 33 18 ≤ rate then s
    else
      let w := node + p.1 * 2 ^ 14 + rate * 2 ^ 18 + 32 * 2 ^ 34
      let src := bitsOf v 17 14
      if bitsOf v 13 0 = node ∧ src = p.1 then takeThrottle s src w
      else sendPlain s p.1 (stampPkt s p.1 (ctrlPkt opTHROTTLE (bitsOf v 13 0 * 2 ^ 50 + src * 2 ^ 46) 0 w))

/-- The fabric manager acts on the map of a gathering (R319). -/
def execFmDemandAction (s : State) : Host.Outcome State Fault Refusal :=
  if s.mapAt = 0 ∨ s.mapActed ∨ managerDown s 1 then .next s
  else
    let s := { s with mapActed := true }
    let s := if getF s FAB_CTRL_DEMAND_EN 0 0 = 1 then demandGrants (demandReleases s) else s
    .next (if getF s FAB_CTRL_THROTTLE_EN 0 0 = 1 then mapThrottles s else s)

/-- At the start of a beat, the queues whose head waits for credits are counted (R317, R327). -/
def countStalls (s : State) : State :=
  let stalled := (s.tx.filter fun e => decide (e.1 < 272) && (match e.2.queue with
    | [] => false
    | q :: _ => !q.exempt && decide (creditsOf s e.1 < pktCells q.pkt))).map (·.1)
  let s := forAll stalled s fun s l => cmapAdd s (cmapKey 3 l) 1
  let s := forAll ((stalled.filter (· < 256)).map (· / 16)).eraseDups s fun s x => bumpF s PRT_CREDIT_STALL x 0 1
  forAll (stalled.filter (256 ≤ ·)) s fun s l => bumpF s VLK_CREDIT_STALL (l - 256) 0 1

/-- At the start of a beat, the sites where a request waits for a tag are counted (R342). -/
def countTagWaits (s : State) : State :=
  forAll (s.tagWait.map (·.1)).eraseDups s fun s x => bumpF s PRT_TAG_WAIT x 0 1

/-- The token buckets fill at a boundary by one tempo's worth (R319; log entry 44, DEDUCED). -/
def fillBuckets (s : State) : State :=
  { s with throttles := s.throttles.map fun e => (e.1, e.2.map fun t => { t with tokens := min (bucketMax t.rate) (t.tokens + 2 * t.rate) }) }

/-! ## Small tables -/

/-- A write of `FAB_MC_INVAL` (R320). -/
def mcInval (s : State) (g : Nat) : State := { s with mcCache := s.mcCache.filter fun e => e.1 % 4096 != g }

/-- A write of `FAB_NODE.NODE` (R331), ignored while a port is in DISCOVER, HELD or ACTIVE. -/
def nodeWrite (s : State) (v : Nat) : State :=
  if (List.range 16).any fun n => let st := getF s VLK_STAT_STATE n 0; st == 3 || st == 4 || st == 5 then s
  else setF (setF s FAB_NODE_NODE 0 0 v) FAB_NODE_NODE_SET 0 0 1

/-- A write of `PRT_CPY_DATA` (R341): the next word of the descriptor at `PRT_CPY_IDX`; a descriptor in use takes it when
its copies are done. -/
def cpyData (s : State) (site v : Nat) : State :=
  let idx := getF s PRT_CPY_IDX site 0
  let w := SMap.get s.copyLoad 0 site
  let s := if descInUse s site idx then { s with copyHeld := s.copyHeld ++ [(site, idx, w, v)] } else putDescWord s site idx w v
  if w < 7 then { s with copyLoad := SMap.set s.copyLoad 0 site (w + 1) }
  else setF { s with copyLoad := SMap.set s.copyLoad 0 site 0 } PRT_CPY_IDX site 0 ((idx + 1) % 1024)

/-- A write of `PRT_CPY_IDX`: the next word is the descriptor's first. -/
def cpyIdx (s : State) (site : Nat) : State := { s with copyLoad := SMap.set s.copyLoad 0 site 0 }

/-- The object that a `SYN` page's registers select (R366). -/
def synObj (s : State) (i : Nat) : Nat := 512 * i + getF s SYN_IDX i 0

/-- A write of `SYN_VAL`, `SYN_ADD`, `SYN_THR` or `SYN_CFG` (R345, R366). -/
def synVal (s : State) (i v : Nat) : State := syncSet s (synObj s i) (v % 2 ^ 48)
def synAdd (s : State) (i v : Nat) : State := syncAdd s (synObj s i) (v % 2 ^ 48)
def synThr (s : State) (i v : Nat) : State := putSync s (synObj s i) { getSync s (synObj s i) with thr := v % 2 ^ 48 }
def synCfg (s : State) (i v : Nat) : State := putSync s (synObj s i) { getSync s (synObj s i) with thrEvt := hasBit v 0 }

end Sys2Proof.Machine
end

