-- ==== Sys2Proof/Machine/Ports.lean ====
section
/-! DEFINITION. Machine/Ports.lean: the Veryen ports: their states, training words and IDENT frames, link and wavelength
failure, and the announcement of a module reset (R352 to R363, R368, R369). -/

namespace Sys2Proof.Machine

/-! ## States (R355) -/

abbrev vpOff : Nat := 0
abbrev vpDetect : Nat := 1
abbrev vpTrain : Nat := 2
abbrev vpDiscover : Nat := 3
abbrev vpHeld : Nat := 4
abbrev vpActive : Nat := 5
abbrev vpDraining : Nat := 6
abbrev vpFailed : Nat := 7

def portState (s : State) (n : Nat) : Nat := getF s VLK_STAT_STATE n 0
def setPortState (s : State) (n st : Nat) : State := setF s VLK_STAT_STATE n 0 st

/-- The lowest-numbered wavelengths of a mask, at most 16 (R353). -/
def lowest16 (m : Nat) : Nat := ((List.range 18).filter (hasBit m)).take 16 |>.foldl (fun a w => a + 2 ^ w) 0

/-- The active wavelengths shown, in both directions, or none where the port carries no packets. -/
def showLambdas (s : State) (n : Nat) : State :=
  let on := portState s n == vpActive || portState s n == vpDraining
  let tx := if on then lowest16 (getPort s n).peerMap else 0
  let rx := if on then lowest16 (getPort s n).rxGood else 0
  let s := setF (setF s VLK_LMAP_TX n 0 tx) VLK_LMAP_RX n 0 rx
  setF (setF s VLK_STAT_TX_LAMBDAS n 0 (popCount 18 tx)) VLK_STAT_RX_LAMBDAS n 0 (popCount 18 rx)

/-- May a port leave OFF: EN, bring-up step 4 and NODE_SET (R355). -/
def portReady (s : State) (n : Nat) : Bool :=
  portState s n == vpOff && getF s VLK_CTRL_EN n 0 == 1 && hasBit (getF s MGT_BOOT_STAT_DONE 0 0) 3 &&
    getF s FAB_NODE_NODE_SET 0 0 == 1

/-- A port in OFF that may leave it asks the governor (R355, R451). -/
def portTry (s : State) (n : Nat) : State :=
  if portReady s n && !govHas s (fun k => k == .port n) then govRequest s (.port n) else s

/-- Every port tries. -/
def portsTry (s : State) : State := forAll (List.range 16) s portTry

/-- A write of `FAB_NODE.NODE` may let ports leave OFF (R331, R355). -/
def nodeSet (s : State) (v : Nat) : State := portsTry (nodeWrite s v)

/-! ## Port frames (R354) -/

/-- The training word of a wavelength. -/
def portWord (n w : Nat) : Nat :=
  let v := 0x5AC3 + n * 2 ^ 16 + w * 2 ^ 20
  v + 2 ^ 56 * crcBits 8 0x07 0xFF (bitsLSB 56 v)

/-- A valid training word. -/
def portWordOk (w : Nat) : Bool :=
  w % 65536 == 0x5AC3 && bitsOf w 63 56 == crcBits 8 0x07 0xFF (bitsLSB 56 (w % 2 ^ 56))

/-- The IDENT frame of a port. -/
def identFrame (s : State) (n : Nat) : Nat :=
  let v := 0x1D3E + n * 2 ^ 18 + getF s FAB_NODE_NODE 0 0 * 2 ^ 22 + getF s FAB_NODE_NODE_SET 0 0 * 2 ^ 36 +
    getF s FAB_RST_CTRL_ARMED 0 0 * 2 ^ 37 + (getPort s n).rxGood * 2 ^ 38 +
    getF s VLK_ATTACH_CNT n 0 % 256 * 2 ^ 56 + getF s DEV_SERIAL 0 0 * 2 ^ 64
  v + 2 ^ 224 * crc32c (bytesLE 28 v)

/-- A valid IDENT frame. The types 2 and 3 are reserved. -/
def identOk (f : Nat) : Bool :=
  f % 65536 == 0x1D3E && bitsOf f 255 224 == crc32c (bytesLE 28 (f % 2 ^ 224)) && decide (bitsOf f 17 16 < 2)

/-- A port sends IDENT. -/
def sendIdent (s : State) (n : Nat) : State :=
  emit (putPort s n { getPort s n with identAt := nowBeat s }) (.ident n (identFrame s n))

/-! ## Up and down (R355, R359) -/

/-- A port enters ACTIVE: SEQ at 0, the pool granted, UP, and the attach count (R355). -/
def portUpNow (s : State) (n : Nat) : State :=
  let l := linkPort n
  let s := showLambdas (setPortState s n vpActive) n
  let s := putTx s l { TxLink.init with queue := (getTx s l).queue }
  let s := putRx s l { RxLink.init with freed := 8192, freedAt := nowBeat s }
  let s := raise (bumpF s VLK_ATTACH_CNT n 0 1) cVLK n 0
  returnCredit s l

/-- A packet that was queued for a port leaves by another of its route, or is answered NO_ROUTE (R359). -/
def reroute (s : State) (n : Nat) (q : QPkt) : State :=
  if isLinkMsg q.pkt.op then drainSub s q.pkt.epoch
  else match sendUnder s n q.pkt.epoch q.pkt q.ingress false with
    | (s, none) => s
    | (s, some _) =>
      drainSub (if isRequest q.pkt.op then answer s n q.pkt .noRoute 0 0 else bumpF s FAB_HOP_DROP 0 0 1) q.pkt.epoch

/-- Link failure (R359): DOWN; what was started and not acknowledged is left to the retries and timeouts of its
originators, and what was queued leaves by other ports. The port is then in a state. -/
def linkFail (s : State) (n st : Nat) : State :=
  let l := linkPort n
  let q := (getTx s l).queue
  let s := showLambdas (setPortState s n st) n
  let s := putRx (putTx s l TxLink.init) l RxLink.init
  let s := forAll q s fun s x => reroute s n x
  raise (putPort s n { getPort s n with idents := 0 }) cVLK n 1

/-- A port leaves its state for another; an ACTIVE one takes link failure. -/
def portLeave (s : State) (n st : Nat) : State :=
  if portState s n = vpActive ∨ portState s n = vpDraining then linkFail s n st else showLambdas (setPortState s n st) n

/-- A write of `VLK_CTRL`, its RW fields being stored (R355). -/
def vlkCtrl (s : State) (n v : Nat) : State :=
  let st := portState s n
  let s := if hasBit v 2 ∧ st = vpHeld then portUpNow s n else s
  let s := if hasBit v 4 ∧ portState s n = vpActive then
      linkFail (putPort s n { getPort s n with notBefore := s.time.tempoNo + 1000 }) n vpDetect
    else s
  let s := if hasBit v 3 ∧ portState s n = vpActive then linkFail s n vpDetect else s
  if hasBit v 0 then portTry s n
  else if portState s n = vpFailed then s
  else govDrop (if portState s n = vpOff then s else portLeave s n vpOff) fun k => k == .port n

/-- In DETECT, every 1 ms, the port looks for light on at least 8 wavelengths (R355); it then trains, and sends training
words itself. -/
def execPortDetect (n : Fin 16) (light : Fin (2 ^ 18)) (s : State) : Host.Outcome State Fault Refusal :=
  let p := getPort s n
  if portState s n ≠ vpDetect ∨ s.time.tempoNo < p.notBefore then .next s
  else if popCount 18 light < 8 then .next (putPort s n { p with notBefore := s.time.tempoNo + 1000 })
  else
    let s := setPortState (putPort s n { p with locked := 0, trainPort := none, notBefore := 0, trainAt := s.time.tempoNo }) n vpTrain
    .next (forAll (List.range 18) s fun s w => emit s (.portTraining n w (portWord n w)))

/-- A training word received on a wavelength in TRAIN (R354, R355; log entry 45, DEDUCED: PORT matches the words before it). -/
def execPortTrainingWord (n : Fin 16) (lambda : Fin 18) (w : Fin (2 ^ 64)) (s : State) : Host.Outcome State Fault Refusal :=
  let p := getPort s n
  let port := bitsOf w 19 16
  if portState s n = vpTrain ∧ portWordOk w ∧ bitsOf w 24 20 = lambda ∧ p.trainPort.getD port = port then
    .next (putPort s n { p with locked := p.locked ||| 2 ^ lambda.val, trainPort := some port })
  else .next s

/-- TRAIN ends with at least 8 good wavelengths in each direction (R355); `far` names those the far receiver has locked.
Wavelengths that had failed may rejoin here (R357). -/
def execPortTrainDone (n : Fin 16) (far : Fin (2 ^ 18)) (s : State) : Host.Outcome State Fault Refusal :=
  let p := getPort s n
  if portState s n = vpTrain ∧ 8 ≤ popCount 18 p.locked ∧ 8 ≤ popCount 18 far then
    let s := setF s VLK_LFAIL n 0 (getF s VLK_LFAIL n 0 - (getF s VLK_LFAIL n 0 &&& p.locked))
    .next (setPortState (putPort s n { p with rxGood := p.locked, peerMap := far, idents := 0 }) n vpDiscover)
  else .next s

/-- TRAIN ends without success after 400 µs (R355). -/
def execPortTrainTimeout (n : Fin 16) (s : State) : Host.Outcome State Fault Refusal :=
  .next (if portState s n = vpTrain ∧ (getPort s n).trainAt + 400 ≤ s.time.tempoNo then setPortState s n vpDetect else s)

/-- The partner of an IDENT frame recorded (R356). -/
def recordPeer (s : State) (n f : Nat) : State :=
  let s := setF (setF s VLK_PEER_NODE n 0 (bitsOf f 35 22)) VLK_PEER_PORT n 0 (bitsOf f 21 18)
  let s := setF (setF s VLK_PEER_TYPE n 0 (bitsOf f 17 16)) VLK_PEER_NODE_OK n 0 (bitOf f 36)
  putPort (setF s VLK_PEER_SERIAL n 0 (bitsOf f 127 64)) n { getPort s n with peerGen := bitsOf f 63 56 }

/-- Is the partner refused (R356). -/
def peerRefused (s : State) (n f : Nat) : Bool :=
  if getF s VLK_CTRL_AUTO n 0 = 0 then true
  else if bitsOf f 17 16 = 1 then false
  else !hasBit f 36 || bitsOf f 35 22 == getF s FAB_NODE_NODE 0 0 ||
    (getF s VLK_EXPECT_EN n 0 == 1 && bitsOf f 35 22 != getF s VLK_EXPECT_NODE n 0)

/-- The active wavelengths of a port change from one mask to what its good ones now give (R357): a spare takes the place
of one lost, or the direction runs on fewer. -/
def lambdaChange (s : State) (n old new : Nat) : State :=
  if (old ||| new) = new then s
  else if popCount 18 new < popCount 18 old then raise s cVLK n 5
  else raise s cVLK n 4

/-- An IDENT frame received on a port (R354 to R357). -/
def execIdentFrame (n : Fin 16) (f : Fin (2 ^ 256)) (s : State) : Host.Outcome State Fault Refusal :=
  let st := portState s n
  let p := getPort s n
  let map := bitsOf f 55 38
  if !identOk f then .next (if st = vpDiscover then putPort s n { p with idents := 0 } else s)
  else if st = vpDiscover then
    let s := recordPeer (putPort s n { p with idents := p.idents + 1, peerMap := map }) n f
    if p.idents + 1 < 2 then .next s
    else if peerRefused s n f then .next (raise (setPortState s n vpHeld) cVLK n 2)
    else .next (portUpNow s n)
  else if st = vpHeld then .next (putPort s n { p with peerMap := map })
  else if st = vpActive then
    if bitsOf f 127 64 ≠ getF s VLK_PEER_SERIAL n 0 ∨ bitsOf f 63 56 ≠ p.peerGen then .next (linkFail s n vpDiscover)
    else
      let old := getF s VLK_LMAP_TX n 0
      let s := showLambdas (putPort s n { p with peerMap := map }) n
      .next (lambdaChange s n old (getF s VLK_LMAP_TX n 0))
  else .next s

/-- A port sends IDENT every 10 µs (R354; log entry 46, DEDUCED: in DISCOVER and HELD as well). -/
def execIdentSend (n : Fin 16) (s : State) : Host.Outcome State Fault Refusal :=
  let st := portState s n
  let due := (getPort s n).identAt = 0 ∨ (getPort s n).identAt + 1000 ≤ nowBeat s
  .next (if (st = vpDiscover ∨ st = vpHeld ∨ st = vpActive) ∧ due then sendIdent s n else s)

/-- A port loses its light, or runs on too few wavelengths (R355, R359): `dark` says that the light has been lost on every
wavelength for 10 µs. -/
def execLinkFailure (n : Fin 16) (dark : Bool) (s : State) : Host.Outcome State Fault Refusal :=
  let min_ := getF s VLK_CFG_MIN_LAMBDA n 0
  let few := getF s VLK_STAT_TX_LAMBDAS n 0 < min_ ∨ getF s VLK_STAT_RX_LAMBDAS n 0 < min_
  if portState s n = vpActive ∧ (dark ∨ few) then .next (linkFail s n vpDetect)
  else if portState s n = vpHeld ∧ dark then .next (setPortState s n vpDetect)
  else .next s

/-- A receive wavelength of a port fails (R357): out of RXMAP, IDENT sent, recorded here and in the fuses, and a spare in its place or none. -/
def portLambdaFail (s : State) (n w : Nat) : State :=
  let p := getPort s n
  if !hasBit p.rxGood w then s
  else
    let old := getF s VLK_LMAP_RX n 0
    let s := putPort s n { p with rxGood := clearBit p.rxGood w }
    let s := raise (setF s VLK_LFAIL n 0 (setBit (getF s VLK_LFAIL n 0) w)) cVLK n 3
    let s := fuseRepair s 0x14 n (1 + 2 * w)
    let s := showLambdas (sendIdent s n) n
    lambdaChange s n old (getF s VLK_LMAP_RX n 0)

/-- WAVELENGTH_FAILURE (R357). -/
def execWavelengthFailure (n : Fin 16) (w : Fin 18) (s : State) : Host.Outcome State Fault Refusal :=
  let st := portState s n
  .next (if st = vpDiscover ∨ st = vpHeld ∨ st = vpActive then portLambdaFail s n w else s)

/-- The wavelengths of the ports whose corrections have exceeded `VLK_LAMBDA_THR` within a millisecond fail (R357). -/
def lambdaLimits (s : State) : State :=
  forAll s.ports s fun s e =>
    forAll (e.2.ce.filter fun c => decide (getF s VLK_LAMBDA_THR e.1 0 < c.2.length)) s fun s c =>
      let p := getPort s e.1
      portLambdaFail (putPort s e.1 { p with ce := SMap.erase p.ce c.1 }) e.1 c.1

/-- A port's own laser fails (R355): FAILED, which only repair ends. -/
def execPortLaserFailure (n : Fin 16) (s : State) : Host.Outcome State Fault Refusal :=
  .next (if portState s n = vpFailed then s else portLeave s n vpFailed)

/-! ## The announcement of a module reset (R363) -/

/-- NOTICE with the low 48 bits of a tempo through every ACTIVE port. -/
def sendNotice (s : State) (t : Nat) : State :=
  let s := { s with noticeAt := s.time.tempoNo }
  forAll ((List.range 16).filter fun n => portState s n == vpActive) s fun s n =>
    let p := stampPkt s n (ctrlPkt opNOTICE (getF s VLK_PEER_NODE n 0 * 2 ^ 50) 0 (t % 2 ^ 48))
    enqueue (drainAdd s p.epoch) (linkPort n) p none

/-- A write of `FAB_RST_CTRL` (R363): NOTICE announces `FAB_RST_AT`; CANCEL before that tempo withdraws it. A tempo nearer
than the rule allows firmware is announced as it stands (log entry 47, DEDUCED). -/
def fabRstCtrl (s : State) (v : Nat) : State :=
  let s := if hasBit v 0 then
      let t := getF s FAB_RST_AT 0 0
      sendNotice (setF { s with rstAt := some t } FAB_RST_CTRL_ARMED 0 0 1) t
    else s
  if hasBit v 1 then
    match s.rstAt with
    | some t => if beatsSince s t < 0 then sendNotice (setF { s with rstAt := none } FAB_RST_CTRL_ARMED 0 0 0) 0 else s
    | none => s
  else s

/-- The NOTICE is repeated every 100 tempos until the tempo it names. -/
def execNoticeRepeat (s : State) : Host.Outcome State Fault Refusal :=
  match s.rstAt with
  | some t => .next (if s.noticeAt + 100 ≤ s.time.tempoNo ∧ beatsSince s t < 0 then sendNotice s t else s)
  | none => .next s

/-- The packets queued in the module for forwarding: from a port, for another node. -/
def forwarding (s : State) : List (Nat × QPkt) :=
  (s.tx.filter fun e => decide (e.1 < 272)).flatMap fun e =>
    (e.2.queue.filter fun q => q.ingress.isSome && !isHere s q.pkt.dst).map fun q => (e.1, q)

/-- What is queued for forwarding is answered TARGET_RESETTING (R363). -/
def dropForwarding (s : State) : State :=
  forAll (forwarding s) s fun s e =>
    let t := getTx s e.1
    let s := putTx s e.1 { t with queue := t.queue.erase e.2 }
    let p := e.2.pkt
    let site := linkSite e.1
    drainSub (if isRequest p.op then answer s site p .targetResetting 0 (retryAfter s site) else bumpF s FAB_HOP_DROP 0 0 1)
      p.epoch

/-- At tempo N the ports enter DRAINING (R363). -/
def execPortsDrain (s : State) : Host.Outcome State Fault Refusal :=
  match s.rstAt with
  | none => .next s
  | some t =>
    if beatsSince s t < 0 then .next s
    else
      let s := dropForwarding s
      .next (forAll ((List.range 16).filter fun n => portState s n == vpActive) s fun s n => setPortState s n vpDraining)

/-- The ports go dark: OFF, by link failure where packets were under way (R355, R363). -/
def portsDark (s : State) : State :=
  forAll (List.range 16) s fun s n =>
    let st := portState s n
    if st = vpOff ∨ st = vpFailed then s else portLeave s n vpOff

end Sys2Proof.Machine
end

