-- ==== Sys2Proof/Machine/PgState.lean ====
section
/-! DEFINITION. Machine/PgState.lean: the state a page reports, and its STALE bit (R536 and the rule of each class). -/

namespace Sys2Proof.Machine

/-- The codes of `PG_STATE.STATE` (R535). -/
abbrev pgOff : Nat := 0
abbrev pgTraining : Nat := 1
abbrev pgReady : Nat := 2
abbrev pgDegraded : Nat := 3
abbrev pgFenced : Nat := 4
abbrev pgFailed : Nat := 5
abbrev pgResetting : Nat := 6

/-- The state of a page at a site: what the site's resets, stops and failures give, before the page's own (R536). -/
def siteFirst (s : State) (site own : Nat) : Nat :=
  if siteResetting s site ∨ own = pgResetting then pgResetting
  else if siteFenced s site then pgFenced
  else if siteFailed s site then pgFailed
  else own

/-- `CDI` (R152): TRAINING until the cores are tested. -/
def cdiState (s : State) (d : Nat) : Nat :=
  let bad := getF s CDI_LINK_FAIL d 0 != 0 || getF s CDI_LINK_FAIL_X d 0 != 0 || getF s CDI_HUB_FAIL d 0 != 0 ||
    (List.range 4).any fun c => (List.range 4).any (fun r => getF s CLU_ROW_MAP_ABSENT (d * 4 + c) r != 0) ||
      (List.range 32).any fun n => getF s CLU_BANK_STAT_CLASS (d * 4 + c) n == 7
  siteFirst s (dieSite d) (if !bootDone s 5 then pgTraining else if bad then pgDegraded else pgReady)

/-- `MCH` (R247). -/
def mchState (s : State) (ch : Nat) : Nat :=
  let m := getF s MCH_WIDTH_MODE_MODE ch 0
  let p := getF s MST_STAT_PHASE (ch / 128) 0
  siteFirst s (stackSite (ch / 128))
    (if 1 ≤ p ∧ p ≤ 5 then pgResetting
    else if m = 2 then pgFailed
    else if m = 3 then pgTraining
    else if m = 1 ∨ getF s MCH_BANK_OUT ch 0 ≠ 0 then pgDegraded
    else pgReady)

/-- `MST` (R245). -/
def mstState (s : State) (k : Nat) : Nat :=
  let p := getF s MST_STAT_PHASE k 0
  let bad := getF s MST_CAP_LOST k 0 != 0 || (List.range 128).any fun c =>
    getF s MCH_WIDTH_MODE_MODE (k * 128 + c) 0 != 0 || getF s MCH_BANK_OUT (k * 128 + c) 0 != 0
  siteFirst s (stackSite k)
    (if 1 ≤ p ∧ p ≤ 5 then pgResetting
    else if p = 7 then pgFailed
    else if !bootDone s 3 ∨ p = 6 then pgTraining
    else if bad then pgDegraded else pgReady)

/-- `COR` (R137). -/
def corState (s : State) (c : Nat) : Nat :=
  let st := coreState s c
  let rst := ((getCore s c).resetAt.isSome && st != csFailed) || (SMap.find s.cluResets (corClu c)).isSome
  siteFirst s (corSite c)
    (if rst then pgResetting
    else if st = csOff ∨ st = csRetained ∨ st = csSpare then pgOff
    else if st = csFaulted ∨ st = csFailed then pgFailed
    else pgReady)

/-- `PRT` (R285). -/
def prtState (s : State) (site : Nat) : Nat :=
  let bad := [0, 1].any fun d => (List.range 256).any fun n =>
    getF s (ringSt d) site n == rgHeldOut || getF s (ringSt d) site n == rgFailed
  if siteParked s site then pgResetting
  else if siteFailed s site then pgFailed
  else if bad ∨ getF s PRT_CAL_STAT_STALE site 0 ≠ 0 then pgDegraded else pgReady

/-- `LAN` (R287). -/
def lanState (s : State) (n : Nat) : Nat :=
  if !bootDone s 4 then pgTraining
  else if getF s LAN_STAT_LIT n 0 = 0 then pgFailed
  else if getF s LAN_LOST n 0 ≠ 0 then pgDegraded else pgReady

/-- `LSR` (R289). -/
def lsrState (s : State) (i : Nat) : Nat :=
  let st := getF s LSR_STAT_STATE i 0
  if st = 4 then pgFailed
  else if getF s LSR_CTRL_EN i 0 = 0 ∨ st = 0 then pgOff
  else if st = 1 then pgTraining else pgReady

/-- `VLK` (R368). -/
def vlkState (s : State) (n : Nat) : Nat :=
  let st := getF s VLK_STAT_STATE n 0
  if st = 6 then pgResetting
  else if st = 7 then pgFailed
  else if st ≤ 1 then pgOff
  else if st < 5 then pgTraining
  else if 16 ≤ getF s VLK_STAT_TX_LAMBDAS n 0 ∧ 16 ≤ getF s VLK_STAT_RX_LAMBDAS n 0 then pgReady
  else pgDegraded

/-- What a pair of twins gives its page (R448). -/
def pairCode (st : Nat) : Nat :=
  if st = 0 then pgReady else if st ≤ 3 then pgDegraded else if st = 5 then pgOff else pgFailed

/-- The page that follows twin pair `n`: `MGT` 0, `FAB` 1. -/
def pairState (s : State) (n : Nat) : Nat := pairCode (getF s ARB_PAIR_STAT_STATE 0 n)

/-- `ARB` (R445): the worse of the two pairs. -/
def arbState (s : State) : Nat :=
  let a := pairState s 0
  let b := pairState s 1
  if a = pgFailed ∨ b = pgFailed then pgFailed
  else if a = pgOff ∨ b = pgOff then pgOff
  else max a b

/-- `TMP` (R89). -/
def tmpPage (s : State) : Nat :=
  let st := tmpState s
  if st = tmOff then pgOff else if st = tmAcquiring then pgTraining
  else if st = tmHoldover then pgDegraded else if st = tmSuspended then pgFailed else pgReady

/-- `THM` (R472). -/
def thmState (s : State) : Nat :=
  let lv := (List.range 16).any fun x => 2 ≤ bitsOf (getF s THM_LEVEL 0 0) (2 * x + 1) (2 * x)
  if lv ∨ 2 ≤ getF s THM_HALF_LEVEL_EAST 0 0 ∨ 2 ≤ getF s THM_HALF_LEVEL_WEST 0 0 ∨ getF s THM_STOPPED 0 0 ≠ 0 then
    pgDegraded
  else pgReady

/-- `SEA` (R548). -/
def seaState (s : State) : Nat :=
  let lost := s.seam.any fun w => w.1 < 1792 && w.2 / 2 ^ 12 == 2
  if getF s SEA_STAT_CTRL_EW 0 0 = 0 ∨ getF s SEA_STAT_CTRL_WE 0 0 = 0 then pgFailed
  else if !bootDone s 2 then pgTraining
  else if lost ∨ getF s SEA_STAT_SPARES 0 0 < 16 then pgDegraded else pgReady

/-- The state of the holding site, as `SYN` reports it (R366). -/
def siteState (s : State) (site : Nat) : Nat :=
  match siteDie site, siteStack site with
  | some d, _ => cdiState s d
  | _, some k => mstState s k
  | _, _ => pgReady

/-- `PG_STATE.STATE` of a page. A class whose chapter names no state reads READY, or what its site's resets, stops and
failures give (log entry 48, DESIGN CHOICE). -/
def pgState (s : State) (c inst : Nat) : Nat :=
  if c = cMGT then pairState s 0
  else if c = cFAB then pairState s 1
  else if c = cARB then arbState s
  else if c = cTMP then tmpPage s
  else if c = cMOV then siteFirst s inst pgReady
  else if c = cPWR then (if s.therm.estop.isSome then pgFailed else if s.gov.inputBad then pgDegraded else pgReady)
  else if c = cTHM then thmState s
  else if c = cCAL then (if getF s CAL_STAT_STALE 0 0 = 0 then pgReady else pgDegraded)
  else if c = cHST then (if getF s HST_LINK_STATE 0 0 = 2 then pgReady else pgDegraded)
  else if c = cERR then (if getF s ERR_STAT_LOST_DETAIL 0 0 = 0 then pgReady else pgDegraded)
  else if c = cFUS then (if bootDone s 1 then pgReady else if getF s MGT_BOOT_FAIL_CODE 0 0 = 2 then pgFailed
    else pgTraining)
  else if c = cPRT then prtState s inst
  else if c = cLAN then lanState s inst
  else if c = cSYN then siteState s (inst / 8)
  else if c = cVLK then vlkState s inst
  else if c = cLSR then lsrState s inst
  else if c = cSEA then seaState s
  else if c = cCDI ∨ c = cSMP then cdiState s inst
  else if c = cCLU then
    siteFirst s (dieSite (inst / 4)) (if (SMap.find s.cluResets inst).isSome then pgResetting else pgReady)
  else if c = cCOR then corState s inst
  else if c = cMST then mstState s inst
  else if c = cMCH then mchState s inst
  else pgReady

/-- The reading of a channel is held (R469): its own slot runs, or the management pair is in a restart. -/
def chHeld (s : State) (ch : Nat) : Bool :=
  getF s ARB_PAIR_STAT_STATE 0 0 == 4 || s.calSlots.any fun x => x.cls == 3 && x.item == ch

/-- Is an item of a class at a site stale. -/
def anyStale (s : State) (cls site : Nat) (p : Nat → Bool) : Bool :=
  s.calStale.any fun e => e.1 / 2 ^ 24 == cls && e.1 / 2 ^ 20 % 16 == site && p (e.1 % 2 ^ 20) && e.2

/-- `PG_STATE.STALE` of a page (R275, R468, R469); only `PRT`, `VLK`, `MCH` and `THM` pages set it (R535). -/
def pgStale (s : State) (c inst : Nat) : Bool :=
  if c = cPRT then getF s PRT_CAL_STAT_STALE inst 0 != 0
  else if c = cVLK then anyStale s 1 inst fun _ => true
  else if c = cMCH then anyStale s 2 (stackSite (inst / 128)) fun i => i % 128 == inst % 128
  else if c = cTHM then (List.range 1024).any (fun ch => chHeld s ch || SMap.get s.therm.failed false ch) ||
    s.calStale.any fun e => e.1 / 2 ^ 24 == 3 && e.2
  else false

/-- The 2-bit code of a site in `DEV_SITE_SUM` (R45). -/
def sumCode (s : State) (site : Nat) : Nat :=
  let st := siteState s site
  if st = pgReady then 0 else if st = pgDegraded then 1 else if st = pgFailed then 3 else 2

end Sys2Proof.Machine
end

