-- ==== Sys2Proof/Machine/Sampler.lean ====
section
/-! DEFINITION. Machine/Sampler.lean: the sampler sets, retrieval scans and the random source (R370 to R382, R394 to
R397). -/

namespace Sys2Proof.Machine

/-! ## Reads of the device itself -/

/-- What a read of the device comes to: a value, a status, or to wait for a line (R210). -/
inductive Got (α : Type) where
  | ok (s : State) (a : α)
  | fail (s : State) (st : Status)
  | wait

def Got.bind {α β : Type} : Got α → (State → α → Got β) → Got β
  | .ok s a, f => f s a
  | .fail s st, _ => .fail s st
  | .wait, _ => .wait

/-- A fold whose steps read. -/
def Got.fold {α β : Type} (l : List α) (s : State) (b : β) (f : State → β → α → Got β) : Got β :=
  l.foldl (fun g x => g.bind fun s b => f s b x) (.ok s b)

/-- `n` bytes within one unit of 64 at a global address, read by a site as inbound traffic. What another module holds is no
part of this one: such bytes are free values (log entry 50, DESIGN CHOICE). -/
def devUnit (s : State) (site ga n : Nat) : Got (List Byte) :=
  if isHere s ga then
    match checkAccess s (gaSite ga) none site (gaOfs ga) n 2 with
    | (_, .hold) => .wait
    | (s, .fail st) => .fail s st
    | (s, .pass) => match memRead s (gaSite ga) (gaOfs ga) n .clean with
      | .done s bs => .ok s bs
      | .fail s st => .fail s st
      | .wait => .wait
  else
    .ok { s with draws := s.draws + n } ((List.range n).map fun i => BitVec.ofNat 8 (Config.freeValue (s.draws + i)).toNat)

/-- `n` bytes read by the device at a global address, unit by unit. -/
def devRead (s : State) (site ga n : Nat) : Got (List Byte) :=
  Got.fold (unitsOf ga n) s [] fun s bs u =>
    (devUnit s site u (min (64 - u % 64) (ga + n - u))).bind fun s b => .ok s (bs ++ b)

/-- The 32-bit words of bytes. -/
def words32 (bs : List Byte) (n : Nat) : List Nat := (List.range n).map fun i => ofBytesLE ((bs.drop (4 * i)).take 4)

/-! ## Sets (R370) -/

/-- The lead of the set that a sampler names: its lowest die. -/
def smpLead (s : State) (d : Nat) : Nat := (smpMembers s d).headD d

/-- The settings that every member of a set must share (R370). -/
def smpShared (s : State) (d : Nat) : List Nat :=
  [SMP_CTRL_SET, SMP_CTRL_MODE, SMP_TEMP, SMP_TOPK, SMP_TOPP, SMP_REP_PEN, SMP_START_STRIDE, SMP_START_SYNC, SMP_DONE_EN,
    SMP_DONE_SYNC].map fun f => getF s f d 0

/-- Do the vocabulary slices of two samplers overlap. -/
def slicesMeet (s : State) (a b : Nat) : Bool :=
  let lo := fun d => getF s SMP_SLICE_BASE d 0
  let hi := fun d => lo d + getF s SMP_SLICE_CNT_CNT d 0
  decide (lo a < hi b) && decide (lo b < hi a)

/-- Is a sampler in the set of an enabled gambit context (R383). -/
def smpHeld (s : State) (d : Nat) : Bool :=
  (List.range 8).any fun c => getF s GMB_CTX_CTRL_EN 0 c == 1 && (smpMembers s (getF s GMB_CTX_CTRL_LEAD 0 c)).contains d

/-- May the set be armed. -/
def armOk (s : State) (ms : List Nat) (lead : Nat) : Bool :=
  ms.all fun d => smpShared s d == smpShared s lead && pgState s cSMP d == pgReady && !smpHeld s d &&
    ms.all fun e => d == e || !slicesMeet s d e

def setSmpState (s : State) (d st : Nat) : State := setF s SMP_STAT_STATE d 0 st

/-- A write of `SMP_CTRL.ARM` (R370, R394): refused at every member, or armed. An ARM during a run changes nothing. -/
def smpArm (s : State) (d : Nat) : State :=
  let ms := smpMembers s d
  let lead := smpLead s d
  if !ms.contains d then raise s cSMP d 4
  else if ms.any fun x => 2 ≤ getF s SMP_STAT_STATE x 0 then s
  else if !armOk s ms lead then forAll ms s fun s x => raise s cSMP x 4
  else
    let s := { s with
      smpStarted := SMap.set s.smpStarted 0 lead 0
      extBase := SMap.set s.extBase 0 lead (getSync s (getF s SMP_EXT_SYNC lead 0)).val
      smpDisarm := SMap.set s.smpDisarm false lead false }
    forAll ms s fun s x =>
      let s := setF (setSmpState s x 1) SMP_STAT_PENDING x 0 0
      if getF s SMP_CTRL_MODE x 0 = 2 then
        { s with scans := SMap.insert s.scans x ⟨(getSync s (getF s SMP_START_SYNC x 0)).val, nowBeat s, 0, 0, [], 0⟩ }
      else { s with scans := SMap.erase s.scans x }

/-- The set goes to IDLE. -/
def smpIdle (s : State) (ms : List Nat) : State :=
  forAll ms s fun s x => { setF (setSmpState s x 0) SMP_STAT_PENDING x 0 0 with scans := SMap.erase s.scans x }

/-- A write of `SMP_CTRL.DISARM` (R396): IDLE at once, or after the current run. -/
def smpDisarm (s : State) (d : Nat) : State :=
  let lead := smpLead s d
  if (SMap.find s.smpRuns lead).isSome then { s with smpDisarm := SMap.set s.smpDisarm false lead true }
  else if getF s SMP_STAT_STATE d 0 = 1 ∨ (SMap.find s.scans d).isSome then smpIdle s (smpMembers s d)
  else s

/-! ## Candidates (R373, R374) -/

/-- Candidates as (logit, ID) rank by descending logit, equal logits by the lower ID (R374). -/
def outranks (a b : Nat × Nat) : Bool := f32lt b.1 a.1 || (f32eq a.1 b.1 && decide (a.2 < b.2))

/-- A candidate put into a top-k. -/
def topInsert (k : Nat) (l : List (Nat × Nat)) (c : Nat × Nat) : List (Nat × Nat) := (insertBy outranks c l).take k

/-- Is the set greedy (R373). -/
def smpGreedy (s : State) (lead : Nat) : Bool := f32eq (getF s SMP_TEMP lead 0) 0

/-- The candidates kept (R373). -/
def smpK (s : State) (lead : Nat) : Nat := if smpGreedy s lead then 1 else getF s SMP_TOPK lead 0

/-- A logit after penalty and temperature (R373). A penalty of 1.0 is off (R374). -/
def smpLogit (s : State) (lead : Nat) (hit : Bool) (l : Nat) : Nat :=
  let pen := getF s SMP_REP_PEN lead 0
  let l := if hit ∧ pen ≠ 0x3F800000 then (if f32lt 0 l then (f32div l pen).code else (f32mul l pen).code) else l
  if smpGreedy s lead then l else (f32div l (getF s SMP_TEMP lead 0)).code

/-- The IDs of the history ring (R377): the lead's, for every member (log entry 51, DEDUCED). -/
def smpHistory (s : State) (lead : Nat) : Got (List Nat) :=
  let n := getF s SMP_HIST_LEN_LEN lead 0
  if n = 0 then .ok s []
  else (devRead s (dieSite lead) (getF s SMP_HIST lead 0) (4 * n)).bind fun s bs =>
    .ok s ((words32 bs n).map (· % 2 ^ 18))

/-- A logit that is NaN is counted and raised (R374). -/
def countNan (s : State) (d : Nat) : State := raise (bumpF s SMP_NAN_CNT d 0 1) cSMP d 3

/-- The top-k of a member's slice of one row (R371, R373). -/
def smpLocal (s : State) (lead d r k : Nat) (hist : List Nat) : Got (List (Nat × Nat)) :=
  let a := getF s SMP_LOGIT d 0 + r * getF s SMP_ROW_STRIDE d 0
  let n := getF s SMP_SLICE_CNT_CNT d 0
  let w := if getF s SMP_SLICE_CNT_FMT d 0 = 0 then 4 else 2
  let base := getF s SMP_SLICE_BASE d 0
  if !isHere s a ∨ gaSite a ≠ dieSite d then .fail s .addressInvalid
  else (devRead s (dieSite d) a (w * n)).bind fun s bs =>
    let p := (List.range n).foldl (fun (p : State × List (Nat × Nat)) i =>
      let v := ofBytesLE ((bs.drop (w * i)).take w)
      let l := smpLogit p.1 lead (hist.contains (base + i)) (if w = 4 then v else v * 65536)
      if f32isNan l then (countNan p.1 d, p.2) else (p.1, topInsert k p.2 (l, base + i))) (s, [])
    .ok p.1 p.2

/-- The candidates of each of `n` rows: every member's top-k, merged (R373). -/
def smpRows (s : State) (lead n : Nat) : Got (List (List (Nat × Nat))) :=
  let k := smpK s lead
  (smpHistory s lead).bind fun s hist =>
    Got.fold (List.range n) s [] fun s rows r =>
      (Got.fold (smpMembers s lead) s [] fun s top d =>
        (smpLocal s lead d r k hist).bind fun s l => .ok s (l.foldl (topInsert k) top)).bind fun s top =>
          .ok s (rows ++ [top])

/-- Has a row a candidate above −infinity (R374). -/
def rowAlive (row : List (Nat × Nat)) : Bool := row.any fun c => c.1 != 0xFF800000

/-- The status of a set during a run: that of its first member that is FENCED, RESETTING or FAILED (R379). -/
def setStatus (s : State) (ms : List Nat) : Option Status := ms.findSome? fun d => siteStatus s (dieSite d)

/-! ## External lists (R379) -/

/-- Bytes between external lists. -/
abbrev extStep : Nat := 16384

/-- Have the external lists of a run of `n` rows arrived. -/
def extReady (s : State) (lead n : Nat) : Bool :=
  getF s SMP_CTRL_EXT_IN lead 0 == 0 ||
  reached ((getSync s (getF s SMP_EXT_SYNC lead 0)).visible s) (SMap.get s.extBase 0 lead + getF s SMP_CTRL_N_EXT lead 0 * n)

/-- The external lists merged into the rows: list `i` of row `r` lies at `SMP_EXT` + (8r + i) × 16 KiB, and as many
entries are read as the set keeps (log entry 52, DEDUCED). -/
def extMerge (s : State) (lead : Nat) (rows : List (List (Nat × Nat))) : Got (List (List (Nat × Nat))) :=
  if getF s SMP_CTRL_EXT_IN lead 0 = 0 then .ok s rows
  else
    let k := smpK s lead
    Got.fold rows.zipIdx s [] fun s out row =>
      (Got.fold (List.range (getF s SMP_CTRL_N_EXT lead 0)) s row.1 fun s top i =>
        (devRead s (dieSite lead) (getF s SMP_EXT lead 0 + (row.2 * 8 + i) * extStep) (8 * k)).bind fun s bs =>
          .ok s ((List.range k).foldl (fun top j =>
            let e := ofBytesLE ((bs.drop (8 * j)).take 8)
            if f32isNan (e % 2 ^ 32) then top else topInsert k top (e % 2 ^ 32, bitsOf e 49 32)) top)).bind fun s top =>
        .ok s (out ++ [top])

/-- The lists of a run consumed: later runs wait for later additions. -/
def extTaken (s : State) (lead n : Nat) : State :=
  if getF s SMP_CTRL_EXT_IN lead 0 = 0 then s
  else
    let b := (SMap.get s.extBase 0 lead + getF s SMP_CTRL_N_EXT lead 0 * n) % 2 ^ 48
    { s with extBase := SMap.set s.extBase 0 lead b }

/-- A contributor's lead writes the list of each row and adds 1 for each at the finisher's module. A list shorter than k is
filled with NaN (log entry 52, DEDUCED). -/
def extWrite (s : State) (lead : Nat) (rows : List (List (Nat × Nat))) : State :=
  let site := dieSite lead
  let a := getF s SMP_EXT lead 0
  let obj := getF s SMP_EXT_SYNC lead 0
  let k := smpK s lead
  forAll rows.zipIdx s fun s row =>
    let l := row.1 ++ List.replicate (k - row.1.length) (fp32.nan, 0)
    let s := deviceWrite s site (a + row.2 * 8 * extStep) (l.flatMap fun c => bytesLE 8 (c.1 + c.2 * 2 ^ 32))
    inject s site (ctrlPkt opSYNC_ADD (gaNode a * 2 ^ 50 + syncSite obj * 2 ^ 46) obj 1) (.engine site)

/-! ## Softmax, top-p, draw (R373, R375, R381) -/

/-- A candidate after the stages of R373: ID, logit, probability. -/
structure Cand where
  id : Nat
  logit : Nat
  p : Nat
  deriving DecidableEq, Repr

/-- An FP32 sum of any number of terms, in the tree of log entry 18, DESIGN CHOICE. -/
def f32sum (l : List Nat) : Nat :=
  ((List.range 11).foldl (fun l _ => (pairUp f32add l).1) (treeOrder l)).headD 0

/-- The running FP32 sums of a list. -/
def f32running (l : List Nat) : List Nat :=
  (l.foldl (fun (p : List Nat × Nat) x =>
    let c := (f32add p.2 x).code
    (p.1 ++ [c], c)) ([], 0)).1

/-- The shortest prefix whose running sum is at least `topp`; 1.0 or more keeps all. -/
def topPrefix (topp : Nat) (l : List Cand) : List Cand :=
  if f32le 0x3F800000 topp then l
  else l.take (((f32running (l.map (·.p))).findIdx fun c => f32le topp c) + 1)

/-- The probabilities of a row of ranked candidates: softmax, top-p, renormalised (R373). -/
def smpProbs (topp : Nat) (row : List (Nat × Nat)) : List Cand :=
  let m := (row.headD (0, 0)).1
  let es := row.map fun c => (f32exp (f32sub c.1 m).code).code
  let z := f32sum es
  let all := (row.zip es).map fun c => (⟨c.1.2, c.1.1, (f32div c.2 z).code⟩ : Cand)
  let kept := topPrefix topp all
  if f32le 0x3F800000 topp then kept
  else
    let t := f32sum (kept.map (·.p))
    kept.map fun c => { c with p := (f32div c.p t).code }

/-- A uniform draw r: seeded, or from the lead's stream (R381). -/
def uniform (s : State) (lead n j : Nat) : Nat × State :=
  if getF s SMP_RNG lead 0 = 1 then (seededDraw (getF s SMP_SEED lead 0) n j, s)
  else
    let p := draw s
    (p.1 % 2 ^ 24, p.2)

/-- The FP32 value r / 2^24, exact (R375). -/
def unitOf (r : Nat) : Nat := (toFp32 (.fin false r (-24))).code

/-- The choice of R375: the first candidate in rank order at which the running sum exceeds u × the sum of all, or the
last. -/
def choose (cs : List Cand) (r : Nat) : Option Cand :=
  let run := f32running (cs.map (·.p))
  let t := (f32mul (unitOf r) (run.getLastD 0)).code
  match cs[run.findIdx fun c => f32lt t c]? with
  | some c => some c
  | none => cs.getLast?

/-! ## The end of a run (R376, R377, R379) -/

/-- The token emitted at HEAD of the history, and HEAD advanced (R377). -/
def histAppend (s : State) (lead tok : Nat) : State :=
  let n := getF s SMP_HIST_LEN_LEN lead 0
  if n = 0 then s
  else
    let h := getF s SMP_HIST_LEN_HEAD lead 0
    let s := deviceWrite s (dieSite lead) (getF s SMP_HIST lead 0 + 4 * h) (bytesLE 4 (tok % 2 ^ 18))
    setF s SMP_HIST_LEN_HEAD lead 0 ((h + 1) % n)

/-- Every member adds 1 to DONE; the lead adds for a member that is missing (R376, R379). -/
def smpDone (s : State) (lead : Nat) : State :=
  forAll (smpMembers s lead) s fun s d =>
    if getF s SMP_DONE_EN d 0 = 0 then s
    else
      let site := if (siteStatus s (dieSite d)).isSome then dieSite lead else dieSite d
      inject s site (syncPkt s opSYNC_ADD (getF s SMP_DONE_SYNC d 0) 1) (.engine site)

/-- What every member shows at the end of a run that began at a beat (R396, R397): its status, the count of runs, its
duration, the event, and ARMED or IDLE. -/
def smpShow (s : State) (lead start st : Nat) (next : Nat) : State :=
  forAll (smpMembers s lead) s fun s d =>
    let s := setF (wrapF s SMP_RUNS d 0 1) SMP_STAT_LAST d 0 st
    let s := setF s SMP_LAST_TIME d 0 (min 65535 (nowBeat s - start))
    raise (setSmpState s d next) cSMP d (if st ≤ 1 then 0 else 2)

/-- The record of a SAMPLE run (R376); what a failed run has chosen nothing for is a free value. -/
def smpRecord (s : State) (lead : Nat) (st : Nat) (c : Option Cand) : List Byte × State :=
  let tail := bytesLE 8 (getF s SMP_RUNS lead 0) ++ bytesLE 8 s.time.count ++ bytesLE 32 0
  match c with
  | some c => (bytesLE 4 c.id ++ bytesLE 1 st ++ bytesLE 3 0 ++ bytesLE 4 c.p ++ bytesLE 4 c.logit ++ tail, s)
  | none =>
    let p := draw s
    (bytesLE 4 (2 ^ 32 - 1) ++ bytesLE 1 st ++ bytesLE 3 0 ++ bytesLE 8 p.1 ++ tail, p.2)

/-- A failed run or round is reported by the unit of a page (R517, R518, R570). -/
def tokenFailed (s : State) (c inst lead st : Nat) : State :=
  if st ≤ 1 then s else reportItem s 0xB st c inst 0 0 0 (some (dieSite lead)) (partOf s (dieSite lead))

/-- A run ends with a status and, where it chose one, a candidate. -/
def smpEnd (s : State) (lead : Nat) (r : SmpRun) (st : Nat) (c : Option Cand) : State :=
  let ms := smpMembers s lead
  let off := SMap.get s.smpDisarm false lead
  let s := { s with smpRuns := SMap.erase s.smpRuns lead, smpDisarm := SMap.set s.smpDisarm false lead false }
  let s := tokenFailed (smpShow s lead r.start st 1) cSMP lead lead st
  let s := match c with
    | some c => forAll ms s fun s d => setF s SMP_LAST d 0 c.id
    | none => s
  let s := if getF s SMP_CTRL_EXT_OUT lead 0 = 1 then s
    else
      let p := smpRecord s lead st c
      let a := getF s SMP_RES lead 0 + r.n % 2 ^ getF s SMP_RES_RING lead 0 * 64
      let s := deviceWrite p.2 (dieSite lead) a p.1
      match c with
      | some c => histAppend s lead c.id
      | none => s
  let s := smpDone s lead
  if off then smpIdle s ms else s

/-- A scan ends (R395): the header, the entries, DONE, and IDLE. -/
def scanEnd (s : State) (lead st : Nat) (top : List (Nat × Nat)) : State :=
  let ms := smpMembers s lead
  let a := getF s SMP_RES lead 0
  let head := bytesLE 4 top.length ++ bytesLE 1 st ++ bytesLE 3 0 ++ bytesLE 8 s.time.count ++ bytesLE 48 0
  let s := deviceWrite s (dieSite lead) a (head ++ top.flatMap fun c => bytesLE 4 c.1 ++ bytesLE 4 0 ++ bytesLE 8 (c.2 % 2 ^ 40))
  let start := match SMap.find s.scans lead with
    | some c => c.start
    | none => nowBeat s
  let s := smpShow s lead start st 0
  smpIdle (smpDone s lead) ms

/-- A run or scan of the set led by a die ends at once with a status (R379, R422, R460). -/
def smpStop (s : State) (lead : Nat) (st : Status) : State :=
  match SMap.find s.smpRuns lead with
  | some r => smpEnd s lead r st.code none
  | none =>
    if (SMap.find s.scans lead).isSome ∧ 2 ≤ getF s SMP_STAT_STATE lead 0 then scanEnd s lead st.code [] else s

/-- A write of `SMP_CTRL.ABORT` (R379). -/
def smpAbort (s : State) (d : Nat) : State := smpStop s (smpLead s d) .cancelled

/-- A write of `SMP_CTRL` that has stored its fields: ABORT, DISARM, ARM. -/
def smpCtrl (s : State) (d v : Nat) : State :=
  let s := if hasBit v 2 then smpAbort s d else s
  let s := if hasBit v 1 then smpDisarm s d else s
  if hasBit v 0 then smpArm s d else s

/-! ## Runs (R372, R379) -/

/-- The rows of a round descriptor: one for each branch and each of its drafts (R385), none where R389 refuses its NB or
its LEN. -/
def descRows (d : Nat) : Option Nat :=
  let nb := bitsOf d 39 32
  let lens := (List.range nb).map fun b => bitsOf d (47 + 8 * b) (40 + 8 * b)
  if nb < 1 ∨ 4 < nb ∨ 16 < lens.sum then none else some (lens.sum + nb)

/-- The rows of a run: one, or those of a contributor's round descriptor (R379). -/
def runRows (s : State) (lead : Nat) : Got Nat :=
  let a := getF s SMP_RES lead 0
  if getF s SMP_CTRL_EXT_OUT lead 0 = 0 ∨ a = 0 then .ok s 1
  else (devRead s (dieSite lead) a 128).bind fun s bs =>
    match descRows (ofBytesLE bs) with
    | some n => .ok s n
    | none => .fail s .addressInvalid

/-- SAMPLER_RUN_START (R372, R373): the lead sees the start condition, and the set selects and merges. -/
def execSamplerRunStart (lead : Fin 8) (s : State) : Host.Outcome State Fault Refusal :=
  let d := lead.val
  let n := SMap.get s.smpStarted 0 d
  let st := getF s SMP_START_STRIDE d 0
  let v := (getSync s (getF s SMP_START_SYNC d 0)).visible s
  if smpLead s d ≠ d ∨ getF s SMP_STAT_STATE d 0 ≠ 1 ∨ getF s SMP_CTRL_MODE d 0 ≠ 0 ∨ smpHeld s d ∨ !reached v (st * (n + 1)) then
    .next s
  else
    let begin_ := fun (s : State) (rows : List (List (Nat × Nat))) (code : Nat) =>
      let s := { s with
        smpStarted := SMap.set s.smpStarted 0 d (n + 1)
        smpRuns := SMap.insert s.smpRuns d ⟨n, nowBeat s, rows, code⟩ }
      forAll (smpMembers s d) s fun s x =>
        setF (setSmpState s x 2) SMP_STAT_PENDING x 0 (if startsBeyond v st (n + 1) = 0 then 0 else 1)
    match (runRows s d).bind fun s k => smpRows s d k with
    | .ok s rows => .next (begin_ s rows 0)
    | .fail s e => .next (begin_ s [] e.code)
    | .wait => .next s

/-- What a run that has its external lists comes to. -/
def smpOutcome (s : State) (lead : Nat) (r : SmpRun) (rows : List (List (Nat × Nat))) : State :=
  let s := extTaken s lead rows.length
  if !rows.all rowAlive then smpEnd s lead r 5 none
  else if getF s SMP_CTRL_EXT_OUT lead 0 = 1 then smpEnd (extWrite s lead rows) lead r 0 none
  else
    let cs := smpProbs (getF s SMP_TOPP lead 0) (rows.headD [])
    if smpGreedy s lead then smpEnd s lead r 0 cs.head?
    else
      let u := uniform s lead r.n 0
      smpEnd u.2 lead r 0 (choose cs u.1)

/-- While the external lists are awaited the members read MERGE (R379, R396). -/
def smpMerging (s : State) (lead : Nat) : State := forAll (smpMembers s lead) s fun s d => setSmpState s d 3

/-- SAMPLER_RUN_DONE (R373 to R379): external lists, softmax, top-p and draw, the record, the history and DONE. -/
def execSamplerRunDone (lead : Fin 8) (s : State) : Host.Outcome State Fault Refusal :=
  let d := lead.val
  match SMap.find s.smpRuns d with
  | none => .next s
  | some r =>
    match setStatus s (smpMembers s d) with
    | some st => .next (smpEnd s d r st.code none)
    | none =>
      if r.status ≠ 0 then .next (smpEnd s d r r.status none)
      else if !extReady s d r.rows.length then .next (smpMerging s d)
      else match extMerge s d r.rows with
        | .ok s rows => .next (smpOutcome s d r rows)
        | .fail s st => .next (smpEnd s d r st.code none)
        | .wait => .next s

/-! ## Scans (R394, R395) -/

/-- Has a member read all its scores, or failed. -/
def scanOver (s : State) (d : Nat) : Bool :=
  match SMap.find s.scans d with
  | some c => c.status != 0 || decide (getF s SMP_SCAN_TOTAL d 0 ≤ c.scores)
  | none => true

/-- SCAN_BLOCK_READ (R394): a block of scores is read when the counter allows, and its slot given back. -/
def execScanBlockRead (d : Fin 8) (s : State) : Host.Outcome State Fault Refusal :=
  match SMap.find s.scans d.val with
  | none => .next s
  | some c =>
    let v := (getSync s (getF s SMP_START_SYNC d.val 0)).visible s
    if scanOver s d.val ∨ !reached v (c.base + c.blocks + 1) ∨ (siteStatus s (dieSite d.val)).isSome then .next s
    else
      let n := getF s SMP_SCAN_BLK_ENTRIES d.val 0
      let a := getF s SMP_SCAN_RING d.val 0 + c.blocks % max 1 (getF s SMP_SCAN_BLK_BLOCKS d.val 0) * (4 * n)
      let s := setSmpState s d.val 2
      let c := if c.blocks = 0 then { c with start := nowBeat s } else c
      match devRead s (dieSite d.val) a (4 * n) with
      | .wait => .next s
      | .fail s st => .next { s with scans := SMap.insert s.scans d.val { c with status := st.code } }
      | .ok s bs =>
        let m := min n (getF s SMP_SCAN_TOTAL d.val 0 - c.scores)
        let k := getF s SMP_TOPK d.val 0
        let id := getF s SMP_SCAN_IDB d.val 0 + c.scores
        let p := ((words32 bs m).zipIdx).foldl (fun (p : State × List (Nat × Nat)) x =>
          if f32isNan x.1 then (countNan p.1 d.val, p.2) else (p.1, topInsert k p.2 (x.1, id + x.2))) (s, c.top)
        let c := { c with blocks := c.blocks + 1, scores := c.scores + m, top := p.2 }
        let s := { p.1 with scans := SMap.insert p.1.scans d.val c }
        .next (inject s (dieSite d.val) (syncPkt s opSYNC_ADD (getF s SMP_EXT_SYNC d.val 0) 1) (.engine (dieSite d.val)))

/-- SCAN_DONE (R395): every member's stream is read, and the lead writes the merged list. -/
def execScanDone (lead : Fin 8) (s : State) : Host.Outcome State Fault Refusal :=
  let ms := smpMembers s lead.val
  let cs := ms.filterMap fun d => SMap.find s.scans d
  if smpLead s lead.val ≠ lead.val ∨ (SMap.find s.scans lead.val).isNone then .next s
  else match setStatus s ms with
    | some st => .next (scanEnd s lead.val st.code [])
    | none =>
      if !ms.all (scanOver s) then .next s
      else match cs.find? fun c => c.status != 0 with
        | some c => .next (scanEnd s lead.val c.status [])
        | none => .next (scanEnd s lead.val 0
            (cs.foldl (fun t c => c.top.foldl (topInsert (getF s SMP_TOPK lead.val 0)) t) []))

/-! ## The random source (R380, R382) -/

/-- A reseed succeeds, or fails and is counted; the generator goes on either way. -/
def reseed (s : State) (ok : Bool) : State :=
  if ok then wrapF s GMB_RNG_RESEEDS 0 0 1 else bumpF s GMB_RNG_STAT_FAILS 0 0 1

/-- A write of `GMB_RNG_CTRL.RESEED`. -/
def rngCtrl (s : State) (v : Nat) : State :=
  if hasBit v 0 then reseed s (getF s GMB_RNG_STAT_ENTROPY_OK 0 0 == 1) else s

/-- AUTO_RESEED (R380, R382): the reseed of an interval, by what the entropy source's tests say. -/
def execAutoReseed (ok : Bool) (s : State) : Host.Outcome State Fault Refusal :=
  .next (reseed (setF s GMB_RNG_STAT_ENTROPY_OK 0 0 (if ok then 1 else 0)) ok)

/-- ENTROPY_FAIL (R382, R571). -/
def execEntropyFail (s : State) : Host.Outcome State Fault Refusal :=
  .next (raiseFor (setF s GMB_RNG_STAT_ENTROPY_OK 0 0 0) cGMB 0 4 .all)

end Sys2Proof.Machine
end

