-- ==== Sys2Proof/Machine/Gambit.lean ====
section
/-! DEFINITION. Machine/Gambit.lean: gambit contexts, rounds, acceptance and the commit (R383 to R392, R398). -/

namespace Sys2Proof.Machine

/-! ## Layouts (R390, R392, R398) -/

/-- Bytes of one position, pages of a side window, bytes of a segment. -/
def ctxPos (s : State) (c : Nat) : Nat := 2 ^ getF s GMB_CTX_KV_GEOM_POS_SHIFT 0 c
def ctxWin (s : State) (c : Nat) : Nat := (17 * ctxPos s c + 65535) / 65536
def ctxSegBytes (s : State) (c : Nat) : Nat := getF s GMB_CTX_KV_GEOM_SEG_PAGES 0 c * 65536
def ctxSegs (s : State) (c : Nat) : Nat := getF s GMB_CTX_KV_GEOM_SEGS 0 c + 1

/-- The ranges of a context's layout in a stack: main layout, side windows. -/
def ctxRanges (s : State) (c : Nat) : List (Nat × Nat) :=
  let a := getF s GMB_CTX_KV_BASE 0 c
  let b := getF s GMB_CTX_SIDE 0 c
  [(a, a + ctxSegs s c * ctxSegBytes s c), (b, b + ctxSegs s c * 3 * ctxWin s c * 65536)]

/-- Do the layouts of two contexts overlap in a stack that both name. -/
def ctxMeet (s : State) (c e : Nat) : Bool :=
  (getF s GMB_CTX_KV_GEOM_STACKS 0 c &&& getF s GMB_CTX_KV_GEOM_STACKS 0 e) != 0 &&
  (ctxRanges s c).any fun x => (ctxRanges s e).any fun y => decide (x.1 < y.2) && decide (y.1 < x.2)

/-- The die that leads a context's set. -/
def gmbLead (s : State) (c : Nat) : Nat := getF s GMB_CTX_CTRL_LEAD 0 c

def setGmbState (s : State) (c st : Nat) : State := setF s GMB_CTX_STAT_STATE 0 c st

/-! ## The round descriptor (R384, R385, R389), as one number -/

def dNb (d : Nat) : Nat := bitsOf d 39 32
def dLen (d b : Nat) : Nat := bitsOf d (47 + 8 * b) (40 + 8 * b)
def dQAddr (d : Nat) : Nat := bitsOf d 191 128
def dQStride (d : Nat) : Nat := bitsOf d 223 192
def dDraft (d j : Nat) : Nat := bitsOf d (287 + 32 * j) (256 + 32 * j)

/-- The place of draft `i`, from 1, of branch `b` in the list of drafts. -/
def draftIdx (d b i : Nat) : Nat := ((List.range b).map (dLen d)).sum + i - 1

/-- The logit row of branch `b` at depth `i`. -/
def rowIdx (d b i : Nat) : Nat := ((List.range b).map fun x => dLen d x + 1).sum + i

/-- Does R389 refuse the descriptor. -/
def descBad (d : Nat) (greedy : Bool) : Bool :=
  (descRows d).isNone || (List.range 4).any (fun b => decide (32 ≤ dLen d b)) || bitsOf d 95 72 != 0 ||
  bitsOf d 127 114 != 0 || bitsOf d 255 224 != 0 || bitsOf d 1023 768 != 0 ||
  (List.range 16).any (fun j => decide (2 ^ 18 ≤ dDraft d j)) || (!greedy && dQAddr d % 64 != 0)

/-- Does the commit pointer leave no room in a segment (R389). -/
def ctxFull (s : State) (c : Nat) : Bool :=
  decide (getF s GMB_CTX_KV_GEOM_SEG_PAGES 0 c * 2 ^ (16 - getF s GMB_CTX_KV_GEOM_POS_SHIFT 0 c) <
    getF s GMB_CTX_COMMIT 0 c + 17)

/-! ## The end of a round (R388, R389) -/

/-- The result record: round number, status, branch, accepted drafts, commit pointer, tokens. -/
def gmbRecord (s : State) (c round st b a : Nat) (toks : List Nat) : List Byte :=
  bytesLE 4 round ++ bytesLE 1 (st + 16 * b) ++ bytesLE 1 a ++ bytesLE 2 0 ++ bytesLE 4 (getF s GMB_CTX_COMMIT 0 c) ++
  bytesLE 4 0 ++ ((toks ++ List.replicate (17 - toks.length) 0).take 17).flatMap (bytesLE 4) ++ bytesLE 44 0

/-- The record written, DONE advanced, the counters and the events. -/
def gmbClose (s : State) (c round start st b a : Nat) (toks : List Nat) (next : Nat) : State :=
  let lead := gmbLead s c
  let site := dieSite lead
  let s := { s with gmbRuns := SMap.erase s.gmbRuns c, gmbPending := SMap.set s.gmbPending false c false }
  let s := deviceWrite s site (getF s GMB_CTX_RES 0 c) (gmbRecord s c round st b a toks)
  let s := if st ≤ 1 then forAll toks s fun s t => histAppend s lead t else s
  let s := inject s site (syncPkt s opSYNC_ADD (getF s GMB_CTX_DONE 0 c) 1) (.engine site)
  let s := setF (setF s GMB_CTX_STAT_LAST 0 c st) GMB_CTX_STAT_A 0 c a
  let s := wrapF (bumpF s GMB_CTX_ACCEPTED 0 c a) GMB_CTX_ROUNDS 0 c 1
  let s := if (smpMembers s lead).any fun d => 2 ≤ getF s SMP_STAT_STATE d 0 then smpShow s lead start st 0 else s
  let s := setGmbState s c (if next = 1 ∧ getF s GMB_CTX_CTRL_EN 0 c = 0 then 0 else next)
  tokenFailed (raiseFor s cGMB 0 (if st ≤ 1 then 0 else 1) (ctxBelongs s c)) cGMB 0 lead st

/-- A round fails, or is refused, with a status: nothing is committed. Its first token is a free value. -/
def gmbFail (s : State) (c round start st next : Nat) : State :=
  let p := draw s
  gmbClose p.2 c round start st 0 0 [p.1 % 2 ^ 18] next

/-- A round of a context ends at once with a status (R398, R422, R460). -/
def gmbStop (s : State) (c : Nat) (st : Status) : State :=
  match SMap.find s.gmbRuns c with
  | some r => gmbFail s c (r.desc % 2 ^ 32) r.start st.code 1
  | none => s

/-! ## Control (R383, R398) -/

/-- A write of 1 to EN: refused when the layout overlaps that of an enabled context. -/
def gmbEnable (s : State) (c : Nat) : State :=
  if getF s GMB_CTX_CTRL_EN 0 c = 1 then s
  else if (List.range 8).any fun e => e != c && getF s GMB_CTX_CTRL_EN 0 e == 1 && ctxMeet s c e then s
  else
    let lead := gmbLead s c
    let s := { setF s GMB_CTX_CTRL_EN 0 c 1 with
      gmbStarted := SMap.set s.gmbStarted 0 c 0
      gmbPending := SMap.set s.gmbPending false c false
      extBase := SMap.set s.extBase 0 lead (getSync s (getF s SMP_EXT_SYNC lead 0)).val }
    if getF s GMB_CTX_STAT_STATE 0 c = 0 then setGmbState s c 1 else s

/-- A write of `GMB_CTXc_CTRL` that has stored LEAD. -/
def gmbCtrl (s : State) (c v : Nat) : State :=
  let s := if hasBit v 1 then gmbStop s c .cancelled else s
  let s := if hasBit v 2 ∧ getF s GMB_CTX_STAT_STATE 0 c = 4 then
      setGmbState s c 0 else s
  if hasBit v 0 then gmbEnable s c
  else
    let s := setF s GMB_CTX_CTRL_EN 0 c 0
    if getF s GMB_CTX_STAT_STATE 0 c = 1 then setGmbState s c 0 else s

/-! ## The start of a round (R383, R384, R389) -/

/-- A round that has read its descriptor. -/
def roundBegin (s : State) (c n d : Nat) : State :=
  let lead := gmbLead s c
  let now := nowBeat s
  if descBad d (smpGreedy s lead) then gmbFail s c (d % 2 ^ 32) now 8 1
  else if ctxFull s c then
    gmbFail (raiseFor s cGMB 0 2 (ctxBelongs s c)) c (d % 2 ^ 32) now 8 1
  else
    let go := fun (s : State) (rows : List (List (Nat × Nat))) (st : Nat) =>
      let s := { s with gmbRuns := SMap.insert s.gmbRuns c ⟨n, now, d, rows, st, none⟩ }
      forAll (smpMembers s lead) (setGmbState s c 2) fun s x => setSmpState s x 2
    match smpRows s lead ((descRows d).getD 0) with
    | .ok s rows => go s rows 0
    | .fail s st => go s [] st.code
    | .wait => s

/-- ROUND_START (R383, R389): the start condition is reached; the descriptor is read, and the round starts or is
refused. -/
def execRoundStart (c : Fin 8) (s : State) : Host.Outcome State Fault Refusal :=
  let n := SMap.get s.gmbStarted 0 c.val
  let lead := gmbLead s c.val
  let st := getF s GMB_CTX_STAT_STATE 0 c.val
  let v := (getSync s (getF s GMB_CTX_START_SYNC 0 c.val)).visible s
  if getF s GMB_CTX_CTRL_EN 0 c.val = 0 ∨ 2 ≤ st ∨ (SMap.find s.gmbRuns c.val).isSome ∨
      (smpMembers s lead).any (fun d => 2 ≤ getF s SMP_STAT_STATE d 0) ∨
      !reached v (getF s GMB_CTX_START_STRIDE 0 c.val * (n + 1)) then .next s
  else
    let begun := fun (s : State) => { s with gmbStarted := SMap.set s.gmbStarted 0 c.val (n + 1) }
    match devRead s (dieSite lead) (getF s GMB_CTX_DESC 0 c.val) 128 with
    | .ok s bs => .next (roundBegin (begun s) c.val n (ofBytesLE bs))
    | .fail s e =>
      let p := draw (begun s)
      .next (gmbFail p.2 c.val (p.1 % 2 ^ 32) (nowBeat s) e.code 1)
    | .wait => .next s

/-! ## Acceptance (R386, R387) -/

/-- Greedy acceptance: the leading drafts of each branch that are the top candidates; the longest branch, the lowest on
a tie; the top candidate after it. -/
def acceptGreedy (d : Nat) (rows : List (List (Nat × Nat))) : Nat × Nat × List Nat :=
  let top := fun b i => ((rows.getD (rowIdx d b i) []).headD (0, 0)).2
  let len := fun b => ((List.range (dLen d b)).takeWhile fun i => dDraft d (draftIdx d b (i + 1)) == top b i).length
  let best := (List.range (dNb d)).foldl (fun x b => if len x < len b then b else x) 0
  let a := len best
  (best, a, (List.range a).map (fun i => dDraft d (draftIdx d best (i + 1))) ++ [top best a])

/-- The draft model's probabilities at the candidates, from draft row `j` (R384). -/
def draftProbs (s : State) (lead d j : Nat) (cs : List Cand) : Got (List Nat) :=
  Got.fold cs s [] fun s qs x =>
    (devRead s (dieSite lead) (dQAddr d + j * dQStride d + 2 * x.id) 2).bind fun s bs =>
      .ok s (qs ++ [ofBytesLE bs * 65536])

/-- Is `u < min(1, p / q)`; the ratio is 1 or more when `q` is 0. -/
def accepts (u p q : Nat) : Bool :=
  f32lt u (if f32eq q 0 then 0x3F800000 else (f32min 0x3F800000 (f32div p q).code).code)

/-- `norm(max(0, p − q))`; a sum of 0 leaves `p` as it is. -/
def residual (cs : List Cand) (qs : List Nat) : List Cand :=
  let ps := (cs.zip qs).map fun x => (f32max 0 (f32sub x.1.p x.2).code).code
  let z := f32sum ps
  if f32eq z 0 then cs else (cs.zip ps).map fun x => { x.1 with p := (f32div x.2 z).code }

/-- One test of draft `j` against a row: the answer, and the row to go on with when it is rejected. -/
def acceptTest (s : State) (lead n d j k : Nat) (cs : List Cand) : Got (Bool × List Cand) :=
  (draftProbs s lead d k cs).bind fun s qs =>
    let u := uniform s lead n j
    let ok := match (cs.zip qs).find? fun x => x.1.id == dDraft d k with
      | some x => accepts (unitOf u.1) x.1.p x.2
      | none => false
    .ok u.2 (ok, if ok then cs else residual cs qs)

/-- The token drawn from a row. -/
def drawToken (s : State) (lead n j : Nat) (cs : List Cand) : State × Nat :=
  let u := uniform s lead n j
  (u.2, match choose cs u.1 with
    | some c => c.id
    | none => 0)

/-- The first drafts of the live branches: draws made, the branch accepted, the row left. -/
def firstDrafts (lead n d : Nat) : State → Nat → List Cand → List Nat → Got (Nat × Option Nat × List Cand)
  | s, j, p, [] => .ok s (j, none, p)
  | s, j, p, b :: bs =>
    (acceptTest s lead n d j (draftIdx d b 1) p).bind fun s r =>
      if r.1 then .ok s (j + 1, some b, p) else firstDrafts lead n d s (j + 1) r.2 bs

/-- The drafts of the chosen branch from the second on: how many are accepted in all, and the new token. -/
def deeperDrafts (lead n d b : Nat) (row : Nat → List Cand) : State → Nat → List Nat → Got (Nat × Nat)
  | s, j, [] =>
    let t := drawToken s lead n j (row (dLen d b))
    .ok t.1 (dLen d b, t.2)
  | s, j, i :: is =>
    (acceptTest s lead n d j (draftIdx d b i) (row (i - 1))).bind fun s r =>
      if r.1 then deeperDrafts lead n d b row s (j + 1) is
      else
        let t := drawToken s lead n (j + 1) r.2
        .ok t.1 (i - 1, t.2)

/-- Acceptance in sampling mode (R387). -/
def acceptSampling (s : State) (lead n d : Nat) (rows : List (List (Nat × Nat))) : Got (Nat × Nat × List Nat) :=
  let row := fun b i => smpProbs (getF s SMP_TOPP lead 0) (rows.getD (rowIdx d b i) [])
  let live := (List.range (dNb d)).filter fun b => decide (1 ≤ dLen d b)
  match live with
  | [] =>
    let t := drawToken s lead n 0 (row 0 0)
    .ok t.1 (0, 0, [t.2])
  | l :: _ =>
    (firstDrafts lead n d s 0 (row l 0) live).bind fun s r =>
      match r.2.1 with
      | none =>
        let t := drawToken s lead n r.1 r.2.2
        .ok t.1 (l, 0, [t.2])
      | some b =>
        (deeperDrafts lead n d b (row b) s r.1 ((List.range (dLen d b - 1)).map (· + 2))).bind fun s x =>
          .ok s (b, x.1, (List.range x.1).map (fun i => dDraft d (draftIdx d b (i + 1))) ++ [x.2])

/-- The acceptance rule of the set's mode. -/
def gmbAccept (s : State) (lead : Nat) (r : GmbRun) (rows : List (List (Nat × Nat))) : Got (Nat × Nat × List Nat) :=
  if smpGreedy s lead then .ok s (acceptGreedy r.desc rows) else acceptSampling s lead r.n r.desc rows

/-! ## The commit (R391, R392) -/

/-- One burst copied within a stack; an uncorrectable burst stays one. -/
def copyBurst (s : State) (k src dst : Nat) : Option State :=
  (flushAll s (linesAt (physStack k src) 64) false).bind fun s =>
    (flushAll s (linesAt (physStack k dst) 64) true).map fun s =>
      let bad := isUe s (physStack k src)
      markUe (writeBytes s (physStack k dst) (readBytes s (physStack k src) 64)) (physStack k dst) bad

/-- Where the commit of branch `b` with `a` drafts copies from and to, in bursts of every segment. -/
def commitBursts (s : State) (c b a : Nat) : List (Nat × Nat) :=
  if b = 0 then []
  else
    (List.range (ctxSegs s c)).flatMap fun g =>
      let src := getF s GMB_CTX_SIDE 0 c + (g * 3 + b - 1) * ctxWin s c * 65536
      let dst := getF s GMB_CTX_KV_BASE 0 c + g * ctxSegBytes s c + getF s GMB_CTX_COMMIT 0 c * ctxPos s c
      (List.range ((a + 1) * ctxPos s c / 64)).map fun i => (src + 64 * i, dst + 64 * i)

/-- The stacks of a context. -/
def ctxStacks (s : State) (c : Nat) : List Nat := (List.range 8).filter (hasBit (getF s GMB_CTX_KV_GEOM_STACKS 0 c))

/-- The copy in every stack, none while a line has to be waited for. -/
def commitCopy (s : State) (c b a : Nat) : Option State :=
  let bursts := commitBursts s c b a
  (ctxStacks s c).foldl (fun o k => bursts.foldl (fun o p => o.bind fun s => copyBurst s k p.1 p.2) o) (some s)

/-- The commit of a decided round: it waits for stacks that are not READY, and fails with a FAILED one (R392). -/
def gmbCommit (s : State) (c : Nat) (r : GmbRun) (b a : Nat) (toks : List Nat) : State :=
  let ks := ctxStacks s c
  let round := r.desc % 2 ^ 32
  if ks.any fun k => stackFailed s k || siteFailed s (stackSite k) then gmbFail s c round r.start 5 4
  else if ks.any fun k => !stackServes s k || (siteStatus s (stackSite k)).isSome then s
  else match commitCopy s c b a with
    | none => s
    | some s =>
      let lead := gmbLead s c
      let s := setF s GMB_CTX_COMMIT 0 c (getF s GMB_CTX_COMMIT 0 c + a + 1)
      let s := forAll (smpMembers s lead) s fun s d => setF s SMP_LAST d 0 (toks.getLastD 0)
      gmbClose (setF s GMB_CTX_STAT_BRANCH 0 c b) c round r.start 0 b a toks 1

/-- ROUND_END (R386 to R392): external lists, the acceptance rule, the commit, the record, the history and DONE. -/
def execRoundEnd (c : Fin 8) (s : State) : Host.Outcome State Fault Refusal :=
  match SMap.find s.gmbRuns c.val with
  | none => .next s
  | some r =>
    let lead := gmbLead s c.val
    let fail := fun (s : State) (st : Nat) => gmbFail s c.val (r.desc % 2 ^ 32) r.start st 1
    match r.chosen with
    | some x => .next (gmbCommit s c.val r x.1 x.2.1 x.2.2)
    | none =>
      match setStatus s (smpMembers s lead) with
      | some st => .next (fail s st.code)
      | none =>
        if r.status ≠ 0 then .next (fail s r.status)
        else if !extReady s lead r.rows.length then .next (smpMerging s lead)
        else
          match (extMerge s lead r.rows).bind fun s rows =>
            if rows.all rowAlive then gmbAccept s lead r rows else .fail s .uncorrectable with
          | .fail s st => .next (fail (extTaken s lead r.rows.length) st.code)
          | .wait => .next s
          | .ok s x =>
            let r := { r with chosen := some x }
            let s := setGmbState (extTaken s lead r.rows.length) c.val 3
            .next (gmbCommit { s with gmbRuns := SMap.insert s.gmbRuns c.val r } c.val r x.1 x.2.1 x.2.2)

end Sys2Proof.Machine
end

