-- ==== Sys2Proof/Machine/HostQueue.lean ====
section
/-! DEFINITION. Machine/HostQueue.lean: submission areas, completion rings and mailboxes of the host port (R481 to R486,
R501). -/

namespace Sys2Proof.Machine

/-! ## Areas (R481, R504) -/

def getArea (s : State) (p : Nat) : HostArea := SMap.get s.areas HostArea.init p

/-- An area put back, with the counts its registers show. -/
def putArea (s : State) (p : Nat) (a : HostArea) : State :=
  setF (setF { s with areas := SMap.set s.areas HostArea.init p a } HST_SQ_STAT_INFLIGHT 0 p a.items.length)
    HST_CQ_TAIL_HELD 0 p a.held.length

/-- The codes of `HST_SQ_STATn.STATE`. -/
abbrev saDisabled : Nat := 0
abbrev saActive : Nat := 1
abbrev saPaused : Nat := 2

def areaState (s : State) (p : Nat) : Nat := getF s HST_SQ_STAT_STATE 0 p

/-- The function that owns an area (R477): 0 the PF, n + 1 VF n + 1. -/
def areaOwner (s : State) (p : Nat) : Nat := if vfEnabled s p then p + 1 else 0

/-! ## Completions (R484) -/

/-- The ring has no room: TAIL − HEAD equals its size. -/
def cqFull (s : State) (p : Nat) : Bool :=
  (getF s HST_CQ_TAIL_CNT 0 p + 2 ^ 16 - getF s HST_CQ_HEAD 0 p) % 2 ^ 16 == 2 ^ getF s HST_CQ_CFG 0 p

/-- A completion entry written at the tail. -/
def cqWrite (s : State) (p : Nat) (i : HostItem) (st v : Nat) : State :=
  let size := 2 ^ getF s HST_CQ_CFG 0 p
  let t := getF s HST_CQ_TAIL_CNT 0 p
  let bs := bytesLE 2 i.tag ++ bytesLE 1 (st + 128 * (1 - t / size % 2)) ++ bytesLE 5 0 ++ bytesLE 8 v
  wrapF (emit s (.hostWrite (getF s HST_CQ_BASE 0 p + 16 * (t % size)) bs)) HST_CQ_TAIL_CNT 0 p 1

/-- An item leaves those in flight. -/
def dropItem (s : State) (p idx : Nat) : State :=
  let a := getArea s p
  putArea s p { a with items := a.items.filter fun i => i.idx != idx }

/-- Held completions are written while the area is ACTIVE and the ring has room. -/
def cqDrain (s : State) (p : Nat) : Nat → State
  | 0 => s
  | n + 1 =>
    match (getArea s p).held with
    | [] => s
    | h :: rest =>
      if areaState s p ≠ saActive ∨ cqFull s p then s
      else
        let s := cqWrite s p h.1 h.2.1 h.2.2
        cqDrain (dropItem (putArea s p { getArea s p with held := rest }) p h.1.idx) p n

/-- What has completed is written or held; an item OK with CMP 0 needs no entry (R483, R484). -/
def hostFlush (s : State) (p : Nat) : State :=
  let mine := s.hostDone.filter fun d => d.1 == p
  let s := { s with hostDone := s.hostDone.filter fun d => d.1 != p }
  let before := (getArea s p).held.length
  let s := forAll mine s fun s d =>
    let a := getArea s p
    match a.items.find? fun i => i.idx == d.2.1 with
    | none => s
    | some i =>
      if i.cmp ∨ d.2.2.1 ≠ 0 then putArea s p { a with held := a.held ++ [(i, d.2.2.1, d.2.2.2)] } else dropItem s p i.idx
  let s := cqDrain s p 257
  if areaState s p = saActive ∧ before < (getArea s p).held.length then raiseFor s cHST 0 4 (.part p) else s

/-- The same for every area. -/
def hostFlushAll (s : State) : State := forAll (List.range 8) s hostFlush

/-- Held completions are discarded (R484, R501, R502): counted, reported with tag and status, signalled. -/
def cqDiscard (s : State) (p : Nat) : State :=
  let hs := (getArea s p).held
  if hs = [] then s
  else
    let s := forAll hs s fun s h => reportItem (dropItem s p h.1.idx) 0xE h.2.1 cHST 0 0 h.1.tag 0 none (some p)
    let s := putArea s p { getArea s p with held := [] }
    raiseFor (bumpF s HST_CQ_LOST 0 p hs.length) cHST 0 5 (.part p)

/-- A write of `HST_SQ_CFGn.EN` (R481, R501): 1 restarts the area at head 0 and phase 1; with the host link down it is
PAUSED from the start (log entry 56, DEDUCED). -/
def sqEnable (s : State) (p : Nat) (en : Bool) : State :=
  if !en then setF s HST_SQ_STAT_STATE 0 p saDisabled
  else
    let s := cqDiscard (hostFlush s p) p
    let s := setF (setF s HST_SQ_STAT_HEAD 0 p 0) HST_SQ_STAT_PHASE 0 p 1
    let s := putArea s p { getArea s p with scan := none }
    setF s HST_SQ_STAT_STATE 0 p (if getF s HST_LINK_STATE 0 0 = 2 then saActive else saPaused)

/-! ## Scans and starts (R88, R482, R483) -/

/-- Is now a scan instant of a partition (R88). -/
def scanInstant (s : State) (p : Nat) : Bool :=
  let per := s.tempo.scanPeriod.getD p 0
  per != 0 && s.time.count % per == 0 && s.time.beat == s.tempo.scanBeat.getD p 0

/-- The scan read of an area: up to BATCH entries, to the end of the ring, within the 256 items in flight; skipped while
another is outstanding. -/
def scanArea (s : State) (p : Nat) : State :=
  if areaState s p ≠ saActive then s
  else
    let a := { getArea s p with lastScan := nowBeat s + 1 }
    let s := putArea s p a
    if a.scan.isSome then raiseFor (bumpF s HST_SCAN_SKIPPED 0 p 1) cHST 0 3 (.part p)
    else
      let h := getF s HST_SQ_STAT_HEAD 0 p
      let n := min (min (getF s HST_SQ_CFG_BATCH 0 p) (2 ^ getF s HST_SQ_CFG_SIZE 0 p - h)) (256 - a.items.length)
      if n = 0 then s
      else emit (putArea s p { a with scan := some (nowClk s, h, n) }) (.hostRead p (getF s HST_SQ_BASE 0 p + 64 * h) (64 * n))

/-- An entry of the ring as an item: its operation and arguments; `good` says that its reserved fields are 0. -/
def itemOf (idx e : Nat) : HostItem :=
  ⟨idx, bitsOf e 7 0, bitsOf e 31 16, hasBit e 9, bitsOf e 127 64, bitsOf e 191 128,
    bitsOf e 15 10 == 0 && bitsOf e 63 32 == 0 && bitsOf e 511 192 == 0, false⟩

/-- The head moves past `n` entries, and the phase flips where it wraps (R481). -/
def headMoves (s : State) (p n : Nat) : State :=
  let size := 2 ^ getF s HST_SQ_CFG_SIZE 0 p
  let h := getF s HST_SQ_STAT_HEAD 0 p + n
  if h < size then setF s HST_SQ_STAT_HEAD 0 p h
  else setF (setF s HST_SQ_STAT_HEAD 0 p (h - size)) HST_SQ_STAT_PHASE 0 p (1 - getF s HST_SQ_STAT_PHASE 0 p)

/-- The scan read takes no entry (R483). -/
def scanFailed (s : State) (p : Nat) : State :=
  raiseFor (bumpF (putArea s p { getArea s p with scan := none }) HST_SCAN_FAILED 0 p 1) cHST 0 2 (.part p)

/-! ## Mailboxes (R485, R486) -/

/-- A write of `HST_MBX_CFGn.EN` (R485): its base count is that of the object now. -/
def mbxEnable (s : State) (p : Nat) : State :=
  setF (putArea s p { getArea s p with
    mbxBase := (getSync s (getF s HST_MBX_CFG_SYNC 0 p)).val
    pushed := 0 }) HST_MBX_CNT_PUSHED 0 p 0

/-- Records written since EN (R485). -/
def mbxWritten (s : State) (p : Nat) : Nat :=
  ((getSync s (getF s HST_MBX_CFG_SYNC 0 p)).val + 2 ^ 48 - (getArea s p).mbxBase) % 2 ^ 48 / getF s HST_MBX_CFG_STRIDE 0 p

/-- Records pushed to host memory, oldest first. A record whose read fails or must wait ends this push. -/
def pushRecords (s : State) (p : Nat) : Nat → State
  | 0 => s
  | n + 1 =>
    let a := getArea s p
    let slots := 2 ^ getF s HST_MBX_CFG_SLOTS 0 p
    if mbxWritten s p ≤ a.pushed then s
    else
      let base := getF s HST_W2_BASE 0 p
      let k := a.pushed % slots
      match devRead s (gaSite base) (base + 64 * getF s HST_MBX_OFS 0 p + 64 * k) 64 with
      | .ok s bs =>
        let s := emit s (.hostWrite (getF s HST_MBX_PUSH 0 p + 64 * k) bs)
        pushRecords (putArea s p { getArea s p with pushed := a.pushed + 1 }) p n
      | .fail s _ => s
      | .wait => s

/-- The push at a scan instant (R486): records overwritten before they could be pushed are skipped and counted; up to 64
records, then the count. -/
def mbxPush (s : State) (p : Nat) : State :=
  if getF s HST_MBX_CFG_EN 0 p = 0 ∨ getF s HST_MBX_PUSH 0 p = 0 ∨ areaState s p = saPaused then s
  else
    let slots := 2 ^ getF s HST_MBX_CFG_SLOTS 0 p
    let a := getArea s p
    let w := mbxWritten s p
    let s := if a.pushed + slots < w then
        raiseFor (bumpF (putArea s p { a with pushed := w - slots }) HST_MBX_CNT_OVERRUN 0 p (w - slots - a.pushed)) cHST 0 6
          (.part p)
      else s
    let from_ := (getArea s p).pushed
    let s := pushRecords s p 64
    let n := (getArea s p).pushed
    let s := setF s HST_MBX_CNT_PUSHED 0 p n
    if n = from_ ∧ from_ = a.pushed then s
    else emit s (.hostWrite (getF s HST_MBX_PUSH 0 p + 64 * slots) (bytesLE 8 n))

/-! ## The link (R501) -/

/-- The host link goes down: every area in use is PAUSED, and scan reads take no entry. -/
def linkDown (s : State) : State :=
  if getF s HST_LINK_STATE 0 0 = 0 then s
  else
    let s := setF (setF (setF s HST_LINK_STATE 0 0 0) HST_LINK_WIDTH 0 0 0) HST_LINK_SPEED 0 0 0
    let s := forAll (List.range 8) s fun s p =>
      let s := if areaState s p = saActive then setF s HST_SQ_STAT_STATE 0 p saPaused else s
      putArea s p { getArea s p with scan := none }
    raiseFor s cHST 0 1 .noPart

end Sys2Proof.Machine
end

