-- ==== Sys2Proof/Machine/Seam.lean ====
section
/-! DEFINITION. Machine/Seam.lean: the wires of the seam bridge and their spares (R545 to R549). -/

namespace Sys2Proof.Machine

/-- A wire's map entry as `SEA_MAP_DATA` codes it: state and, where there is one, the peer. -/
def seamEntry (st : Nat) (peer : Option Nat) : Nat :=
  st * 2 ^ 12 + match peer with
    | some p => 2 ^ 11 + p
    | none => 0

def wireState (s : State) (w : Nat) : Nat := SMap.get s.seam 0 w / 2 ^ 12
def wirePeer (s : State) (w : Nat) : Option Nat :=
  let e := SMap.get s.seam 0 w
  if hasBit e 11 then some (e % 2 ^ 11) else none
def setWire (s : State) (w st : Nat) (peer : Option Nat) : State :=
  { s with seam := SMap.set s.seam 0 w (seamEntry st peer) }

/-- The lowest-numbered free spare. -/
def freeSpare (s : State) : Option Nat :=
  ((List.range 256).map fun i => 1792 + i).find? fun w => SMap.get s.seam 0 w == 0

/-- The wires of control link `k`: 0 to 7 West to East, 8 to 15 East to West (R545). -/
def linkWires (k : Nat) : List Nat := (List.range 64).map fun b => 64 * k + b

/-- Is a control link in service: none of its wires is lost. -/
def ctrlUp (s : State) (k : Nat) : Bool := !s.seam.any fun e => e.1 / 64 == k && e.2 / 2 ^ 12 == 2

/-- `SEA_STAT` shows what is left. -/
def showSeam (s : State) : State :=
  let up := fun (b : Nat) => ((List.range 8).filter fun k => ctrlUp s (b + k)).length
  let used := (s.seam.filter fun e => 1792 ≤ e.1).length
  setF (setF (setF s SEA_STAT_CTRL_WE 0 0 (up 0)) SEA_STAT_CTRL_EW 0 0 (up 8)) SEA_STAT_SPARES 0 0 (256 - used)

/-- The control link that gives a wire to a group that must keep all of its own: the highest-numbered in service (log
entry 53). -/
def donorLink (s : State) : Option Nat :=
  (([7, 6, 5, 4, 3, 2, 1, 0] : List Nat).flatMap fun k => [8 + k, k]).find? (ctrlUp s)

/-- A wire is lost for want of a spare (R547). -/
def wireLost (s : State) (w : Nat) : State :=
  let s := if w < 1024 then setWire s w 2 none
    else if w < 1536 then
      let s := setWire s w 2 none
      let other := if w % 2 = 0 then w + 1 else w - 1
      if wireState s other = 2 then
        setF (setF s SEA_SYNC_SINGLE 0 0 (getF s SEA_SYNC_SINGLE 0 0 - 1)) SEA_SYNC_LOST 0 0 (getF s SEA_SYNC_LOST 0 0 + 1)
      else setF s SEA_SYNC_SINGLE 0 0 (getF s SEA_SYNC_SINGLE 0 0 + 1)
    else match donorLink s with
      | none => setWire s w 2 none
      | some k =>
        match (linkWires k).find? fun x => wireState s x == 0 with
        | some x => setWire (setWire s x 2 none) w 1 (some x)
        | none => setWire s w 2 none
  raise s cSEA 0 1

/-- A wire fails (R547): the lowest-numbered free spare takes its place and the repair is recorded, or it is lost. A spare
that fails in use is replaced for the wire it serves; one that fails unused is used up (log entry 53, DEDUCED). -/
def wireFail (s : State) (wire : Nat) : State :=
  let w := if 1792 ≤ wire then (wirePeer s wire).getD wire else wire
  if 1792 ≤ w then (if SMap.get s.seam 0 w = 0 then showSeam (setWire s w 3 none) else s)
  else if wireState s w = 2 ∨ (wireState s w = 1 ∧ w = wire) then s
  else
    let s := fuseRepair s 0x15 0 wire
    let s := match freeSpare s with
      | some p =>
        let was := getF s SEA_STAT_SPARES 0 0
        let s := showSeam (setWire (setWire s p 3 (some w)) w 1 (some p))
        let s := raise s cSEA 0 0
        if was = 16 then raise s cSEA 0 2 else s
      | none => wireLost s w
    showSeam s

/-- WIRE_FAILURE (R546, R547): a wire gives some errors more in this round, words of its control link are resent for errors
that the code could not correct, and the wire fails a test. It fails with its test, or once its errors in the round reach
`SEA_THR.ERRS`. On a control wire an error is corrected (R548, R549). -/
def execWireFailure (w : Fin 2048) (errs resent : Fin 65536) (test : Bool) (s : State) : Host.Outcome State Fault Refusal :=
  let n := SMap.get s.seamErrs 0 w + errs.val
  let s := { s with seamErrs := SMap.set s.seamErrs 0 w n }
  let s := if w.val < 1024 ∧ 0 < errs.val then raise (bumpF s SEA_CE 0 0 errs) cSEA 0 3 else s
  let s := if w.val < 1024 then bumpF s SEA_UE 0 0 resent else s
  .next (if test ∨ getF s SEA_THR 0 0 ≤ n then wireFail { s with seamErrs := SMap.set s.seamErrs 0 w 0 } w else s)

end Sys2Proof.Machine
end

