-- ==== Sys2Proof/Machine/Reset.lean ====
section
/-! DEFINITION. Machine/Reset.lean: resets of partitions and single sites, their end, the partition map, capacity, and
sites that lose their rail (R46, R416 to R425, R543). -/

namespace Sys2Proof.Machine

/-! ## Headers (R543) -/

/-- The header fields that a partition or module reset returns to their reset values. -/
def headerOff (o : Nat) : Bool := decide (o < 0x40) && o != 0x30 && o != 0x34

/-- The headers of the pages that a test names (class, instance) are reset. -/
def resetHeaders (s : State) (p : Nat → Nat → Bool) : State :=
  { s with
    regs := s.regs.filter fun e => !(headerOff (e.1 / 32 % 4096) && p (e.1 / 2 ^ 28) (e.1 / 2 ^ 17 % 2048))
    raised := s.raised.filter fun e => !p (e.1 / 32 / 2048) (e.1 / 32 % 2048) }

/-- Is a page site-scoped with its site among those listed. -/
def pageOf (sites : List Nat) (c inst : Nat) : Bool :=
  match siteOfInst c inst with
  | some x => sites.contains x
  | none => false

/-! ## What a reset does at its tempo 0 (R422) -/

/-- The positions of a site's die. -/
def siteCores (site : Nat) : List Nat :=
  match siteDie site with
  | some d => (List.range 160).map fun i => 160 * d + i
  | none => []

/-- The clusters of a site's die. -/
def siteClus (site : Nat) : List Nat :=
  match siteDie site with
  | some d => (List.range 4).map fun i => 4 * d + i
  | none => []

/-- Does a site's next entry wait: its scheduled time has come, and its wait is not met (R78). -/
def entryWaits (s : State) (site : Nat) : Bool :=
  let q := getSeq s site
  let st := seqState s site
  (st == mvRunning || (st == mvStalled && !q.eccStall)) && decide (q.posIter < q.heads) && decide (0 ≤ sinceDue s site) &&
    !moveWaitMet s site

/-- A site's sequencer stops as for STOP (R84); the wait of its next entry is an item that ends CANCELLED (R420). -/
def seqReset (s : State) (site : Nat) : State :=
  let q := getSeq s site
  let s := if entryWaits s site then
      logItem s site (.moveSync site) 3 .cancelled (syncPkt s opSYNC_READ (meSync (moveEntry s site q.idx)) 0).dst 0
    else s
  let s := if seqActive s site ∨ seqState s site = mvChecking then endRun s site mvStopped 11 else s
  putSeq (setF s MOV_CTRL_SWAP_ARM site 0 0) site { getSeq s site with swap := none, swapChecking := false }

/-- Sampler sets with a member at one of the sites end their runs, and are disarmed; gambit contexts led from there end
their rounds, and are disabled (R417, R422). -/
def samplersReset (s : State) (sites : List Nat) (st : Status) : State :=
  let dies := (List.range 8).filter fun d => sites.contains (dieSite d)
  let s := forAll (List.range 8) s fun s c =>
    if dies.contains (gmbLead s c) then
      { setF (setGmbState (gmbStop s c st) c 0) GMB_CTX_CTRL_EN 0 c 0 with
        gmbPending := SMap.set s.gmbPending false c false }
    else s
  forAll (List.range 8) s fun s d =>
    if smpLead s d = d ∧ (smpMembers s d).any dies.contains then smpIdle (smpStop s d st) (smpMembers s d) else s

/-- Requests of others that wait at a site are answered with the site's status (R421). -/
def refuseQueue (s : State) (site key : Nat) (st : Status) : State :=
  let hs := hotQueue s key
  forAll hs (putHot s key []) fun s h =>
    let s := match h.held with
      | some l => freeCells s l (pktCells h.pkt)
      | none => s
    drainSub (answer s site h.pkt st 0 (retryAfter s site)) h.pkt.epoch

/-- Every item of a site is absorbed (R419, R420), and what others had waiting in its packet engine is refused. -/
def absorbSite (s : State) (site : Nat) (st : Status) : State :=
  let s := absorbWhere s site (fun _ => true) fun _ => true
  let s := forAll (siteCores site) s fun s c => absorbWait (absorbFills s c) c
  let s := forAll (s.copyWait.filter fun w => w.1 == site) { s with copyWait := s.copyWait.filter fun w => w.1 != site }
    fun s w => tableFail s site w.2 .cancelled
  refuseQueue s site (2 ^ 60 + site) st

/-- A cluster's lines leave its cache: an M line is lost, and each home goes on without the cluster (R212). -/
def cluLinesLost (s : State) (cl : Nat) : State :=
  let s := forAll (cluLines s cl) s fun s e => dropLine s cl e.1
  let s := { s with fills := s.fills.filter fun w => w.cluster != cl }
  forAll s.dirs s fun s e =>
    let d := getDir s e.1
    let s := putDir s e.1 { d with
      sharers := clearBit d.sharers cl
      waiting := d.waiting.filter fun w => w.cl != cl }
    if d.state = 2 ∧ d.owner = cl then dirLeft s cl e.1 none else dirAck s cl e.1 d.txn false

/-- The packets in the queues of a site's packet engine are dropped (R422). -/
def engineReset (s : State) (site : Nat) : State :=
  forAll ((s.tx.map (·.1)).filter fun l => linkSite l == site && decide (l < 272)) s fun s l =>
    let t := getTx s l
    let s := forAll t.queue s fun s q => drainSub s q.pkt.epoch
    putRx (putTx s l { t with queue := [], unacked := [], outCells := 0 }) l { getRx s l with used := 0, freed := 0 }

/-- The sync objects of the sites become 0 with threshold 0. SWAITs elsewhere on them end TARGET_RESETTING; the shadows
that move lists elsewhere hold become 0 and follow every later update (R422). -/
def syncsReset (s : State) (sites : List Nat) : State :=
  let mine := fun (o : Nat) => sites.contains (syncSite o)
  let s := forAll s.cores s fun s e => match e.2.wait with
    | some w => if mine w.obj ∧ !sites.contains (corSite e.1) then closeWait s e.1 .targetResetting else s
    | none => s
  let s := { s with shadowMsgs := s.shadowMsgs.filter fun m => !mine m.2.1 }
  let s := forAll (List.range 16) s fun s x =>
    putShadows s x ((SMap.get s.shadows [] x).map fun h =>
      if mine h.obj then { h with val := 0, before := 0, stamp := 0 } else h)
  forAll s.syncs s fun s e => if mine e.1 then putSync s e.1 { SyncObj.init with subs := e.2.subs } else s

/-- A position is left HALTED by a partition reset; spares and failed positions keep their state (R422, R572). -/
def positionReset (s : State) (c : Nat) : State :=
  let st := coreState s c
  if st = csFailed then modCore s c fun k => { k with resetAt := none, tiles := [], goal := none, asked := false }
  else if st = csSpare then s
  else
    let s := if st = csOff then loseScratch s c else s
    let s := modCore s c fun _ => { Core.init with clock0 := dieClock s (corDie c) }
    setCoreState (setF (setF s COR_CTRL_PWR_REQ c 0 0) COR_STAT_WAKE_PEND c 0 0) c csHalted

/-- Is a governor request one of a position of the die, or of its clusters. -/
def govOfSite (site : Nat) : GovKind → Bool
  | .corePower c => corSite c == site
  | .coreReturn c => corSite c == site
  | .coreRun c => corSite c == site
  | .wake x _ _ cl _ _ => x == site || cluSite cl == site
  | _ => false

/-- A compute die is reset (R422): a pending change of the row map takes effect first, then positions, clusters and
caches. -/
def dieReset (s : State) (site : Nat) : State :=
  let s := govDrop s (govOfSite site)
  let s := forAll (s.substs.filter fun x => corSite x.pos == site) s fun s x =>
    substitute (setCoreState s (rowSpare x.pos) csHalted) x.pos
  let s := forAll (siteClus site) s cluLinesLost
  let s := showClusters { s with cluResets := s.cluResets.filter fun e => cluSite e.1 != site }
  forAll (siteCores site) s positionReset

/-- Tempo 0 of a reset of the sites (R422): headers, sequencers, samplers and rounds, dispatch, parking, items, sync
objects, dies and stacks. The status is what others are answered. -/
def sitesReset (s : State) (sites : List Nat) : State :=
  let s := resetHeaders s (pageOf sites)
  let s := forAll sites s seqReset
  let s := samplersReset s sites .cancelled
  let s := forAll (sites.flatMap siteCores) s fun s c =>
    let w := (getCore s c).wait
    let s := stopCore (modCore s c fun k => { k with wait := none }) c
    modCore s c fun k => { k with wait := w }
  let s := forAll sites s parkSite
  let s := forAll sites s fun s x => absorbSite s x .targetResetting
  let s := syncsReset s sites
  let s := forAll sites s engineReset
  let s := forAll sites s dieReset
  forAll ((List.range 8).filter fun k => sites.contains (stackSite k)) s stackReset

/-! ## Triggers and progress (R418, R422) -/

/-- The sites of a reset in progress: a partition's, or the one of R463. -/
def resetSites (s : State) (k : Nat) : List Nat := if k < 16 then sitesOf s k else [k - 16]

/-- `MGT_RST_STAT` shows the partitions in reset and the partitions held. -/
def showResets (s : State) : State :=
  let of := fun (p : Nat → ResetRec → Bool) => ((s.resets.filter fun e => decide (e.1 < 16) && p e.1 e.2).map (·.1)).foldl setBit 0
  setF (setF s MGT_RST_STAT_ACTIVE 0 0 (of fun p r => r.begun && !(sitesOf s p).isEmpty)) MGT_RST_STAT_HELD 0 0
    (of fun _ r => r.done && r.hold)

def putReset (s : State) (k : Nat) (r : Option ResetRec) : State :=
  showResets { s with resets := match r with
    | some r => SMap.insert s.resets k r
    | none => SMap.erase s.resets k }

/-- A reset's tempo 0, at a boundary. A partition without sites is marked held (R418). -/
def resetBegin (s : State) (k : Nat) : State :=
  match SMap.find s.resets k with
  | none => s
  | some r =>
    if r.begun then s
    else
      let sites := resetSites s k
      let s := putReset s k (some { r with tempo0 := some s.time.tempoNo, done := sites.isEmpty })
      sitesReset s sites

/-- The bring-up that a module or power-on reset runs covers every unit (R418). -/
def widerReset (s : State) : Bool := !bootDone s 5 || s.modRst == 2

/-- A write of `MGT_RST_CTRL` with GO and LEVEL 1 (R418, R422). A TARGET above 7 names no partition and is refused, and a
partition already in reset absorbs the trigger (log entry 54, DEDUCED). -/
def partitionReset (s : State) (p : Nat) (hold scrub : Bool) : State :=
  if 7 < p then raiseFor (setF s MGT_RST_STAT_LAST 0 0 2) cMGT 0 20 .noPart
  else if widerReset s ∨ (SMap.find s.resets p).isSome then setF s MGT_RST_STAT_LAST 0 0 3
  else if (sitesOf s p).isEmpty then
    if hold then putReset s p (some ⟨none, true, scrub, false, false⟩) else setF s MGT_RST_STAT_LAST 0 0 1
  else
    let s := putReset s p (some ⟨none, hold, scrub, false, false⟩)
    if atBoundary s then resetBegin s p else s

/-- The memory of the sites is cleared (R422, SCRUB). -/
def scrubSites (s : State) (sites : List Nat) : State :=
  forAll sites s fun s x =>
    match siteDie x, siteStack x with
    | some d, _ =>
      let s := forAll (siteCores x) s fun s c => forAll (List.range 8) s fun s n => zeroUnit s (scratchUnit c n)
      forAll (List.range 128) s fun s i => zeroUnit s (lossUnit (physCluster (4 * d + i / 32) (i % 32 * 2 ^ 18)))
    | _, some k => zeroUnit s (lossUnit (physStack k 0))
    | _, _ => s

/-- A reset ends (R422): floor circuits resume, cores that were OFF for want of a partition are HALTED, RESET_DONE. -/
def resetLeave (s : State) (k : Nat) : State :=
  let sites := resetSites s k
  let s := putReset s k none
  let s := forAll (sites.flatMap siteCores) s fun s c => if coreState s c = csOff then positionReset s c else s
  let s := forAll (sites.filter fun x => !siteFenced s x && !siteFailed s x && !siteResetting s x) s unparkSite
  raiseFor (setF s MGT_RST_STAT_LAST 0 0 1) cMGT 0 19 .noPart

/-- Does a stack of the sites still run its own sequence. -/
def stacksBusy (s : State) (sites : List Nat) : Bool :=
  (List.range 8).any fun k => sites.contains (stackSite k) && (getStack s k).resetFrom.isSome

/-- PARTITION_RESET_DONE (R418, R422): at a boundary, the steps of the reset of partition `k`, or of site `k` − 16 alone
(R463), are over; without HOLD, or once released, it ends. -/
def execPartitionResetDone (k : Fin 32) (s : State) : Host.Outcome State Fault Refusal :=
  .next (match SMap.find s.resets k with
    | none => s
    | some r =>
      if !atBoundary s then s
      else if r.done then (if r.release then resetLeave s k else s)
      else match r.tempo0 with
        | none => s
        | some t =>
          let sites := resetSites s k
          if s.time.tempoNo ≤ t ∨ stacksBusy s sites then s
          else
            let s := if r.scrub then scrubSites s sites else s
            if r.hold ∧ !r.release then putReset s k (some { r with done := true }) else resetLeave s k)

/-- A write of `MGT_RST_CTRL.RELEASE` (R418): a held partition leaves reset at the next boundary; for one that is not held
it has no effect (log entry 54, DEDUCED), nor after a module emergency stop (R462). -/
def releaseHold (s : State) (p : Nat) : State :=
  match SMap.find s.resets p with
  | some r => if r.done ∧ p < 8 ∧ s.therm.estop.isNone then putReset s p (some { r with release := true }) else s
  | none => s

/-! ## The partition map (R424, R425) -/

/-- Does every assignment that a new map changes pass between held partitions; unassigned counts as held. -/
def mapOk (s : State) (old new : Nat) : Bool :=
  let held := fun (n : Nat) => n < 8 || (match SMap.find s.resets (n % 8) with
    | some r => r.done && r.hold && !r.release
    | none => false)
  (List.range 16).all fun x =>
    let a := bitsOf old (4 * x + 3) (4 * x)
    let b := bitsOf new (4 * x + 3) (4 * x)
    a == b || (a < 8 && b < 8) || (held a && held b)

/-- A write of `MGT_PART_MAP` (R425). -/
def partMapWrite (s : State) (new : Nat) : State :=
  if mapOk s (s.mapNext.getD (getF s MGT_PART_MAP 0 0)) new then { s with mapNext := some new }
  else raiseFor s cMGT 0 23 .noPart

/-- A site that no partition holds any more is parked, and its cores are OFF (R424). -/
def siteUnassigned (s : State) (site : Nat) : State :=
  forAll (siteCores site) (parkSite s site) fun s c =>
    let st := coreState s c
    if st = csFailed ∨ st = csSpare ∨ st = csOff then s else setCoreState (scrambleCore (loseScratch s c) c) c csOff

/-- PART_MAP_APPLY (R425): at a boundary, the sites pass to their new partitions. -/
def execPartMapApply (s : State) : Host.Outcome State Fault Refusal :=
  .next (match s.mapNext with
    | none => s
    | some new =>
      if !atBoundary s then s
      else
        let old := getF s MGT_PART_MAP 0 0
        let s := showResets (setF { s with mapNext := none } MGT_PART_MAP 0 0 new)
        forAll (List.range 16) s fun s x => if hasBit old (4 * x + 3) && !hasBit new (4 * x + 3) then siteUnassigned s x else s)

/-! ## Capacity (R44 to R46) -/

/-- The clusters of the dies in service: a die whose rail has failed is out of service (R152, R416). -/
def cluServing (s : State) : List Nat := (List.range 32).filter fun cl => !siteFailed s (cluSite cl)

/-- Spare positions not yet used. -/
def spareCount (s : State) : Nat :=
  ((cluServing s).map fun cl => ((List.range 4).filter fun r =>
    getF s CLU_ROW_MAP_SPARE_FOR cl r == 15 && getF s CLU_ROW_MAP_SPARE_OK cl r == 1).length).sum

/-- Logical cores in service. -/
def coreCount (s : State) : Nat :=
  ((cluServing s).map fun cl => ((List.range 4).map fun r =>
    9 - popCount 9 (getF s CLU_ROW_MAP_ABSENT cl r)).sum).sum

/-- Circuits in service on lane `n`, grantable and reserve: wavelengths neither lost nor on a lane out of service; a
reserve wavelength that serves for another counts with the grantable ones. -/
def laneCircs (s : State) (n : Nat) : Nat × Nat :=
  let up := fun (l : Nat) => occState s n l != ocOut && !hasBit (getF s LAN_LOST n 0) l
  let sub := fun (f : Field) => getF s f n 0 != 63
  let g := ((List.range 62).filter up).length
  let r := [(62, LAN_SUBST_FOR62), (63, LAN_SUBST_FOR63)].filter fun x => up x.1
  (g + (r.filter fun x => sub x.2).length, (r.filter fun x => !sub x.2).length)

/-- The summary of every site (R45). -/
def siteSum (s : State) : Nat := (List.range 16).foldl (fun a x => a + sumCode s x * 4 ^ x) 0

/-- CAPACITY_PUBLISH (R44 to R46, R499): at a boundary, what has changed is published together, once. -/
def execCapacityPublish (s : State) : Host.Outcome State Fault Refusal :=
  let old := [getF s DEV_CAP_CORES_SPARES 0 0, getF s DEV_CAP_CORES_CORES 0 0, getF s DEV_CAP_MEM 0 0,
    getF s DEV_CAP_CIRC_RESERVE 0 0, getF s DEV_CAP_CIRC_GRANTABLE 0 0]
  let lanes := (List.range 64).map (laneCircs s)
  let new := (if bootDone s 5 then [spareCount s, coreCount s] else [0, 0]) ++
    [if bootDone s 3 then ((List.range 8).map fun k => getF s MST_CAP_MIB k 0).sum else 0] ++
    (if bootDone s 4 then [(lanes.map (·.2)).sum, (lanes.map (·.1)).sum] else [0, 0])
  let sum := siteSum s
  .next (if !atBoundary s ∨ s.capAt = s.time.tempoNo + 1 then s
    else
      let s := { s with capAt := s.time.tempoNo + 1 }
      let oldSum := getF s DEV_SITE_SUM 0 0
      let s := setF (setF s DEV_CAP_CORES_SPARES 0 0 (new.getD 0 0)) DEV_CAP_CORES_CORES 0 0 (new.getD 1 0)
      let s := setF (setF s DEV_CAP_MEM 0 0 (new.getD 2 0)) DEV_CAP_CIRC_RESERVE 0 0 (new.getD 3 0)
      let s := setF (setF s DEV_CAP_CIRC_GRANTABLE 0 0 (new.getD 4 0)) DEV_SITE_SUM 0 0 sum
      let s := if old = new then s
        else raiseFor (raise (wrapF s DEV_CAP_GEN 0 0 1) cDEV 0 0) cSEC 0 5 .noPart
      if oldSum = sum then s else raise s cDEV 0 1)

/-! ## Rails (R416) -/

/-- SITE_RAIL_FAILURE (R416): every item on the site is absorbed; the site is FAILED and parked. -/
def execSiteRailFailure (site : Fin 16) (s : State) : Host.Outcome State Fault Refusal :=
  .next (if siteFailed s site then s
    else
      let s := { s with railDown := setBit s.railDown site }
      let s := seqReset s site
      let s := samplersReset s [site.val] .uncorrectable
      let s := forAll (siteCores site) s stopCore
      let s := absorbSite s site .uncorrectable
      let s := engineReset (forAll (siteClus site) s cluLinesLost) site
      let s := match siteStack site with
        | some k => stackFail s k
        | none => s
      parkSite s site)


end Sys2Proof.Machine
end

