-- ==== Sys2Proof/Machine/Twins.lean ====
section
/-! DEFINITION. Machine/Twins.lean: images and their checks (R487 to R490), the Arbiter, castling, resynchronisation,
management restart and live update (R430 to R448). -/

namespace Sys2Proof.Machine

/-! ## Images (R488 to R490) -/

/-- `n` bytes of a header, lowest first, as a number. -/
def Img.word (m : Img) (o n : Nat) : Nat := ofBytesLE ((m.header.drop o).take n)
def Img.svn (m : Img) : Nat := m.word 8 4
def Img.bytes (m : Img) (o n : Nat) : List Byte := (m.header.drop o).take n

/-- A digest of 32 bytes as `Config.sha256` numbers it. -/
def digestOf (bs : List Byte) : Nat := bs.foldl (fun a b => a * 256 + b.toNat) 0

/-- The fused hash of key `k` (log entry 10, DESIGN CHOICE). -/
def keyHash (k : Nat) : Nat := Config.fusedValue (2 ^ 81 + k) % 2 ^ 256

/-- The result code of an image under R489: 1 VALID, or the first check that fails. -/
def imgCheck (s : State) (m : Img) : Nat :=
  let k := m.word 16 4
  if m.word 0 4 ≠ 0x4D584331 ∨ m.word 4 4 ≠ 1 ∨ m.word 192 3904 ≠ 0 ∨ m.header.length ≠ 4096 ∨ m.word 12 4 = 0 ∨
      8384512 < m.word 12 4 then 2
  else if 7 < k ∨ !hasBit (getF s SEC_PROV_KEY_VALID 0 0) k ∨ hasBit (getF s SEC_PROV_KEY_REVOKED 0 0) k ∨
      Config.sha256 (m.bytes 64 64) ≠ keyHash k then 3
  else if m.svn < getF s SEC_SVN_FLOOR 0 0 then 4
  else if !Config.ecdsaVerify (m.bytes 64 64) (Config.sha256 (m.bytes 0 128)) (m.bytes 128 64) then 5
  else if Config.sha256 (m.body.take (m.word 12 4)) ≠ digestOf (m.bytes 32 32) then 6
  else 1

def imgAt (s : State) (slot : Nat) : Option Img := if slot = 0 then s.image0 else s.image1
def putImg (s : State) (slot : Nat) (m : Option Img) : State :=
  if slot = 0 then { s with image0 := m } else { s with image1 := m }
def imgRes (slot : Nat) : Field := if slot = 0 then SEC_IMG_STAT_RES0 else SEC_IMG_STAT_RES1

/-- The check of a slot, whose read succeeds or fails: 7 a read error, 8 no image. -/
def slotCheck (s : State) (slot : Nat) (readOk : Bool) : Nat :=
  match imgAt s slot with
  | none => 8
  | some m => if readOk then imgCheck s m else 7

/-- A measurement changes (R499). -/
def measChanged (s : State) : State := raiseFor s cSEC 0 5 .noPart

/-- A slot is in force, with its SVN in `SEC_SVN.RUNNING`. -/
def bootSlot (s : State) (slot : Nat) : State :=
  let v := match imgAt s slot with
    | some m => m.svn
    | none => 0
  let old := (getF s SEC_IMG_STAT_IN_FORCE 0 0, getF s SEC_SVN_RUNNING 0 0)
  let s := setF (setF s SEC_IMG_STAT_IN_FORCE 0 0 slot) SEC_SVN_RUNNING 0 0 v
  if old = (slot, v % 65536) then s else measChanged s

/-- The boot ROM checks the slot in force and then the other one, and boots the first that is valid (R490). None when
neither is. -/
def bootImage (s : State) (r0 r1 : Bool) : State × Bool :=
  let a := getF s SEC_IMG_STAT_IN_FORCE 0 0
  let rd := fun (n : Nat) => if n = 0 then r0 else r1
  let ca := slotCheck s a (rd a)
  let s := setF s (imgRes a) 0 0 ca
  if ca = 1 then (bootSlot s a, true)
  else
    let b := 1 - a
    let cb := slotCheck s b (rd b)
    let s := setF s (imgRes b) 0 0 cb
    if cb = 1 then (bootSlot s b, true) else (s, false)

/-! ## Pairs (R430, R435 to R442) -/

/-- The codes of `ARB_PAIR_STATn.STATE`. -/
abbrev twPaired : Nat := 0
abbrev twResync : Nat := 1
abbrev twSolo : Nat := 2
abbrev twUpdating : Nat := 3
abbrev twRestart : Nat := 4
abbrev twOff : Nat := 5
abbrev twFailed : Nat := 6

def pairSt (s : State) (n : Nat) : Nat := getF s ARB_PAIR_STAT_STATE 0 n
def setPair (s : State) (n st : Nat) : State := setF s ARB_PAIR_STAT_STATE 0 n st
def pairActive (s : State) (n : Nat) : Nat := getF s ARB_PAIR_STAT_ACTIVE 0 n
def getTwin (s : State) (n : Nat) : TwinSt := SMap.get s.twins ⟨0, 0⟩ n
def putTwin (s : State) (n : Nat) (t : TwinSt) : State := { s with twins := SMap.set s.twins ⟨0, 0⟩ n t }

/-- An event of the Arbiter, with the one of the `MGT` page that goes with it for the management pair (R448). -/
def arbEvent (s : State) (n bit mgt : Nat) : State :=
  let s := raiseFor s cARB 0 bit .noPart
  if n = 0 then raiseFor s cMGT 0 mgt .noPart else s

/-- A twin is blamed. -/
def twinFailed (s : State) (n : Nat) : State := arbEvent s n 2 1

/-- The standby is to be resynchronised (R440). -/
def resync (s : State) (n : Nat) : State := setPair s n twResync

/-- The pair is PAIRED. -/
def paired (s : State) (n : Nat) : State :=
  putTwin (setPair s n twPaired) n { getTwin s n with pairedAt := s.time.tempoNo }

/-- The standby is retired (R441). -/
def retireTwin (s : State) (n : Nat) : State :=
  let s := setF s (if pairActive s n = 0 then ARB_PAIR_STAT_B_OK else ARB_PAIR_STAT_A_OK) 0 n 0
  arbEvent (setPair s n twSolo) n 4 3

/-- A resynchronisation starts again, or its twin is retired (R441). -/
def resyncAgain (s : State) (n : Nat) : State :=
  let a := satAdd 8 (getF s ARB_PAIR_STAT_ATTEMPTS 0 n) 1
  let s := setF s ARB_PAIR_STAT_ATTEMPTS 0 n a
  if getF s ARB_CFG_RESYNC_MAX 0 0 < a then retireTwin s n else s

/-- An update ends without its castling (R444). -/
def updAbort (s : State) (reason : Nat) : State :=
  match s.update with
  | none => s
  | some u =>
    let s := setF (setF { s with update := none } ARB_UPD_STAT_PHASE 0 0 7) ARB_UPD_STAT_REASON 0 0 reason
    arbEvent (setF s ARB_UPD_CTRL_READY 0 0 0) u.pair 7 6

/-- Is an update of the pair before its castling. -/
def updating (s : State) (n : Nat) : Bool := pairSt s n == twUpdating && s.update.any fun u => u.pair == n

/-- A management restart of a pair (R442); one that was UPDATING aborts its update (R444). -/
def restartPair (s : State) (n : Nat) : State :=
  let st := pairSt s n
  if twRestart ≤ st then s
  else
    let s := if updating s n then updAbort s 5 else s
    arbEvent (setPair s n twRestart) n 5 4

/-- The twins of a pair swap (R438): the cause, and a gap of at most 48 management clocks, which the manual leaves open. -/
def castle (s : State) (n cause : Nat) : State :=
  let d := draw s
  let a := pairActive d.2 n
  let s := setF (bumpF d.2 ARB_CASTLE_CNT 0 n 1) ARB_PAIR_STAT_ACTIVE 0 n (1 - a)
  let s := setF (setF (setF s ARB_LAST_CAUSE 0 0 cause) ARB_LAST_PAIR 0 0 n) ARB_LAST_FROM 0 0 a
  let s := setF (setF s ARB_LAST_GAP 0 0 (d.1 % 49)) ARB_LAST_TEMPO 0 0 s.time.count
  let s := raiseFor s cARB 0 n .noPart
  resync (if n = 0 then raiseFor s cMGT 0 0 .noPart else s) n

/-- The update castles to its slot (R443): the slot is in force, and the old active twin boots from it. -/
def updCastle (s : State) (u : UpdRec) : State :=
  bootSlot (setF (castle s u.pair 6) ARB_UPD_STAT_PHASE 0 0 5) u.slot

/-- FORCE on a pair (R435, R436). -/
def forcePair (s : State) (n cause : Nat) : State :=
  if pairSt s n = twPaired then castle s n cause else raiseFor s cARB 0 10 .noPart

/-- The Arbiter decides on the reports that came within 24 management clocks: a MISMATCH, and the report that names each
twin, 0 none, 1 SELF_CHECK, 2 CLOCK, 3 SUPPLY (R434 to R436, R444). -/
def arbDecide (s : State) (n : Nat) (mismatch : Bool) (a b : Nat) : State :=
  let act := if pairActive s n = 0 then a else b
  let sby := if pairActive s n = 0 then b else a
  let st := pairSt s n
  if twRestart ≤ st then s
  else
    let s := if act ≠ 0 ∨ (sby ≠ 0 ∧ st ≠ twSolo) then twinFailed s n else s
    if st = twPaired then
      (if act ≠ 0 ∧ sby ≠ 0 then restartPair s n
      else if act ≠ 0 then castle s n act
      else if sby ≠ 0 then resync s n
      else if mismatch then resync (raiseFor (bumpF s ARB_DIVERGE 0 0 1) cARB 0 8 .noPart) n
      else s)
    else if st = twUpdating then
      match s.update with
      | none => s
      | some u =>
        if act ≠ 0 ∧ sby = 0 ∧ getF s ARB_UPD_STAT_PHASE 0 0 = 3 then updCastle s u
        else if act ≠ 0 then restartPair s n
        else if sby ≠ 0 then resync (updAbort s 6) n
        else s
    else if act ≠ 0 then restartPair s n
    else if sby ≠ 0 ∧ st = twResync then resyncAgain s n
    else s

/-- ARBITER_REPORT (R434 to R436). -/
def execArbiterReport (n : Fin 2) (mismatch : Bool) (a b : Fin 4) (s : State) : Host.Outcome State Fault Refusal :=
  .next (arbDecide s n mismatch a b)

/-! ## Heartbeats (R434) -/

def heartbeat (s : State) (n : Nat) : State := putTwin s n { getTwin s n with beat := s.time.tempoNo }

/-- HEARTBEAT_WRITE (R434): the pair named writes its bit of `ARB_HB`. -/
def execHeartbeatWrite (n : Fin 2) (s : State) : Host.Outcome State Fault Refusal := .next (heartbeat s n)

/-- HEARTBEAT_TIMEOUT (R434 to R436): the period, in µs, has passed without a write. -/
def execHeartbeatTimeout (n : Fin 2) (s : State) : Host.Outcome State Fault Refusal :=
  .next (if (getTwin s n).beat + getF s ARB_HB_PERIOD 0 0 ≤ s.time.tempoNo then restartPair s n else s)

/-! ## The pin and `ARB_CTRL` (R437, R445) -/

/-- Does the Arbiter time `ARB_FORCE_N` (R560): only once step 1 of bring-up has completed. -/
def pinTimed (s : State) : Bool := hasBit (getF s MGT_BOOT_STAT_DONE 0 0) 0

/-- FORCE_PIN (R437, R560): the rising edge of `ARB_FORCE_N` after a low pulse that the Arbiter has timed for `ns`
nanoseconds; a level present when step 1 of bring-up completes is timed from that moment. -/
def execForcePin (ns : Nat) (s : State) : Host.Outcome State Fault Refusal :=
  let s := setF s ARB_FORCE_STAT_PIN 0 0 1
  let en := getF s ARB_CFG_FORCE_EN 0 0 == 1
  .next (if !pinTimed s ∨ ns < 1000 ∨ 100000000 ≤ ns then s
    else if 10000000 < ns then
      let s := bumpF s ARB_FORCE_STAT_IGNORED 0 0 1
      if en then raiseFor s cARB 0 10 .noPart else s
    else
      let s := bumpF s ARB_FORCE_STAT_PULSES 0 0 1
      if en then forcePair (forcePair (raiseFor s cARB 0 9 .noPart) 0 4) 1 4 else s)

/-- FORCE_PIN_RESTART (R437, R560): the pin has been low for 100 ms. -/
def execForcePinRestart (s : State) : Host.Outcome State Fault Refusal :=
  let p := setF s ARB_FORCE_STAT_PIN 0 0 0
  let s := bumpF p ARB_FORCE_STAT_PULSES 0 0 1
  .next (if !pinTimed p then p else if getF s ARB_CFG_FORCE_EN 0 0 = 1 then restartPair (restartPair (raiseFor s cARB 0 9 .noPart) 0) 1 else s)

/-- A write of `ARB_CTRL` that has stored PAIR: RESTART, CASTLE. -/
def arbCtrl (s : State) (v : Nat) : State :=
  let n := getF s ARB_CTRL_PAIR 0 0
  let s := if hasBit v 1 then restartPair s n else s
  if hasBit v 0 then forcePair s n 5 else s

/-! ## Resynchronisation and restart (R440 to R442) -/

/-- RESYNC_DONE (R440, R443): the twins are in lockstep; an update that had castled is DONE. -/
def resyncDone (s : State) (n : Nat) : State :=
  let s := arbEvent (paired s n) n 3 2
  match s.update with
  | some u =>
    if u.pair = n ∧ getF s ARB_UPD_STAT_PHASE 0 0 = 5 then
      let s := setF (setF { s with update := none } ARB_UPD_STAT_PHASE 0 0 6) ARB_UPD_CTRL_READY 0 0 0
      arbEvent s n 6 5
    else s
  | none => s

def execResyncDone (n : Fin 2) (s : State) : Host.Outcome State Fault Refusal :=
  .next (if pairSt s n = twResync then resyncDone s n else s)

/-- RESYNC_ATTEMPT_FAIL (R441): the twin fails its self-test. -/
def execResyncAttemptFail (n : Fin 2) (s : State) : Host.Outcome State Fault Refusal :=
  .next (if pairSt s n = twResync then resyncAgain (twinFailed s n) n else s)

/-- A day in tempos. -/
abbrev dayTempos : Nat := 86400000000

/-- ATTEMPTS_RESET (R441). -/
def execAttemptsReset (n : Fin 2) (s : State) : Host.Outcome State Fault Refusal :=
  .next (if pairSt s n = twPaired ∧ (getTwin s n).pairedAt + dayTempos ≤ s.time.tempoNo then
      setF s ARB_PAIR_STAT_ATTEMPTS 0 n 0
    else s)

/-- MANAGEMENT_RESTART (R442). -/
def execManagementRestart (n : Fin 2) (s : State) : Host.Outcome State Fault Refusal := .next (restartPair s n)

/-- The pair enters lockstep after a boot, or runs SOLO on the twin that is left (R442). -/
def enterLockstep (s : State) (n : Nat) : State :=
  let s := heartbeat s n
  if getF s ARB_PAIR_STAT_A_OK 0 n = 1 ∧ getF s ARB_PAIR_STAT_B_OK 0 n = 1 then paired s n else setPair s n twSolo

/-- RESTART_DONE (R442, R490): the pair boots the image in force, or the other slot's; with no twin able to boot it stays
FAILED. `r0` and `r1` say whether each slot can be read. -/
def execRestartDone (n : Fin 2) (able r0 r1 : Bool) (s : State) : Host.Outcome State Fault Refusal :=
  .next (if pairSt s n ≠ twRestart then s
    else match bootImage s r0 r1 with
      | (s, false) => setPair s n twFailed
      | (s, true) =>
        if !able then setPair s n twFailed
        else
          let s := enterLockstep s n
          match s.update with
          | some u =>
            if u.pair = n.val ∧ getF s ARB_UPD_STAT_PHASE 0 0 = 5 ∧ pairSt s n = twPaired then
              arbEvent (setF (setF { s with update := none } ARB_UPD_STAT_PHASE 0 0 6) ARB_UPD_CTRL_READY 0 0 0) n 6 5
            else s
          | none => s)

/-! ## Live update (R443, R444) -/

/-- A write of `ARB_UPD_CTRL.START` (R443): refused with REASON 7, or the standby leaves lockstep and boots from SLOT. -/
def updStart (s : State) : State :=
  let n := getF s ARB_UPD_CTRL_PAIR 0 0
  let slot := getF s ARB_UPD_CTRL_SLOT 0 0
  if s.update.isSome ∨ pairSt s n ≠ twPaired ∨ getF s (imgRes slot) 0 0 ≠ 1 ∨
      -1000000 < toSigned 64 ((s.time.count + 2 ^ 64 - getF s ARB_UPD_AT 0 0) % 2 ^ 64) then
    arbEvent (setF s ARB_UPD_STAT_REASON 0 0 7) n 7 6
  else
    let s := { s with update := some ⟨n, slot, s.time.tempoNo⟩ }
    let s := setF (setF s ARB_UPD_STAT_PHASE 0 0 1) ARB_UPD_STAT_REASON 0 0 0
    setPair (setF s ARB_UPD_CTRL_READY 0 0 0) n twUpdating

/-- The update is given up before its castling, and the standby is resynchronised (R444). -/
def updGiveUp (s : State) (reason : Nat) : State :=
  match s.update with
  | none => s
  | some u => if pairSt s u.pair = twUpdating then resync (updAbort s reason) u.pair else s

/-- A write of `ARB_UPD_CTRL` that has stored PAIR and SLOT: ABORT, START. -/
def updCtrl (s : State) (v : Nat) : State :=
  let s := if hasBit v 1 then updGiveUp s 1 else s
  if hasBit v 0 then updStart s else s

/-- At a boundary the standby of an update that is LOADING may have booted and begin to replay the journal: the manual gives the
boot no time, so a free value says when (R443, R445; log entry 140, DESIGN CHOICE). -/
def updBoundary (s : State) : State :=
  if s.update.isNone ∨ getF s ARB_UPD_STAT_PHASE 0 0 ≠ 1 then s
  else
    let d := draw s
    if d.1 % 2 = 1 then setF d.2 ARB_UPD_STAT_PHASE 0 0 2 else d.2

/-- UPDATE_READY (R443): the standby's write of READY, from LOADING or REPLAY. -/
def execUpdateReady (s : State) : Host.Outcome State Fault Refusal :=
  let p := getF s ARB_UPD_STAT_PHASE 0 0
  .next (if s.update.isSome ∧ (p = 1 ∨ p = 2) then setF (setF s ARB_UPD_CTRL_READY 0 0 1) ARB_UPD_STAT_PHASE 0 0 3 else s)

/-- UPDATE_CASTLE (R443, R444): the boundary `ARB_UPD_AT`. -/
def execUpdateCastle (s : State) : Host.Outcome State Fault Refusal :=
  .next (match s.update with
    | none => s
    | some u =>
      if !atBoundary s ∨ pairSt s u.pair ≠ twUpdating ∨ beatsSince s (getF s ARB_UPD_AT 0 0) < 0 then s
      else if getF s ARB_UPD_STAT_PHASE 0 0 = 3 then updCastle s u else updGiveUp s 2)

/-- UPDATE_TIMEOUT (R444). -/
def execUpdateTimeout (s : State) : Host.Outcome State Fault Refusal :=
  .next (match s.update with
    | none => s
    | some u => if u.start + 1000 * getF s ARB_UPD_TMO 0 0 ≤ s.time.tempoNo then updGiveUp s 3 else s)

/-- JOURNAL_OVERFLOW (R444). -/
def execJournalOverflow (s : State) : Host.Outcome State Fault Refusal := .next (updGiveUp s 4)

end Sys2Proof.Machine
end

