-- ==== Sys2Proof/Machine/Boot.lean ====
section
/-! DEFINITION. Machine/Boot.lean: power-on reset, the steps of bring-up, fuse records and their replay, and the module
reset (R400 to R411, R423, R503, R523). -/

namespace Sys2Proof.Machine

/-! ## Fuse entries (R407 to R410) -/

/-- Is an entry one that a unit applies: programmed, with a good CHECK and a defined KIND. -/
def entryGood (e : Nat) : Bool := fuseKind (e % 32) && fuseCheck (e % 2 ^ 56) == e / 2 ^ 56

/-- Is an entry skipped under R409. -/
def entrySkipped (e : Nat) : Bool := e != 0 && (fuseCheck (e % 2 ^ 56) != e / 2 ^ 56 || (e % 32 != 0 && !fuseKind (e % 32)))

/-- The entries that the units apply, in order, each once: an entry that repeats a repair changes nothing (R409). Those
not yet blown and those that could not be recorded count until the next power-on reset (R411). -/
def replayEntries (s : State) : List Nat :=
  ((s.fuseFactory ++ s.fuseBank ++ s.fuseQueue ++ s.unsaved).filter entryGood).eraseDups

/-- A write of `FUS_CTRL.ADD` (R410). -/
def fuseAdd (s : State) : State :=
  let v := getF s FUS_ADD 0 0 % 2 ^ 56
  let full := decide (fuseMax ≤ s.fuseBank.length + s.fuseQueue.length)
  if full ∨ !fuseKind (v % 32) ∨ bitsOf v 7 5 ≠ 0 ∨ bitsOf v 55 44 ≠ 0 then raiseFor s cFUS 0 3 .noPart
  else fuseQueueAdd s (v + fuseCheck v * 2 ^ 56)

/-- FUSE_BLOW_DONE (R410): the entry at the head of the queue is in the field bank, and the next one starts. -/
def execFuseBlowDone (s : State) : Host.Outcome State Fault Refusal :=
  .next (match s.fuseQueue with
    | [] => s
    | e :: rest =>
      let s := { s with fuseBank := s.fuseBank ++ [e], fuseQueue := rest }
      let s := setF s FUS_STAT_FIELD_USED 0 0 s.fuseBank.length
      raiseFor (setF s FUS_STAT_BUSY 0 0 (if rest = [] then 0 else 1)) cFUS 0 0 .noPart)

/-! ## Repairs at bring-up (R401, R409, R412) -/

/-- A position fails a test at bring-up (R412, R414, R415): its row's spare takes the column, or it is absent. -/
def bootCoreFail (s : State) (c : Nat) : State :=
  if coreState s c = csFailed then s
  else
    let p := rowOf c
    let lid := lidOfCor s c
    let s := fuseRepair (setCoreState s c csFailed) 1 (corSite c) (fuseCorLoc c)
    match lid with
    | none => if c % 10 = 9 then setF s CLU_ROW_MAP_SPARE_OK p.1 p.2 0 else s
    | some l =>
      if c % 10 ≠ 9 ∧ getF s CLU_ROW_MAP_SPARE_FOR p.1 p.2 = 15 ∧ getF s CLU_ROW_MAP_SPARE_OK p.1 p.2 = 1 then
        let s := bumpF (setF s CLU_ROW_MAP_SPARE_FOR p.1 p.2 (c % 10)) MGT_REPAIR_CNT_SUBST 0 0 1
        raiseFor (raise (raise s cCLU p.1 0) cCDI (corDie c) 5) cMGT 0 21 .noPart
      else coreAbsent s c l

/-- The position that a fuse location names (R408). -/
def fuseCor (d loc : Nat) : Nat := 160 * d + 40 * bitsOf loc 7 6 + 10 * bitsOf loc 5 4 + bitsOf loc 3 0

/-- The unit of an entry fails, or has failed before, on a compute die. -/
def applyDie (s : State) (kind site loc : Nat) : State :=
  match siteDie site with
  | none => s
  | some d =>
    let c := fuseCor d loc
    if kind = 4 then
      let f := dieLinkField (loc % 4)
      let n := bitsOf loc 6 2
      if loc % 4 = 3 ∨ hasBit (getF s f d 0) n then s
      else fuseRepair (raise (setF s f d 0 (setBit (getF s f d 0) n)) cCDI d 3) 4 site loc
    else if kind = 3 ∧ hasBit loc 8 then
      sramRepair s (physCluster (4 * d + bitsOf loc 7 6) (bitsOf loc 13 9 * 2 ^ 18 + bitsOf loc 23 14 * 256))
    else if 10 ≤ loc % 16 then s
    else if kind = 1 then bootCoreFail s c
    else if kind = 2 then
      let e := bitsOf loc 9 8
      let used := getF s COR_ENG_STAT_ROWSPARE c 0
      if hasBit used e then
        bootCoreFail (raise (setF s COR_ENG_STAT_FAILED c 0 (setBit (getF s COR_ENG_STAT_FAILED c 0) e)) cCOR c 5) c
      else fuseRepair (raise (setF s COR_ENG_STAT_ROWSPARE c 0 (setBit used e)) cCOR c 4) 2 site loc
    else if SMap.get s.sramSpares 0 (Bank.key ⟨false, c, bitsOf loc 11 9⟩) < 8 then
      sramRepair s (physScratch c (bitsOf loc 11 9 * 2 ^ 17 + bitsOf loc 22 14 * 256))
    else fuseRepair s 1 site (fuseCorLoc c)

/-- The same for a memory stack. -/
def applyStack (s : State) (kind site loc : Nat) : State :=
  match siteStack site with
  | none => s
  | some k =>
    let ch := 128 * k + bitsOf loc 6 0
    let b := bitsOf loc 12 7
    let at_ : DramLoc := ⟨ch, b / 4, b % 4, bitsOf loc 25 13⟩
    if kind = 8 then (if b < 52 ∧ at_.row < bankRows then rowRepair s k at_ else s)
    else if kind = 9 then (if b < 52 then bankOut s k at_ else s)
    else if kind = 0xA then (if loc % 16 < 13 then layerFail s k (loc % 16) else s)
    else if bitsOf loc 11 7 < 20 then viaFail s ch (bitsOf loc 11 7)
    else s

/-- The same for the Canvas, the ports and the seam. -/
def applyOptics (s : State) (kind site loc : Nat) : State :=
  if kind = 0x10 then ringFail s (loc % 2) site (bitsOf loc 8 1)
  else if kind = 0x11 then laneOut (fuseRepair s 0x11 0 (loc % 64)) (loc % 64)
  else if kind = 0x12 then (if loc % 8 < 6 then lineFail s (loc % 8) (bitsOf loc 8 3) else s)
  else if kind = 0x13 then
    (if loc % 8 < 6 then fuseRepair (raise (setF s LSR_STAT_STATE (loc % 8) 0 4) cLSR (loc % 8) 0) 0x13 0 (loc % 8) else s)
  else if kind = 0x14 then
    let w := bitsOf loc 5 1
    let s := if loc % 2 = 1 ∧ w < 18 then setF s VLK_LFAIL site 0 (setBit (getF s VLK_LFAIL site 0) w) else s
    fuseRepair s 0x14 site loc
  else wireFail s (loc % 2048)

/-- The unit that an entry names fails, and is repaired from its spares as in service, with an entry in the field bank
(R401). -/
def applyEntry (s : State) (e : Nat) : State :=
  let kind := e % 32
  let site := bitsOf e 11 8
  let loc := bitsOf e 43 12
  if kind ≤ 4 then applyDie s kind site loc
  else if kind ≤ 0xB then applyStack s kind site loc
  else applyOptics s kind site loc

/-- The registers that a replay leaves as they were: headers, the error log, the fuses, and the counts of repairs made in
service. -/
def replayKeeps (k : Nat) : Bool :=
  let c := k / 2 ^ 28
  let o := k / 32 % 4096
  headerOff o || c == cERR || c == cFUS || c == cHST ||
    (c == cMGT && (o == 0x238 || (o == 0x240 && k % 32 == 16)))

/-- A replay of repairs already recorded: maps change, and nothing is reported, signalled or recorded again (R409). -/
def quiet (s : State) (f : State → State) : State :=
  let t := f s
  { t with
    regs := (s.regs.filter fun e => replayKeeps e.1).foldl (fun m e => SMap.insert m e.1 e.2)
      (t.regs.filter fun e => !replayKeeps e.1)
    raised := s.raised
    log := s.log
    msix := s.msix
    fuseQueue := s.fuseQueue
    unsaved := s.unsaved
    out := s.out }

/-- Entries of some kinds are applied again. -/
def replay (s : State) (kinds : List Nat) : State :=
  let es := (replayEntries s).filter fun e => kinds.contains (e % 32)
  quiet s fun s => forAll es s applyEntry

/-- What the tests of a step find is repaired. -/
def repairFound (s : State) (kinds : List Nat) (found : List Nat) : State :=
  forAll (found.filter fun e => kinds.contains (e % 32)) s applyEntry

/-! ## Cold and warm (R405, R406) -/

/-- The age of a test record in tempos. -/
def recordAge (s : State) (r : TestRec) : Nat := r.age + (s.time.tempoNo - r.at_)

/-- The first condition of R405 that fails; 0 when the start is warm. -/
def warmDeny (s : State) : Nat :=
  if getF s MGT_BOOT_CTRL_WARM_EN 0 0 = 0 ∨ getF s MGT_BOOT_CTRL_FORCE_COLD 0 0 = 1 then 1
  else match s.testRec with
    | none => 2
    | some r =>
      if r.serial ≠ getF s DEV_SERIAL 0 0 then 2
      else if r.crc ≠ getF s FUS_MAP_CRC 0 0 then 3
      else if !r.complete then 4
      else if getF s MGT_BOOT_CTRL_MAX_AGE 0 0 * dayTempos < recordAge s r then 5
      else if !r.clean then 6
      else 0

/-- The start of a bring-up unmarks the record (R405): one that power fails in before step 1 completes has unmarked it too. -/
def unmark (s : State) : State := { s with testRec := s.testRec.map fun r => { r with clean := false } }

/-- The kind of this bring-up, and the record unmarked (R405). -/
def bootKind (s : State) : State :=
  let d := warmDeny s
  let s := setF (setF s MGT_BOOT_STAT_WARM_DENY 0 0 d) MGT_BOOT_STAT_KIND 0 0 (if d = 0 then 2 else 1)
  unmark s

/-- The record marked clean, at an orderly power-down or at tempo N of a module reset (R405). -/
def markClean (s : State) : State := { s with testRec := s.testRec.map fun r => { r with clean := true } }

/-! ## Power-on reset (R400, R410, R417) -/

/-- An entry that power failed on while it was blown: its CHECK fails (R411). -/
def halfBlown (s : State) : Nat × State :=
  let a := draw s
  let b := draw a.2
  let v := a.1 % 2 ^ 56
  (v + (fuseCheck v + 1 + b.1 % 255) % 256 * 2 ^ 56, b.2)

/-- What power-on reset keeps: fuses and the fused floor of `SEC_SVN`, the flash store with the test record and its age,
and what is outside. -/
def powerOn (s : State) (days : Nat) (orderly : Bool) : State :=
  let s := if orderly then markClean s else if bootDone s 1 then s else unmark s
  let h := halfBlown s
  let bank := match s.fuseQueue with
    | [] => s.fuseBank
    | _ :: _ => s.fuseBank ++ [h.1]
  let s := if s.fuseQueue = [] then s else h.2
  let n := draw s
  let t : State := { State.reset with
    fuseFactory := s.fuseFactory
    fuseBank := bank
    image0 := s.image0
    image1 := s.image1
    testRec := s.testRec.map fun r => { r with age := recordAge s r + days * dayTempos, at_ := 0 }
    errSaved := s.errSaved
    draws := n.2.draws
    out := s.out
    pending := s.pending }
  let t := setF (setF t SEC_SVN_FLOOR 0 0 (getF s SEC_SVN_FLOOR 0 0)) SEC_DBG_NONCE 0 0 n.1
  let t := setF t SEC_IMG_STAT_IN_FORCE 0 0 (getF s SEC_IMG_STAT_IN_FORCE 0 0)
  setF t MGT_BOOT_STAT_STEP 0 0 1

/-- POWER_ON_RESET (R400): after `days` without power, following an orderly power-down or not. -/
def execPowerOnReset (days : Nat) (orderly : Bool) (s : State) : Host.Outcome State Fault Refusal :=
  .next (powerOn s days orderly)

/-! ## The steps of bring-up (R400 to R402) -/

/-- Step 1: the banks are read, the pairs enter lockstep, the random source seeds, and the kind of start is decided. -/
def stepOne (s : State) : State :=
  let fac := (s.fuseFactory ++ List.replicate (2048 - s.fuseFactory.length) 0).take 2048
  let fld_ := (s.fuseBank ++ List.replicate (fuseMax - s.fuseBank.length) 0).take fuseMax
  let cnt := fun (l : List Nat) (p : Nat → Bool) => (l.filter p).length
  let s := setF s FUS_STAT_FACTORY_USED 0 0 (cnt fac (· != 0))
  let s := setF s FUS_STAT_FIELD_USED 0 0 (cnt fld_ (· != 0))
  let s := setF (setF s FUS_SKIPPED_FACTORY 0 0 (cnt fac entrySkipped)) FUS_SKIPPED_FIELD 0 0 (cnt fld_ entrySkipped)
  let s := setF s FUS_MAP_CRC 0 0 (crc32c ((fac ++ fld_).flatMap (bytesLE 8)))
  let s := forAll ((fac ++ fld_).filter entrySkipped) s fun s _ => raiseFor s cFUS 0 2 .noPart
  let s := setF s GMB_RNG_STAT_ENTROPY_OK 0 0 1
  bootKind (enterLockstep (enterLockstep s 0) 1)

/-- Step 2: networks and seam are tested; the Tempo unit leaves OFF. -/
def stepTwo (s : State) (found : List Nat) : State :=
  let s := repairFound (replay s [4, 0x15]) [4, 0x15] found
  if tmpState s ≠ tmOff then s else if s.tempo.role = roleLocal then tempoLocked s else showTempo s tmAcquiring

/-- The first sets of taps are filled by a step's bring-up calibration (R467); `k` is 0 for step 3 and 2 for step 4. -/
def firstSets (s : State) (k : Nat) : State :=
  let d := draw s
  { d.2 with calFirst := SMap.set (SMap.set s.calFirst 0 k d.1) 0 (k + 1) s.time.tempoNo }

/-- Step 3: stacks and SRAM are trained, repaired and cleared, and the reserves are set. How many attempts a channel needed is a free
value (R247). -/
def stepThree (s : State) (found : List Nat) : State :=
  let s := firstSets s 0
  let kinds := [3, 8, 9, 0xA, 0xB]
  let s := forAll (List.range 8) s fun s k =>
    let s := setF (setF s MST_RESERVE_ACTIVE k 0 (getF s MST_RESERVE_GRANULES k 0)) MST_STAT_PHASE k 0 0
    forAll (List.range 128) s fun s i =>
      let v := draw s
      setF (setF (setF v.2 MCH_WIDTH_MODE_MODE (128 * k + i) 0 0) MCH_TRAIN_STATE (128 * k + i) 0 6)
        MCH_TRAIN_RETRIES (128 * k + i) 0 (1 + v.1 % 15)
  let s := forAll ((List.range 8).filter fun k => siteFailed s (stackSite k)) s stackFail
  let s := repairFound (replay s kinds) kinds found
  let s := forAll (List.range 8) s fun s k =>
    let x := getStack s k
    let s := forAll (x.evacs.filter fun e => e.kind == 3) s fun s e => setF s MCH_WIDTH_MODE_RELIEVED (128 * k + e.chan) 0 1
    let s := showEvac (putStack s k { x with evacs := [] }) k
    let s := forAll ((List.range 128).filter fun i => getF s MCH_WIDTH_MODE_MODE (128 * k + i) 0 == 2) s fun s i =>
      setF s MCH_TRAIN_STATE (128 * k + i) 0 7
    if stackFailed s k then s else setF s MST_CAP_MIB k 0 (stackCap s k)
  { s with
    mem := []
    since := []
    ue := []
    lost := (s.lost.map fun e => (e.1, (e.2 + 1) / 2 * 2)).filter fun e => e.2 != 0 }

/-- A floor circuit takes effect in its place, on the wavelength that serves for it, or wherever it can be placed. -/
def bootFloor (s : State) (src dst : Nat) : State :=
  let p := floorOf src dst
  let l := entryOf s p.1 p.2
  if occState s p.1 l = ocOut ∨ getF s LAN_STAT_LIT p.1 0 = 0 then placeFloor s src dst
  else match deviceClaim s p.1 l src dst s.time.tempoNo true false with
    | none => placeFloor s src dst
    | some s =>
      let tune := fun (s : State) (dir site r : Nat) =>
        if r < 4 then setHeater s dir site (4 * p.1 + r) (expectCode s dir site (4 * p.1 + r) l) else s
      match claimAt s p.1 l src dst fun _ => true with
      | some c =>
        let s := modClaim s p.1 l c fun c =>
          let t := some (nowBeat s)
          { c with txLock := t, rxLock := t, txSeen := t, rxSeen := t }
        takeEffect (tune (tune s 0 src c.txRing) 1 dst c.rxRing) p.1 l c
      | none => s

/-- Step 4: the sources feed their groups, a bad one being replaced by the lowest standby; lanes, lines and rings are
mapped; a source with EN 0 stays OFF; the floor circuits take effect; and ports that are enabled try to leave OFF. -/
def stepFour (s : State) (found : List Nat) : State :=
  let src := repairFound (replay (firstSets s 2) [0x13]) [0x13] found
  let s := forAll ((List.range 6).filter fun i => getF src LSR_STAT_STATE i 0 != 4 && getF src LSR_CTRL_EN i 0 == 1) src fun s i =>
    setF (setF s LSR_STAT_STATE i 0 2) LSR_STAT_LOCK i 0 1
  let s := forAll (List.range 4) s fun s g =>
    match if getF s LSR_STAT_STATE g 0 = 2 then some g
      else (List.range 6).find? fun i => 4 ≤ i && getF s LSR_STAT_STATE i 0 == 2 with
    | some i =>
      forAll (groupLanes g) (setF (setF s LSR_STAT_STATE i 0 3) LSR_STAT_FEED i 0 g) fun s n =>
        setF (setF s LAN_STAT_SOURCE n 0 i) LAN_STAT_LIT n 0 1
    | none => s
  let s := forAll (List.range 64) s fun s n => forAll (List.range 64) s fun s l =>
    setOcc s n l (if getF s LAN_STAT_LIT n 0 = 0 then ocOut else idleOcc s n l)
  let kinds := [0x10, 0x11, 0x12, 0x14]
  let s := repairFound (replay s kinds) kinds found
  let s := forAll allPairs s fun s p => bootFloor s p.1 p.2
  let s := forAll ((List.range 6).filter fun i => getF s LSR_STAT_STATE i 0 == 2) s fun s i => raise s cLSR i 4
  portsTry s

/-- Step 5: positions are tested and mapped, every logical core is HALTED, and a cold start writes its record. Sites with
no partition keep their cores OFF (R424). -/
def stepFive (s : State) (found : List Nat) : State :=
  let s := forAll (List.range 32) s fun s cl => forAll (List.range 4) s fun s r => setF s CLU_ROW_MAP_SPARE_OK cl r 1
  let s := repairFound (replay s [1, 2]) [1, 2] found
  let s := forAll (List.range 1280) s fun s c =>
    if coreState s c = csFailed then s
    else if (lidOfCor s c).isNone then setCoreState s c csSpare
    else if (partOf s (corSite c)).isNone then s
    else if siteFailed s (corSite c) then s
    else setCoreState s c csHalted
  let s := forAll ((List.range 16).filter fun x => (partOf s x).isNone) s parkSite
  let s := showResets { s with resets := [], modRst := 0 }
  if getF s MGT_BOOT_STAT_KIND 0 0 = 1 then
    { s with testRec := some ⟨getF s DEV_SERIAL 0 0, getF s FUS_MAP_CRC 0 0, true, false, 0, s.time.tempoNo⟩ }
  else s

/-- Bring-up stops in FAILED (R401). -/
def bootFailed (s : State) (step code : Nat) : State :=
  let s := setF (setF s MGT_BOOT_FAIL_CODE 0 0 code) MGT_BOOT_FAIL_STEP 0 0 step
  raiseFor (setF s MGT_BOOT_STAT_STEP 0 0 15) cMGT 0 18 .noPart

/-- The steps that a step depends on (R400). -/
def bootDeps (k : Nat) : List Nat := if k = 2 then [1] else if k = 3 ∨ k = 4 then [2] else if k = 5 then [3, 4] else []

/-- A cause of `MGT_BOOT_FAIL` belongs to the step that can find it. -/
def failStep (code : Nat) : Nat := if code ≤ 2 then 1 else if code ≤ 4 then 2 else if code = 5 then 5 else 3

/-- A step completes. -/
def bootStep (s : State) (step ms : Nat) (found : List Nat) : State :=
  let s := if step = 1 then stepOne s
    else if step = 2 then stepTwo s found
    else if step = 3 then stepThree s found
    else if step = 4 then stepFour s found
    else stepFive s found
  let s := setF s MGT_BOOT_MS 0 (step - 1) ms
  let s := setF s MGT_BOOT_STAT_DONE 0 0 (setBit (getF s MGT_BOOT_STAT_DONE 0 0) (step - 1))
  let next := ((List.range 5).find? fun k => !bootDone s (k + 1)).getD 5 + 1
  let s := raiseFor (setF s MGT_BOOT_STAT_STEP 0 0 next) cMGT 0 16 .noPart
  if next = 6 then raiseFor s cMGT 0 17 .noPart else s

/-- BRINGUP_STEP_DONE (R400 to R402): a step whose dependencies are done completes after `ms` milliseconds. `found` lists
the units that its tests found bad, as fuse entries; `fail` is a cause of `MGT_BOOT_FAIL` that it met, or 0; `r0` and `r1`
say whether the two image slots can be read. Step 1 fails with no valid image (R490), step 3 when no stack serves, and
step 5 when no core is left. The stacks are trained once the reset that a module reset starts there is over (R241). -/
def execBringupStepDone (step : Fin 6) (ms : Fin (2 ^ 20)) (found : List (Fin (2 ^ 56))) (fail : Fin 7) (r0 r1 : Bool)
    (s : State) : Host.Outcome State Fault Refusal :=
  .next (if step = 0 ∨ bootDone s step ∨ getF s MGT_BOOT_STAT_STEP 0 0 = 15 ∨ !((bootDeps step).all (bootDone s)) ∨
      s.modRst = 2 ∨ (step = 3 ∧ stacksBusy s (List.range 16)) then s
    else if fail ≠ 0 ∧ failStep fail = step then bootFailed s step fail
    else
      let img := if step = 1 then bootImage s r0 r1 else (s, true)
      if !img.2 then bootFailed img.1 1 1
      else
        let t := bootStep img.1 step ms (found.map (·.val))
        if step = 3 ∧ (List.range 8).all (stackFailed t) then bootFailed s 3 6
        else if step = 5 ∧ coreCount t = 0 then bootFailed s 5 5
        else t)

/-! ## The module reset (R423, R503, R523) -/

/-- The `HST` fields that outlive a module reset: the link, and the functions that exist. -/
def hostKeeps (k : Nat) : Bool :=
  let o := k / 32 % 4096
  o == 0x40 || (decide (0x100 ≤ o) && o % 64 == 8 && k % 32 == 29)

/-- Tempo N: scans stop, every item is absorbed, host items among them, the record is marked clean (R405, R503). The `HST`
block then returns to its reset values, but for the link and the functions that exist. -/
def moduleTempoN (s : State) : State :=
  let s := forAll (List.range 16) (markClean s) fun s x => absorbSite s x .targetResetting
  let s := forAll (List.range 8) s fun s p =>
    forAll ((getArea s p).items.filter fun i => !i.begun) s fun s i => hostItemDone s p i.idx .cancelled 0
  let s := hostFlushAll s
  let host := fun (k : Nat) => decide (k / 2 ^ 28 = cHST) && !headerOff (k / 32 % 4096) && !hostKeeps k
  { s with
    modRst := 2
    regs := s.regs.filter fun e => !host e.1
    areas := [] }

/-- The registers of the stacks that a module reset keeps: the phase of the reset that it starts there, block counters, and what
their sites' deduplication windows hold (R241, R244). -/
def stackKeeps (k : Nat) : Bool :=
  let c := k / 2 ^ 28
  let i := k / 2 ^ 17 % 2048
  (List.range 8).any (fun x => [MST_STAT_PHASE, MST_ECC_CE, MST_ECC_UE, MST_DIR_EVICT, MST_RST_CNT].any fun f => f.key x 0 == k) ||
  (c == cMCH && (MCH_ECC_CE.key i 0 == k || MCH_ECC_UE.key i 0 == k)) || ((siteStack i).isSome && PRT_DEDUP_USED.key i 0 == k)

/-- The registers that a module reset keeps (R364, R417, R503, R540, R541). The `ERR` block goes with the rest at the
moment the ports go dark. -/
def moduleKeeps (k : Nat) : Bool :=
  let c := k / 2 ^ 28
  let o := k / 32 % 4096
  stackKeeps k || [cARB, cTMP, cFUS, cSEC, cMGT].contains c || o == 0x30 || o == 0x34 || k == FAB_NODE_NODE.key 0 0 ||
    k == FAB_NODE_NODE_SET.key 0 0 || (c == cHST && hostKeeps k)

/-- The ports are dark (R363, R423): the log is saved (R523), every partition takes the steps of its reset but the last,
every unit but the kept ones is reset, and bring-up runs from step 2. The logic layers of the stacks go on with their own reset
(R241, R244). The Canvas power and what lies outside stay as they are. The holding registers and the read latches of R14 and R15
are emptied for every page, those whose registers survive the reset too (log entry 131, DESIGN CHOICE), and the test port, which
its own reset resets, stays as it is (log entry 139). -/
def moduleReset (s : State) : State :=
  let s := sitesReset s (List.range 16)
  let parts := (List.range 8).filter fun p => !(sitesOf s p).isEmpty
  let t : State := { State.reset with
    time := s.time
    tempo := s.tempo
    regs := s.regs.filter fun e => moduleKeeps e.1
    raised := s.raised.filter fun e => [cARB, cTMP, cFUS, cSEC, cMGT].contains (e.1 / 32 / 2048)
    tmpLatch := s.tmpLatch
    msix := s.msix
    mem := s.mem
    lost := s.lost
    since := s.since
    ue := s.ue
    stackSt := s.stackSt.map fun e => (e.1, { Stack.init with
      resetFrom := e.2.resetFrom
      resetLen := e.2.resetLen
      refreshed := e.2.refreshed
      postponed := e.2.postponed })
    dedups := s.dedups.filter fun e => (siteStack e.1).isSome
    therm := { ThermSt.init with lastRound := s.therm.lastRound }
    gov := { GovSt.init with inputBad := s.gov.inputBad, backAt := s.gov.backAt }
    fuseFactory := s.fuseFactory
    fuseBank := s.fuseBank
    fuseQueue := s.fuseQueue
    unsaved := s.unsaved
    dieClk := s.dieClk
    railDown := s.railDown
    testRec := s.testRec
    image0 := s.image0
    image1 := s.image1
    twins := s.twins
    update := s.update
    verify := s.verify
    errSaved := some s.log
    draws := s.draws
    tap := s.tap
    out := s.out
    pending := s.pending
    resets := parts.map fun p => (p, ⟨some s.time.tempoNo, false, false, true, false⟩)
    modRst := 3 }
  let t := setF (setF t MGT_BOOT_STAT_DONE 0 0 1) MGT_BOOT_STAT_STEP 0 0 2
  bootKind (showResets (showClusters t))

/-- PORTS_DARK (R363, R423): at or after N + 20 the ports go dark, and a module reset that was triggered proceeds. -/
def execPortsDark (s : State) : Host.Outcome State Fault Refusal :=
  .next (match s.rstAt with
    | none => s
    | some n =>
      if !atBoundary s ∨ beatsSince s n < 2000 then s
      else
        let s := setF (portsDark s) FAB_RST_CTRL_ARMED 0 0 0
        let s := { s with rstAt := none }
        if s.modRst = 2 then moduleReset s
        else if s.modRst = 1 then moduleReset (moduleTempoN s)
        else s)

/-- After a module emergency stop the input has been in range for 100 ms (R462). -/
def inputReady (s : State) : Bool :=
  s.therm.estop.isNone || (!s.gov.inputBad && decide (s.gov.backAt + 100000 ≤ s.time.tempoNo))

/-- A write of `MGT_RST_CTRL` with GO and LEVEL 2 (R423): refused after a module emergency stop until the input has been in
range (R462), absorbed by one already under way. It takes effect at tempo N where FAB_RST_CTRL has armed one. -/
def moduleTrigger (s : State) : State :=
  if !inputReady s then raiseFor (setF s MGT_RST_STAT_LAST 0 0 2) cMGT 0 20 .noPart
  else if s.modRst = 1 ∨ s.modRst = 2 then setF s MGT_RST_STAT_LAST 0 0 3
  else { s with modRst := 1 }

/-- What a boundary brings to a module reset: tempo N of an armed one, or, of one not announced, all of it. -/
def moduleBoundary (s : State) : State :=
  if s.modRst ≠ 1 then s
  else match s.rstAt with
    | some n => if 0 ≤ beatsSince s n then moduleTempoN s else s
    | none => moduleReset (moduleTempoN (portsDark s))

/-! ## `MGT_RST_CTRL` (R426) -/

/-- A write of `MGT_RST_CTRL` that has stored its fields: RELEASE, then GO at its LEVEL. -/
def rstCtrl (s : State) (v : Nat) : State :=
  let n := bitsOf v 4 0
  let s := if hasBit v 30 then releaseHold s n else s
  if !hasBit v 31 then s
  else
    let lv := bitsOf v 29 28
    if lv = 0 then clusterReset s n
    else if lv = 1 then partitionReset s n (hasBit v 27) (hasBit v 26)
    else if lv = 2 then moduleTrigger s
    else raiseFor (setF s MGT_RST_STAT_LAST 0 0 2) cMGT 0 20 .noPart

end Sys2Proof.Machine
end

