-- ==== Sys2Proof/Machine/Log.lean ====
section
/-! DEFINITION. Machine/Log.lean: the error log beyond its intake, MSI-X messages, and where signalled events are found
(R514 to R527). -/

namespace Sys2Proof.Machine

/-! ## Entries (R519) -/

/-- Word `w` of a log entry. -/
def Report.word (r : Report) (w : Nat) : Nat :=
  let site := match r.site with
    | some x => x + 16
    | none => 0
  let part := match r.part with
    | some p => p + 8
    | none => 0
  if w = 0 then r.seq
  else if w = 1 then r.cls % 16 + r.status % 16 * 2 ^ 4 + r.beat * 2 ^ 8 + site * 2 ^ 16 + part * 2 ^ 24
  else if w = 2 then r.tempo % 2 ^ 32
  else if w = 3 then r.tempo / 2 ^ 32 % 2 ^ 32
  else if w = 4 then r.addr % 2 ^ 32
  else if w = 5 then r.addr / 2 ^ 32 % 2 ^ 32
  else if w = 6 then r.tag % 2 ^ 16 + (r.page % 32 + r.inst % 2 ^ 11 * 32) * 2 ^ 16
  else r.evt % 32 + (if r.isEvent then 2 ^ 15 else 0) + r.detail % 2 ^ 16 * 2 ^ 16

/-- Entries of the ring. -/
abbrev ringMax : Nat := 255

/-- Item reports held at their units enter the intake queue as it has room (R520). -/
def intakeRefill (s : State) : State :=
  let room := intakeMax - s.log.intake.length
  { s with log := { s.log with intake := s.log.intake ++ s.log.held.take room, held := s.log.held.drop room } }

/-- One report is written (R520): the first since a clear into entry 0, the others into the ring, where an entry whose SEQ
lies above `ERR_READ` loses its detail. A VF learns of the entries of its partition (R515). -/
def logWrite (s : State) : State :=
  match s.log.intake with
  | [] => s
  | r :: rest =>
    let s := { s with log := { s.log with intake := rest } }
    let s := match s.log.first with
      | none => raiseErr { s with log := { s.log with first := some r } } 2
      | some _ =>
        let full := decide (ringMax ≤ s.log.ring.length)
        let s' := { s with log := { s.log with ring := (r :: s.log.ring).take ringMax } }
        match s.log.ring.getLast? with
        | some o => if full && decide (getF s ERR_READ 0 0 < o.seq) then loseDetail s' o else s'
        | none => s'
    let s := match r.part with
      | some p => if vfEnabled s p then msixPend s ((p + 1) * 32) else s
      | none => s
    intakeRefill (raiseErr s 0)

/-- LOG_WRITE (R520). -/
def execLogWrite (s : State) : Host.Outcome State Fault Refusal := .next (logWrite s)

/-- A write of `ERR_CTRL.CLEAR` (R520): the entries go, the reports that wait stay. -/
def logClear (s : State) : State := { s with log := { s.log with first := none, ring := [] } }

/-- A write of `ERR_CTRL.CLEAR_CNT` (R526). -/
def logClearCnt (s : State) : State :=
  let s := forAll (List.range 16) s fun s c => setF (setF s ERR_CNT 0 c 0) ERR_OVF 0 c 0
  forAll (List.range 8) s fun s p => setF (setF s ERR_PART_CNT_CNT 0 p 0) ERR_PART_CNT_OVF 0 p 0

/-- A write of `ERR_CTRL`: CLEAR, CLEAR_CNT. -/
def errCtrl (s : State) (v : Nat) : State :=
  let s := if hasBit v 0 then logClear s else s
  if hasBit v 1 then logClearCnt s else s

/-- The number of a requester. -/
def Requester.no : Requester → Nat
  | .mgmt => 0
  | .pf => 1
  | .vf n => 2 + n.val
  | .sideband => 10

/-- The partition that a VF serves (R477). -/
def Requester.part : Requester → Option Nat
  | .vf n => some n.val
  | _ => none

/-- A write of `ERR_RD_IDX` (R521, R522): the entry is latched for the requester, for a VF only its partition's. -/
def logLatch (s : State) (q : Requester) (v : Nat) : State :=
  let n := v % 256
  let e := if n = 0 then s.log.first else s.log.ring[n - 1]?
  let e := e.bind fun r => match Requester.part q with
    | none => some r
    | some p => if r.part = some p then some r else none
  { s with
    errIdx := SMap.set s.errIdx 0 (Requester.no q) n
    errLatch := match e with
      | some r => SMap.insert s.errLatch (Requester.no q) r
      | none => SMap.erase s.errLatch (Requester.no q) }

/-! ## Signalled events (R514, R526, R535) -/

/-- The instances of a class that hold a signalled event, ascending. -/
def signalled (s : State) (c : Nat) : List Nat :=
  (s.regs.filter fun e => e.1 / 2 ^ 28 == c && e.1 / 32 % 4096 == 0x14 &&
    (List.range 32).any fun b => hasBit e.2 b && unmasked s c (e.1 / 2 ^ 17 % 2048) b).map fun e => e.1 / 2 ^ 17 % 2048

/-! ## MSI-X (R516) -/

/-- At a boundary, what was signalled in the tempo before is ready to be sent. -/
def msixBoundary (s : State) : State :=
  { s with msix := { s.msix with
    pend := []
    ready := s.msix.ready ++ s.msix.pend.filter fun v => !s.msix.ready.contains v } }

/-- MSIX_SEND (R515, R516): at a boundary, a vector with an event signalled before it sends, at most once in
`ERR_MSIX_MOD.TEMPOS` tempos; one that is masked in its table holds its pending bit. -/
def execMsixSend (func : Fin 9) (vec : Fin 32) (masked : Bool) (s : State) : Host.Outcome State Fault Refusal :=
  let v := func.val * 32 + vec.val
  let last := SMap.get s.msix.last 0 v
  .next (if !atBound s ∨ masked ∨ !s.msix.ready.contains v ∨
      (last ≠ 0 ∧ s.time.tempoNo + 1 < last + getF s ERR_MSIX_MOD 0 0) then s
    else
      emit { s with msix := { s.msix with
        ready := s.msix.ready.filter (· != v)
        last := SMap.set s.msix.last 0 v (s.time.tempoNo + 1) } } (.msix func vec))
where
  /-- At a tempo boundary. -/
  atBound (s : State) : Bool := s.time.beat == 0 && s.time.clk == 0

end Sys2Proof.Machine
end

