-- ==== Sys2Proof/Machine/Cal.lean ====
section
/-! DEFINITION. Machine/Cal.lean: the calibration framework: windows, slots, acceptance, sets of taps and staleness (R273 to
R275, R464 to R469). -/

namespace Sys2Proof.Machine

/-! ## Items (R464, R474) -/

/-- The channel page and the via of a memory lane item. -/
def laneItem (site item : Nat) : Nat × Nat := ((siteStack site).getD 0 * 128 + item % 128, item / 128)

/-- The site of a housekeeping channel, in the order of R457; a channel that belongs to no site counts as site 0's (log
entry 59). -/
def chSite (ch : Nat) : Nat :=
  if ch < 384 then dieSite (ch / 48)
  else if ch < 448 then dieSite ((ch - 384) / 8)
  else if ch < 560 then stackSite ((ch - 448) / 14)
  else if ch < 592 then stackSite ((ch - 560) / 4)
  else if ch < 720 then (ch - 592) / 8
  else if 832 ≤ ch ∧ ch < 928 then (ch - 832) / 6
  else 0

/-- Does an item exist and serve. -/
def calItem (s : State) (cls site item : Nat) : Bool :=
  if cls = 0 then decide (item < 512) && getF s (ringSt (item / 256)) site (item % 256) != rgFailed
  else if cls = 1 then decide (item < 18) && !hasBit (getF s VLK_LFAIL site 0) item
  else if cls = 2 then
    (siteStack site).isSome && decide (item / 128 < 20) &&
      !hasBit (getF s MCH_VIA_FAIL (laneItem site item).1 0) (item / 128)
  else decide (item < 1024) && chSite item == site && !SMap.get s.therm.failed false item

/-- The length of a slot in tempos. -/
def calLen (cls : Nat) : Nat := if cls = 0 then 36 else if cls = 1 then 30 else if cls = 2 then 4 else 1

/-! ## Sets (R467) -/

/-- The nearest of some sets. -/
def nearest (t : Int) : List CalSet → Option CalSet
  | [] => none
  | a :: l => match nearest t l with
    | none => some a
    | some b => if gap a.temp t ≤ gap b.temp t then some a else some b

/-- A new set among those of an item (R467): in the place of one within 4 °C, in an empty one, or in that of the nearest. -/
def putSet (n : CalSet) (l : List CalSet) : List CalSet :=
  match nearest n.temp l with
  | none => [n]
  | some x => if 4000 < gap x.temp n.temp ∧ l.length < 4 then l ++ [n] else l.map fun y => if y = x then n else y

/-! ## Acceptance (R464, R466) -/

/-- Do two values of a tap repeat within the tolerance (log entry 58, DEDUCED). -/
def repeats (cls k : Nat) (a b : Int) : Bool :=
  if cls = 0 then
    if k < 3 then decide (gap a b ≤ 6)
    else if k = 3 then decide (gap a b * 100 ≤ 2 * a.natAbs)
    else if k < 7 then decide (gap a b ≤ 15)
    else decide (gap a b ≤ 2)
  else if cls = 3 then (if k = 0 then decide (gap a b ≤ 25) else decide (gap a b ≤ 50))
  else decide (gap a b ≤ 1)

/-- Does a value lie within the plausibility limit of the set value. -/
def plausible (s : State) (cls site k : Nat) (set v : Int) : Bool :=
  if cls = 0 then
    if k < 3 then decide (gap set v ≤ getF s PRT_WINDOW site 0) else decide (gap set v * 10 ≤ set.natAbs)
  else if cls = 1 then decide (gap set v ≤ 4)
  else if cls = 2 then decide (gap set v ≤ 6)
  else (if k = 0 then decide (gap set v ≤ 300) else decide (gap set v ≤ 300))

/-- A test of every tap of two lists, by place. -/
def allTaps (p : Nat → Int → Int → Bool) (a b : List Int) : Bool :=
  a.length == b.length && (List.range a.length).all fun k => p k (a.getD k 0) (b.getD k 0)

/-- What the two passes give: taps and `CAL_LAST.RESULT` 1, 2 or 3. -/
def judge (s : State) (cls site item : Nat) (m : Measured) : List Int × Nat :=
  let n := calTaps cls
  let a := (m.p1.map fun x => x.toInt).take n
  let b := (m.p2.map fun x => x.toInt).take n
  let set := (tapsAt s cls site item m.temp.toInt).1
  let ok := fun (p : List Int) => p.length == n && allTaps (plausible s cls site) set p
  if a.length = n ∧ allTaps (repeats cls) a b then ((a.zip b).map fun p => (p.1 + p.2) / 2, 1)
  else if ok a && !ok b then (a, 2)
  else if ok b && !ok a then (b, 2)
  else ([], 3)

/-! ## Staleness (R275, R467, R468) -/

/-- An item becomes stale, or is so no longer; for a ring `PRT_CAL_STAT` counts too (R275). -/
def setStale (s : State) (cls site item : Nat) (on : Bool) : State :=
  let k := calKey cls site item
  if SMap.get s.calStale false k = on then s
  else
    let s := { s with calStale := SMap.set s.calStale false k on }
    if on then
      let n := getF s CAL_STAT_STALE 0 0
      let s := if cls = 0 then raise (setF s PRT_CAL_STAT_STALE site 0 (getF s PRT_CAL_STAT_STALE site 0 + 1)) cPRT site 6 else s
      let s := setF s CAL_STAT_STALE 0 0 (n + 1)
      if n = 0 then raise s cCAL 0 3 else s
    else
      let s := if cls = 0 then setF s PRT_CAL_STAT_STALE site 0 (getF s PRT_CAL_STAT_STALE site 0 - 1) else s
      setF s CAL_STAT_STALE 0 0 (getF s CAL_STAT_STALE 0 0 - 1)

/-- Tempos since the last accepted result, or since bring-up took the first set. -/
def calAge (s : State) (cls site item : Nat) : Nat :=
  s.time.tempoNo - max (SMap.get s.calLast 0 (calKey cls site item)) (SMap.get s.calFirst 0 (if cls = 2 then 1 else 3))

/-- The age limit in tempos. -/
def calLimit (s : State) (cls site : Nat) : Nat :=
  (if cls = 0 then getF s PRT_CAL_CTRL_MAX_AGE site 0 else getF s CAL_MAX_AGE 0 0) * 1000

/-- CAL_STALE (R275): a ring whose last accepted calibration is older than MAX_AGE. -/
def execCalStale (site : Fin 16) (rx : Bool) (n : Fin 256) (s : State) : Host.Outcome State Fault Refusal :=
  let item := (if rx then 256 else 0) + n.val
  .next (if calItem s 0 site item ∧ calLimit s 0 site < calAge s 0 site item then setStale s 0 site item true else s)

/-- CAL_ITEM_STALE (R467, R468): an item is too old, or its taps are extrapolated at its present temperature, which the
command gives. -/
def execCalItemStale (cls : Fin 4) (site : Fin 16) (item : Fin 4096) (temp : BitVec 20) (s : State) :
    Host.Outcome State Fault Refusal :=
  .next (if calItem s cls site item ∧
      (calLimit s cls site < calAge s cls site item ∨ (tapsAt s cls site item temp.toInt).2) then
      setStale s cls site item true
    else s)

/-! ## Results (R466, R467) -/

/-- An accepted ring refreshes its column of the crosstalk matrix (R269). -/
def refreshXt (s : State) (dir site n : Nat) (taps : List Int) : State :=
  let f := if dir = 0 then PRT_XT_TX else PRT_XT_RX
  forAll (List.range 12) s fun s m =>
    let old := getF s f site m
    let sh := 2 ^ (8 * (n % 4))
    setF s f site m (old - bitsOf old (8 * (n % 4) + 7) (8 * (n % 4)) * sh + ((taps.getD (7 + m) 0) % 256).toNat * sh)

/-- An item has been refused too often: it fails (R466). A ring's circuit moves to another ring at the next boundary (R277). -/
def itemFailed (s : State) (cls site item : Nat) (circ : Option Nat) : State :=
  let s := raise s cCAL 0 2
  if cls = 0 then
    let r := ringItem item
    let s := ringFail s r.1 site r.2
    match circ with
    | some k => putCirc s k { getCirc s k with due := true }
    | none => s
  else if cls = 1 then portLambdaFail s site item
  else if cls = 2 then viaFail s (laneItem site item).1 (laneItem site item).2
  else raise { s with therm := { s.therm with failed := SMap.set s.therm.failed false item true } } cTHM 0 9

/-- The result of one item's two passes is applied: accepted, accepted by plausibility, or refused. -/
def calResult (s : State) (cls site item : Nat) (circ : Option Nat) (m : Measured) : State × Nat :=
  let k := calKey cls site item
  let j := judge s cls site item m
  if j.2 = 3 then
    let n := SMap.get s.calFails 0 k + 1
    let s := raise (bumpF { s with calFails := SMap.set s.calFails 0 k n } CAL_FAIL_CNT 0 0 1) cCAL 0 1
    (if getF s CAL_FAIL_MAX 0 0 ≤ n then itemFailed s cls site item circ else s, 3)
  else
    let sets := putSet ⟨m.temp.toInt, j.1⟩ (setsOf s cls site item)
    let s := { s with
      calFails := SMap.set s.calFails 0 k 0
      calLast := SMap.set s.calLast 0 k s.time.tempoNo
      calSets := SMap.set s.calSets [] k sets }
    let s := bumpF s CAL_ACCEPT_CNT 0 0 1
    let s := if j.2 = 2 then bumpF s CAL_PLAUS_CNT 0 0 1 else s
    let s := if cls = 0 then refreshXt s (item / 256) site (item % 256) j.1 else s
    (setStale s cls site item false, j.2)

/-! ## Traffic (R273, R274, R464) -/

/-- The wavelength of a port is in RXMAP again. -/
def lambdaBack (s : State) (n w : Nat) : State :=
  if portState s n ≠ vpActive ∨ hasBit (getF s VLK_LFAIL n 0) w then s
  else
    let p := getPort s n
    showLambdas (sendIdent (putPort s n { p with rxGood := setBit p.rxGood w }) n) n

/-- A memory lane is carried by its own via again. -/
def laneBack (s : State) (ch v : Nat) (spare : Option Nat) : State :=
  match spare with
  | none => s
  | some u =>
    if getF s MCH_WIDTH_MODE_MODE ch 0 = 0 then setF s (if u = 18 then MCH_VIA_MAP_S0_FOR else MCH_VIA_MAP_S1_FOR) ch 0 31
    else setF s MCH_HALF_LANES ch 0 (setBit (clearBit (getF s MCH_HALF_LANES ch 0) u) v)

/-- The circuit of a ring returns with training words; its reserve circuit is released with LEAD 1, by beat 2 (R273). -/
def calResume (s : State) (k : Nat) : State :=
  let x := getCirc s k
  let s := resumeCirc (putCirc s k { x with resv := none }) (k / 64) (k % 64)
  match x.resv with
  | some r => setRelease s (r / 64) (r % 64) (s.time.tempoNo + 2) 3
  | none => s

/-- The traffic of a slot returns from its spare. -/
def slotBack (s : State) (x : CalSlot) : State :=
  if x.cls = 0 then
    match x.circ with
    | some k => if x.free then freePair s k ((x.site, x.item) :: x.other.toList) else calResume s k
    | none => s
  else if x.cls = 1 then lambdaBack s x.site x.item
  else if x.cls = 2 then laneBack s (laneItem x.site x.item).1 (laneItem x.site x.item).2 x.circ
  else s

/-- A slot is abandoned and its traffic returns (R466). -/
def slotAbandon (s : State) (x : CalSlot) : State := slotLost (slotBack s x) x

/-- Has the spare of a slot been lost, or the circuit under calibration itself. -/
def spareLost (s : State) (x : CalSlot) : Bool :=
  if x.cls = 0 then
    match x.circ with
    | none => true
    | some k =>
      if x.free then occState s (k / 64) (k % 64) != ocReserveUsed
      else
        let y := getCirc s k
        match y.cur, y.resv with
        | some c, some r => (claimAt s (r / 64) (r % 64) c.src c.dst fun d => d.issuer == 3).isNone
        | _, _ => true
  else if x.cls = 1 then portState s x.site != vpActive || decide (popCount 18 (getPort s x.site).rxGood < 16)
  else if x.cls = 2 then
    let l := laneItem x.site x.item
    let f := getF s MCH_VIA_FAIL l.1 0
    hasBit f l.2 || (match x.circ with
      | some u => hasBit f u
      | none => false)
  else false

/-- A slot that has lost its spare: what is left of it is undone. A circuit whose reserve circuit is gone returns; a memory
lane stays where the loss has put it. -/
def slotSpareGone (s : State) (x : CalSlot) : State :=
  let s := if x.cls = 0 then
      (match x.circ with
        | some k =>
          if x.free then freePair s k ((x.site, x.item) :: x.other.toList)
          else if (getCirc s k).cur.isSome then resumeCirc (putCirc s k { getCirc s k with resv := none }) (k / 64) (k % 64)
          else s
        | none => s)
    else if x.cls = 1 then lambdaBack s x.site x.item else s
  slotLost s x

/-- What a boundary brings to the slots: spares lost, and the rings of a circuit whose traffic has moved begin to be
measured (R273). -/
def calBoundary (s : State) : State :=
  forAll s.calSlots s fun s x =>
    if spareLost s x then slotSpareGone s x
    else match x.circ with
      | some k =>
        let y := getCirc s k
        if x.cls = 0 ∧ !x.free ∧ y.held then
          (match y.cur with
            | some c => setRings s (k / 64) c rgCal
            | none => s)
        else s
      | none => s

/-- The slots of a site that reaches ACT are abandoned (R459, R466). -/
def calAct (s : State) (site : Nat) : State :=
  forAll (s.calSlots.filter fun x => x.sites.contains site) s slotAbandon

/-! ## Windows and slots (R465) -/

/-- CAL_WINDOW_OPEN: the standing window opens, at every site. -/
def execCalWindowOpen (s : State) : Host.Outcome State Fault Refusal :=
  .next (if !atBoundary s ∨ managerDown s 0 ∨ getF s CAL_CTRL_STANDING 0 0 = 0 ∨ s.time.count % getF s CAL_WIN_PERIOD 0 0 ≠ getF s CAL_WIN_OFS 0 0 then s
    else forAll (List.range 16) s fun s x => openWindow s x (getF s CAL_CTRL_CLASSES 0 0) (getF s CAL_WIN_LEN 0 0))

/-- May a slot of a class start at a site: calibration enabled, the level below ACT, room in the window, no other slot in
the way. -/
def slotRoom (s : State) (cls site item : Nat) : Bool :=
  getF s CAL_CTRL_EN 0 0 == 1 && (cls != 0 || getF s PRT_CAL_CTRL_EN site 0 == 1) &&
  decide (bitsOf (getF s THM_LEVEL 0 0) (2 * site + 1) (2 * site) < 2) &&
  decide (nowBeat s + 100 * calLen cls ≤ SMap.get s.calWin 0 (site * 4 + cls)) &&
  (if cls = 2 then
      let at_ := s.calSlots.filter fun x => x.cls == 2 && x.site == site
      !(at_.any fun x => x.item % 128 == item % 128) && decide (at_.length < 16)
    else !(s.calSlots.any fun x => x.cls == cls && x.sites.contains site))

/-- A slot begins. -/
def slotBegin (s : State) (x : CalSlot) : State :=
  let s := putSlots s (s.calSlots ++ [x])
  if x.cls = 0 then
    forAll ((x.site, x.item) :: x.other.toList) s fun s e =>
      setF (setF (setF s PRT_CAL_STAT_ACTIVE e.1 0 1) PRT_CAL_STAT_DIR e.1 0 (ringItem e.2).1) PRT_CAL_STAT_RING e.1 0 (ringItem e.2).2
  else s

/-- The site at the other end may give a ring to a slot: no ring slot of its own, not parked, level below ACT. -/
def partnerOk (s : State) (x : Nat) : Bool :=
  !(s.calSlots.any fun y => y.cls == 0 && y.sites.contains x) && !endShut s x && getF s PRT_CAL_CTRL_EN x 0 == 1 &&
  decide (bitsOf (getF s THM_LEVEL 0 0) (2 * x + 1) (2 * x) < 2)

/-- The circuit in service that a ring carries. -/
def ringCarries (s : State) (dir site n : Nat) : Option (Nat × Claim) :=
  ((ringClaims s dir site (n / 4) (n % 4)).find? fun e =>
    occServes (occState s (n / 4) e.1) && !(getCirc s (circKey (n / 4) e.1)).held &&
    (getCirc s (circKey (n / 4) e.1)).cur == some e.2 && (getCirc s (circKey (n / 4) e.1)).resv.isNone)

/-- A slot of a ring starts (R273, R274); where no reserve wavelength or free rings are left it waits (R275). -/
def ringSlot (s : State) (site item : Nat) : State :=
  let r := ringItem item
  let lane := r.2 / 4
  let st := getF s (ringSt r.1) site r.2
  if st = rgActive then
    match ringCarries s r.1 site r.2 with
    | none => s
    | some (l, c) =>
      let far := if r.1 = 0 then (c.dst, 256 + 4 * lane + c.rxRing) else (c.src, 4 * lane + c.txRing)
      if !partnerOk s far.1 then s
      else match placeReserve s c.src c.dst 3 false with
        | (_, none) => s
        | (s, some k) =>
          let key := circKey lane l
          let s := putCirc s key { getCirc s key with resv := some k }
          slotBegin s ⟨0, site, item, s.time.tempoNo, some key, some far, false⟩
  else if st = rgFree ∧ !endShut s site then
    let free := (List.range 16).findSome? fun x =>
      if x = site ∨ !partnerOk s x then none
      else ((List.range 4).find? fun i => getF s (ringSt (1 - r.1)) x (4 * lane + i) == rgFree).map fun i => (x, 4 * lane + i)
    match free, [62, 63].find? fun l => occState s lane l == ocReserve && getF s LAN_STAT_LIT lane 0 == 1 with
    | some f, some l =>
      let key := circKey lane l
      let tune := fun (s : State) (dir x n peer : Nat) => setRing (tuneRing s dir x n peer l) dir x n rgCal
      let s := tune (tune s r.1 site r.2 f.1) (1 - r.1) f.1 f.2 site
      let s := setOcc s lane l ocReserveUsed
      let s := setF (setF s LAN_OCC_SRC lane l (if r.1 = 0 then site else f.1)) LAN_OCC_DST lane l (if r.1 = 0 then f.1 else site)
      let s := putCirc s key { getCirc s key with held := true }
      slotBegin s ⟨0, site, item, s.time.tempoNo, some key, some (f.1, 256 * (1 - r.1) + f.2), true⟩
    | _, _ => s
  else s

/-- A slot of a port wavelength starts: it leaves RXMAP, and a spare takes its traffic (R464). -/
def portSlot (s : State) (n w : Nat) : State :=
  let p := getPort s n
  if portState s n ≠ vpActive ∨ !hasBit p.rxGood w ∨ popCount 18 p.rxGood < 17 then s
  else
    let s := showLambdas (sendIdent (putPort s n { p with rxGood := clearBit p.rxGood w }) n) n
    slotBegin s ⟨1, n, w, s.time.tempoNo, none, none, false⟩

/-- A slot of a memory lane starts: a spare via, or at half width an unused good via, carries it (R464). -/
def laneSlot (s : State) (site item : Nat) : State :=
  let ch := (laneItem site item).1
  let v := (laneItem site item).2
  let k := ch / 128
  let m := getF s MCH_WIDTH_MODE_MODE ch 0
  let fail := getF s MCH_VIA_FAIL ch 0
  let half := getF s MCH_HALF_LANES ch 0
  let begin := fun (s : State) (u : Option Nat) => slotBegin s ⟨2, site, item, s.time.tempoNo, u, none, false⟩
  if stackFailed s k ∨ stackResetting s k ∨ (getStack s k).asleep ∨ 2 ≤ m then s
  else if m = 0 then
    if 18 ≤ v then (if (viaLane s ch v).isNone then begin s none else s)
    else match steer s ch v with
      | some t => begin t (some (if getF t MCH_VIA_MAP_S0_FOR ch 0 = v then 18 else 19))
      | none => s
  else if hasBit half v then
    match (List.range 20).find? fun u => !hasBit half u && !hasBit fail u with
    | some u => begin (setF s MCH_HALF_LANES ch 0 (setBit (clearBit half v) u)) (some u)
    | none => s
  else begin s none

/-- CAL_SLOT_START (R465): at a boundary inside a window. Which of the waiting items is the oldest is the command's to say
(log entry 60, DESIGN CHOICE). -/
def execCalSlotStart (cls : Fin 4) (site : Fin 16) (item : Fin 4096) (s : State) : Host.Outcome State Fault Refusal :=
  .next (if !atBoundary s ∨ managerDown s 0 ∨ !calItem s cls site item ∨ !slotRoom s cls site item then s
    else if cls = 0 then ringSlot s site item
    else if cls = 1 then portSlot s site item
    else if cls = 2 then laneSlot s site item
    else slotBegin s ⟨3, site, item, s.time.tempoNo, none, none, false⟩)

/-- Has a slot taken its two passes: a ring's end at its tempo 34, the others' at their length. -/
def slotReady (s : State) (x : CalSlot) : Bool :=
  decide (x.from_ + (if x.cls = 0 then 34 else calLen x.cls) ≤ s.time.tempoNo) &&
  (x.cls != 0 || x.free || (match x.circ with
    | some k => (getCirc s k).held
    | none => false))

/-- CAL_SLOT_DONE (R466): the two passes of a slot are over; `far` is what was measured of the ring at the other end. The
traffic returns first, but that of a ring that fails stays on its reserve circuit (R277). -/
def execCalSlotDone (cls : Fin 4) (site : Fin 16) (item : Fin 4096) (near far : Measured) (s : State) :
    Host.Outcome State Fault Refusal :=
  .next (match s.calSlots.find? fun x => x.cls == cls.val && x.site == site.val && x.item == item.val with
    | none => s
    | some x =>
      if !atBoundary s ∨ !slotReady s x then s
      else if spareLost s x then slotSpareGone s x
      else
        let circ := if x.free then none else x.circ
        let s := if x.cls ≠ 0 then slotBack s x
          else match circ.bind fun k => (getCirc s k).cur.map fun c => (k, c) with
            | some (k, c) => setRings s (k / 64) c rgActive
            | none => s
        let p : State × Nat := match x.other with
          | some o => calResult s 0 o.1 o.2 circ far
          | none => (s, 1)
        let q := calResult p.1 cls site item circ near
        let dead := fun (s : State) (e : Nat × Nat) => getF s (ringSt (ringItem e.2).1) e.1 (ringItem e.2).2 == rgFailed
        let stay := x.cls != 0 || (!x.free && ((x.site, x.item) :: x.other.toList).any (dead q.1))
        let s := if stay then q.1 else slotBack q.1 x
        let s := slotOver s x q.2
        let s := match x.other with
          | some _ => raise s cCAL 0 0
          | none => s
        raise s cCAL 0 0)

end Sys2Proof.Machine
end

