-- ==== Sys2Proof/Machine/Thermal.lean ====
section
/-! DEFINITION. Machine/Thermal.lean: the input's operating range, the governor's cap, the thermal watch, orderly and
emergency stops (R449 to R463). -/

namespace Sys2Proof.Machine

/-! ## The input and the cap (R450, R452, R453) -/

/-- INPUT_RANGE (R450): 34 V to below 36 V, or above 44 V up to 46 V. -/
def execInputRange (mv : Fin 65536) (s : State) : Host.Outcome State Fault Refusal :=
  let out := (34000 ≤ mv.val && mv.val < 36000) || (44000 < mv.val && mv.val ≤ 46000)
  .next (if !out ∨ s.gov.inputBad then s
    else raise (bumpF { s with gov := { s.gov with inputBad := true } } PWR_IN_FAULT 0 0 1) cPWR 0 1)

/-- INPUT_BACK_IN_RANGE (R450). -/
def execInputBackInRange (s : State) : Host.Outcome State Fault Refusal :=
  .next (if s.gov.inputBad then { s with gov := { s.gov with inputBad := false, backAt := s.time.tempoNo } } else s)

/-- GOVERNOR_ADMIT (R452): at a boundary, once, with the last tempo's voltage in mV, current in mA and power in W. -/
def execGovernorAdmit (mv : Fin 65536) (ma : Fin (2 ^ 20)) (w : Fin 65536) (s : State) : Host.Outcome State Fault Refusal :=
  .next (governorAdmit s mv ma w)

/-- CAP_REACHED (R453): after two tempos above the cap the die with the highest measured draw, which the command names,
goes one ratio step down. -/
def execCapReached (d : Fin 8) (s : State) : Host.Outcome State Fault Refusal :=
  .next (if s.gov.overCap < 2 then s
    else
      let s := { s with
        gov := { s.gov with overCap := 0 }
        ratios := SMap.set s.ratios 0 (8 + d) (min 2 (SMap.get s.ratios 0 (8 + d) + 1)) }
      raise (noteRatio s d) cPWR 0 3)

/-- A write of `PWR_DIE_CLK` (R454): every die's ratio follows. -/
def dieClkWrite (s : State) : State := forAll (List.range 8) s noteRatio

/-- A write of `PWR_HALF_CLK` (R455). -/
def halfClkWrite (s : State) : State := forAll [0, 1] s followHalf

/-! ## Levels (R458, R459) -/

/-- The temperature channels of a unit: a site's die or stack, or, from 16 on, the Canvas channels of a half. -/
def unitChans (u : Nat) : List Nat :=
  if u < 16 then
    match siteDie u, siteStack u with
    | some d, _ => (List.range 48).map fun i => 48 * d + i
    | _, some k => (List.range 14).map fun i => 448 + 14 * k + i
    | _, _ => []
  else ((List.range 16).filter fun x => halfOf x == u - 16).flatMap fun x => (List.range 8).map fun i => 592 + 8 * x + i

/-- The key of a unit's thermal ratio: a die, a half, or the burst limit of a stack. -/
def unitRatio (u : Nat) : Nat :=
  if u < 16 then
    match siteDie u, siteStack u with
    | some d, _ => d
    | _, some k => 24 + k
    | _, _ => 32
  else u

/-- The readings of a unit's temperature channels that have not failed. -/
def unitTemps (s : State) (u : Nat) : List Int :=
  ((unitChans u).filter fun ch => !SMap.get s.therm.failed false ch).filterMap (chTemp s)

/-- Does a channel of a unit reach a temperature in °C. -/
def unitHot (s : State) (u c : Nat) : Bool := (unitTemps s u).any fun t => decide ((c : Int) * 10 ≤ t)

/-- The highest threshold that a test reaches: 0 none, 1 WATCH, 2 ACT, 3 HALT. -/
def reach (s : State) (p : Nat → Bool) : Nat :=
  if p (getF s THM_ROR_HALT_RATE 0 0) then 3
  else if p (getF s THM_ROR_ACT_RATE 0 0) then 2
  else if p (getF s THM_ROR_WATCH_RATE 0 0) then 1 else 0

/-- The fast path (R458): the mean of the heat rate over the last WIN tempos. -/
def fastLevel (s : State) (site : Nat) : Nat :=
  let win := getF s THM_FAST_WIN 0 0
  let sum := ((SMap.get s.therm.heat [] site).take win).foldl (· + ·) (0 : Int)
  reach s fun thr => decide (((thr * win : Nat) : Int) ≤ sum)

/-- The level in force of a unit, as `THM_LEVEL` or `THM_HALF_LEVEL` shows it. -/
def levelOf (s : State) (u : Nat) : Nat :=
  if u < 16 then bitsOf (getF s THM_LEVEL 0 0) (2 * u + 1) (2 * u)
  else getF s (if u = 16 then THM_HALF_LEVEL_WEST else THM_HALF_LEVEL_EAST) 0 0

def showLevel (s : State) (u lv : Nat) : State :=
  if u < 16 then setF s THM_LEVEL 0 0 (getF s THM_LEVEL 0 0 - levelOf s u * 4 ^ u + lv * 4 ^ u)
  else setF s (if u = 16 then THM_HALF_LEVEL_WEST else THM_HALF_LEVEL_EAST) 0 0 lv

/-- A unit's thermal ratio given a code; what it limits follows. -/
def thermRatio (s : State) (u r : Nat) : State :=
  let k := unitRatio u
  let s := { s with ratios := SMap.set s.ratios 0 k r }
  if k < 8 then noteRatio s k else if 16 ≤ k ∧ k < 18 then followHalf s (k - 16) else s

/-- A unit takes the level of its two paths (R459): a level rises at once, with its events and effects. -/
def applyLevel (s : State) (u : Nat) : State :=
  let old := levelOf s u
  let new := max (SMap.get s.therm.slow 0 u) (if u < 16 then fastLevel s u else 0)
  let s := if new = old then s else showLevel s u new
  let s := forAll ([1, 2, 3].filter fun l => decide (old < l) && decide (l ≤ new)) s fun s l => raise s cTHM 0 (l - 1)
  let s := if new = 0 then s else { s with therm := { s.therm with noisy := SMap.set s.therm.noisy false u true } }
  let want := new - 1
  let s := if SMap.get s.ratios 0 (unitRatio u) < want then thermRatio s u want else s
  let s := if 2 ≤ new ∧ old < 2 ∧ u < 16 then calAct s u else s
  let at_ := s.therm.haltAt
  let halt := if new = 3 ∧ (SMap.find at_ u).isNone then SMap.insert at_ u (s.time.tempoNo + 1)
    else if new < 2 then SMap.erase at_ u else at_
  { s with therm := { s.therm with haltAt := halt } }

/-! ## Stops (R460 to R462) -/

/-- The runs of sampler sets with a member at a site, and the rounds led from there, end with FENCED (R379, R460). -/
def samplersFence (s : State) (site : Nat) : State :=
  match siteDie site with
  | none => s
  | some d =>
    let s := forAll (List.range 8) s fun s c => if gmbLead s c = d then gmbStop s c .fenced else s
    forAll (List.range 8) s fun s x => if smpLead s x = x ∧ (smpMembers s x).contains d then smpStop s x .fenced else s

/-- One step of a die's ratio towards 1/4 (R461). -/
def ratioDown (s : State) (d : Nat) : State :=
  let r := getF s CDI_CLK_RATIO d 0
  if r < 2 then setRatio s d (r + 1) else s

/-- A site is to stop (R460): fenced, its sequencer and cores stop, its items may complete within the drain. A die
emergency stop (R461), `hard`, has a drain of 0 and lowers the ratio step by step; it cuts short an orderly stop. -/
def siteStop (s : State) (site : Nat) (hard : Bool) : State :=
  let now := s.time.tempoNo
  let ceil := fun (s : State) => match siteDie site with
    | some d => if hard then raise (ratioDown { s with ratios := SMap.set s.ratios 0 d 2 } d) cTHM 0 5 else s
    | none => s
  match SMap.find s.stops site with
  | some r =>
    if hard ∧ !r.hard ∧ !r.parked then
      ceil { s with stops := SMap.insert s.stops site { r with drain := min r.drain (now - r.tempo0), hard := true } }
    else s
  | none =>
    let r : StopRec := ⟨now, if hard then 0 else getF s THM_STOP_DRAIN 0 0, false, hard⟩
    let s := raise { s with stops := SMap.insert s.stops site r } cTHM 0 3
    let s := seqStop s site
    let s := forAll (siteCores site) s fun s c =>
      let w := (getCore s c).wait
      let s := stopCore (modCore s c fun k => { k with wait := none }) c
      modCore s c fun k => { k with wait := w }
    ceil (samplersFence s site)

/-- STOP_DRAIN_LIMIT (R460): what is open is absorbed, the site is parked and its cores go to OFF. -/
def execStopDrainLimit (site : Fin 16) (s : State) : Host.Outcome State Fault Refusal :=
  .next (match SMap.find s.stops site with
    | none => s
    | some r =>
      if !atBoundary s ∨ r.parked ∨ s.time.tempoNo < r.tempo0 + r.drain then s
      else
        let s := absorbSite s site .fenced
        let s := siteUnassigned (govDrop s (govOfSite site)) site
        { s with stops := SMap.insert s.stops site { r with parked := true } })

/-- The end of a stop, at the boundaries after its drain (R460). -/
def stopBoundary (s : State) (site : Nat) (r : StopRec) : State :=
  let n := s.time.tempoNo
  let s := match siteDie site with
    | some d => if r.hard ∧ r.tempo0 < n then ratioDown s d else s
    | none => s
  if !r.parked ∨ n < r.tempo0 + r.drain + 1 then s
  else
    let s := match siteStack site with
      | some k => putStack s k { getStack s k with asleep := true }
      | none => s
    if n < r.tempo0 + r.drain + 2 ∨ hasBit (getF s THM_STOPPED 0 0) site then s
    else raise (setF s THM_STOPPED 0 0 (setBit (getF s THM_STOPPED 0 0) site)) cTHM 0 4

/-- A die goes to a ratio at least as low as a code, for heat. -/
def shed (s : State) (d r : Nat) : State :=
  let s := { s with ratios := SMap.set s.ratios 0 d (max r (SMap.get s.ratios 0 d)) }
  if getF s CDI_CLK_RATIO d 0 < r then setRatio s d r else s

/-- The cores of a die are OFF. -/
def dieOff (s : State) (d : Nat) : State :=
  forAll (siteCores (dieSite d)) (govDrop s (govOfSite (dieSite d))) fun s c =>
    let st := coreState s c
    if st = csFailed ∨ st = csSpare ∨ st = csOff then s else setCoreState (scrambleCore (loseScratch s c) c) c csOff

/-- Step `n` of a module emergency stop (R462). -/
def estopStep (s : State) (n : Nat) : State :=
  if n < 8 then shed s n 1
  else if n < 16 then shed s (n - 8) 2
  else if n < 24 then dieOff s (n - 16)
  else if n < 32 then putStack s (n - 24) { getStack s (n - 24) with asleep := true }
  else if n = 32 then
    let s := sitesReset s (List.range 16)
    let now := s.time.tempoNo
    let s := forAll (List.range 8) s fun s p => putReset s p (some ⟨some now, true, false, true, false⟩)
    raise s cPWR 0 2
  else s

/-- A module emergency stop begins, with its cause (R462). -/
def estopBegin (s : State) (cause : Nat) : State :=
  if s.therm.estop.isSome then s
  else estopStep (setF { s with therm := { s.therm with estop := some s.time.tempoNo } } PWR_ESTOP_CAUSE 0 0 cause) 0

/-- MODULE_ESTOP (R450, R462): the input is below 34 V for 10 µs (cause 1) or above 46 V (cause 2), or the coolant flow is
below its limit (cause 4, which a round finds). -/
def execModuleEstop (cause : Fin 5) (s : State) : Host.Outcome State Fault Refusal :=
  .next (if cause = 1 ∨ cause = 2 then
      let s := if s.gov.inputBad then s
        else bumpF { s with gov := { s.gov with inputBad := true } } PWR_IN_FAULT 0 0 1
      estopBegin s cause
    else if cause = 4 then estopBegin s 4 else s)

/-- The tempos in FEEDING of the comb sources (R289). -/
def feedTempo (s : State) : State :=
  forAll ((List.range 6).filter fun i => getF s LSR_STAT_STATE i 0 == 3) s fun s i =>
    { s with therm := { s.therm with feed := SMap.set s.therm.feed 0 i (SMap.get s.therm.feed 0 i + 1) } }

/-- What a boundary brings to stops (R460 to R462), and to the hours of the comb sources. -/
def thermBoundary (s : State) : State :=
  let s := feedTempo s
  let s := forAll s.stops s fun s e => stopBoundary s e.1 e.2
  match s.therm.estop with
  | some t => if t < s.time.tempoNo then estopStep s (s.time.tempoNo - t) else s
  | none => s

/-! ## The fast path (R458, R459) -/

/-- THERMAL_FAST_CHECK (R458, R459): once at a boundary, every site takes its level, and a HALT held for STOP_WAIT tempos
with the level at ACT or above stops the site. -/
def execThermalFastCheck (s : State) : Host.Outcome State Fault Refusal :=
  .next (if !atBoundary s ∨ s.therm.fastAt = s.time.tempoNo + 1 then s
    else
      let s := { s with therm := { s.therm with fastAt := s.time.tempoNo + 1 } }
      forAll (List.range 16) s fun s x =>
        let h := (toSigned 16 (getF s PRT_HEAT_RATE_RATE x 0) :: SMap.get s.therm.heat [] x).take 15
        let s := applyLevel { s with therm := { s.therm with heat := SMap.set s.therm.heat [] x h } } x
        match SMap.find s.therm.haltAt x with
        | some t =>
          if t + getF s THM_FAST_STOP_WAIT 0 0 ≤ s.time.tempoNo + 1 ∧ 2 ≤ levelOf s x then siteStop s x false else s
        | none => s)

/-! ## The housekeeping round (R457 to R463) -/

/-- The level of one channel's change of `d` tenths of a degree in `n` tempos (R458). -/
def rateLevel (s : State) (d : Int) (n : Nat) : Nat := reach s fun thr => decide (((thr * n : Nat) : Int) ≤ d * 100)

/-- The slow level of a unit from the readings before and after: a held channel neither raises nor clears (R469). -/
def slowLevel (s : State) (old : SMap Nat) (n u : Nat) : Nat :=
  let chs := (unitChans u).filter fun ch => !SMap.get s.therm.failed false ch
  let fresh := chs.foldl (fun a ch =>
    match chTemp s ch, SMap.find old ch with
    | some t, some v =>
      if v / 2 ^ 16 = 0 ∧ !chHeld s ch then max a (rateLevel s (t - toSigned 16 (v % 2 ^ 16)) n) else a
    | _, _ => a) 0
  if chs.any (chHeld s) then max fresh (SMap.get s.therm.slow 0 u) else fresh

/-- Whole degrees of the hottest of some readings, 0 to 255. -/
def hottest (ts : List Int) : Nat := min 255 ((ts.foldl max 0) / 10).toNat

/-- What the round finds of the temperatures: levels, stops and maxima (R458, R459). -/
def roundHeat (s : State) (old : SMap Nat) (n : Nat) : State :=
  let s := forAll (List.range 18) s fun s u =>
    applyLevel { s with therm := { s.therm with slow := SMap.set s.therm.slow 0 u (slowLevel s old n u) } } u
  let s := forAll (List.range 16) s fun s x =>
    if unitHot s x (getF s THM_CEIL_CEIL_C 0 0) then siteStop s x (siteDie x).isSome
    else if unitHot s x (getF s THM_CEIL_STOP_C 0 0) then siteStop s x false else s
  let of := fun (us : List Nat) => hottest (us.flatMap (unitTemps s))
  let dies := of ((List.range 8).map dieSite)
  let stackMax := of ((List.range 8).map stackSite)
  let cool := hottest (((List.range 16).map fun i => 992 + i).filterMap (chTemp s))
  let s := setF (setF s THM_MAX_DIE_C 0 0 dies) THM_MAX_STACK_C 0 0 stackMax
  let canvas := of [16, 17]
  let s := setF (setF s THM_MAX_CANVAS_C 0 0 canvas) THM_MAX_COOLANT_C 0 0 cool
  forAll (List.range 8) s fun s k =>
    let layers := ((List.range 13).map fun i => 448 + 14 * k + i).filterMap (chTemp s)
    match layers with
    | [] => s
    | t :: ts => stackTemp s k (ts.foldl max t)

/-- One round's restores (R453, R459): a unit that has been quiet gets one step of its ratio back, through the governor; so
does a die lowered for the cap while the input stays 10 % below it. -/
def roundRestore (s : State) : State :=
  let s := forAll (List.range 18) s fun s u =>
    let noisy := SMap.get s.therm.noisy false u
    let hot := match getF s THM_CEIL_STOP_C 0 0 with
      | c => (unitTemps s u).any fun t => decide (((c : Int) - 10) * 10 ≤ t)
    let q := if noisy ∨ hot then 0 else SMap.get s.therm.quiet 0 u + 1
    let calm := if noisy then 0 else SMap.get s.therm.calm 0 u + 1
    let r := SMap.get s.ratios 0 (unitRatio u)
    let back := decide (getF s THM_RESTORE 0 0 ≤ q) && decide (0 < r) && s.therm.estop.isNone && !siteFenced s u
    let s := { s with therm := { s.therm with
      noisy := SMap.set s.therm.noisy false u (decide (levelOf s u ≠ 0))
      calm := SMap.set s.therm.calm 0 u calm
      quiet := SMap.set s.therm.quiet 0 u (if back then 0 else q) } }
    if back then raise (thermRatio s u (r - 1)) cTHM 0 10 else s
  let peak := getF s PWR_IN_P_PEAK 0 0
  let low := decide (peak * 10 ≤ getF s PWR_CAP 0 0 * 9)
  let s := forAll (List.range 8) s fun s d =>
    let r := SMap.get s.ratios 0 (8 + d)
    if low ∧ 0 < r then raise (noteRatio { s with ratios := SMap.set s.ratios 0 (8 + d) (r - 1) } d) cTHM 0 10 else s
  setF s PWR_IN_P_PEAK 0 0 0

/-- What the round finds of one comb source: line powers, drive current, hours (R281, R289, R290). -/
def roundSource (s : State) (i : Nat) (lines : List (Nat × Nat)) : State :=
  let s := match ((List.range 16).map fun k => 736 + 16 * i + k).findSome? fun ch => match SMap.find s.therm.chans ch with
      | some v => if v / 2 ^ 16 = 2 then some (v % 2 ^ 16) else none
      | none => none with
    | some v => setF s LSR_DRIVE i 0 v
    | none => s
  let f := SMap.get s.therm.feed 0 i
  let hour := 3600000000
  let s := bumpF { s with therm := { s.therm with feed := SMap.set s.therm.feed 0 i (f % hour) } } LSR_HOURS i 0 (f / hour)
  let good := lines.filter fun l => !hasBit (getF s LSR_LINE_FAIL i 0) l.1
  match good with
  | [] => s
  | l :: rest =>
    let thr := getF s LSR_POWER_THR i 0
    let was := getF s LSR_POWER_MIN_UW i 0
    let min_ := rest.foldl (fun a x => min a x.2) l.2
    let s := setF (setF s LSR_POWER_MIN_UW i 0 min_) LSR_POWER_MEAN_UW i 0 ((good.map (·.2)).sum / good.length)
    let s := if min_ < 2 * thr ∧ 2 * thr ≤ was then raise s cLSR i 2 else s
    forAll good s fun s x => if x.2 < thr then lineFail s i x.1 else s

/-- What is counted within a round starts again: mislocks (R277), errors of seam wires (R546), corrected errors of
SRAM units (R413), peaks (R285). -/
def roundCounts (s : State) : State :=
  let s := forAll (List.range 16) s fun s x => setF s PRT_HEAT_RATE_PEAK x 0 0
  { s with
    ringData := s.ringData.filter fun e => e.1 % 4 != 0
    seamErrs := []
    sramCe := [] }

/-- The power received at a port, over its active wavelengths (R368). -/
def roundPort (s : State) (n : Nat) (powers : List (Nat × Nat)) : State :=
  let on := (powers.filter fun p => hasBit (getF s VLK_LMAP_RX n 0) p.1).map (·.2)
  match on with
  | [] => s
  | x :: rest => setF (setF s VLK_RX_POWER_MEAN_UW n 0 (on.sum / on.length)) VLK_RX_POWER_MIN_UW n 0 (rest.foldl min x)

/-- Is the coolant's flow below its limit of 2.0 l/min (R462, R566). -/
def flowLow (s : State) : Bool :=
  (List.range 16).any fun i => match SMap.find s.therm.chans (992 + i) with
    | some v => v / 2 ^ 16 == 4 && !SMap.get s.therm.failed false (992 + i) && decide (toSigned 16 (v % 2 ^ 16) < 2000)
    | none => false

/-- HOUSEKEEPING_ROUND (R87, R457): at the boundary of a tempo whose count is a multiple of 2,000, with the readings as (channel, kind, value) and the lines of the comb sources
as (source, line, µW), the powers received by the ports as (port, wavelength, µW). `late` says instead that a round has not completed when the next falls due. A channel that is held
or has failed keeps its value, and so does one without a reading. -/
def execHousekeepingRound (late : Bool) (readings : List (Fin 1024 × Fin 5 × BitVec 16))
    (lines : List (Fin 6 × Fin 64 × Fin 65536)) (powers : List (Fin 16 × Fin 18 × Fin 65536)) (s : State) : Host.Outcome State Fault Refusal :=
  .next (if !atBoundary s ∨ s.time.count % 2000 ≠ 0 ∨ managerDown s 0 then s
    else if late then raise s cTHM 0 7
    else if s.therm.lastRound = s.time.tempoNo + 1 then s
    else
      let n := s.time.tempoNo + 1 - s.therm.lastRound
      let old := s.therm.chans
      let chans := readings.foldl (fun m r =>
        if chHeld s r.1 ∨ SMap.get s.therm.failed false r.1 then m else SMap.insert m r.1 (r.2.1.val * 2 ^ 16 + r.2.2.toNat)) old
      let s := { s with therm := { s.therm with chans := chans, rise := [], lastRound := s.time.tempoNo + 1 } }
      let s := roundHeat s old n
      let s := roundRestore s
      let s := forAll (List.range 6) s fun s i =>
        roundSource s i ((lines.filter fun l => l.1 == i).map fun l => (l.2.1.val, l.2.2.val))
      let s := forAll (List.range 16) s fun s n =>
        roundPort s n ((powers.filter fun l => l.1 == n).map fun l => (l.2.1.val, l.2.2.val))
      let s := roundCounts s
      let s := wrapF s THM_ROUND_CNT 0 0 1
      let s := if flowLow s then estopBegin s 4 else s
      raise s cTHM 0 6)

/-! ## The end of an orderly stop (R463) -/

/-- May a stop of a site end: stopped, cool, and calm for two rounds. -/
def stopCool (s : State) (site : Nat) : Bool :=
  hasBit (getF s THM_STOPPED 0 0) site && decide (2 ≤ SMap.get s.therm.calm 0 site) &&
  (unitTemps s site).all fun t => decide (t < ((getF s THM_CEIL_STOP_C 0 0 : Int) - 20) * 10)

/-- A site leaves its stop: it alone takes the steps of R422, with its thermal ratio at 1/4. A site that no partition holds
stays as R424 has it. -/
def stopEnd (s : State) (site : Nat) : State :=
  let s := setF { s with
    stops := SMap.erase s.stops site
    therm := { s.therm with haltAt := SMap.erase s.therm.haltAt site } } THM_STOPPED 0 0 (clearBit (getF s THM_STOPPED 0 0) site)
  let s := match siteDie site with
    | some d => shed { s with ratios := SMap.set s.ratios 0 d 2 } d 2
    | none => s
  let s := match siteStack site with
    | some k => putStack s k { getStack s k with asleep := false }
    | none => s
  if (partOf s site).isNone then s
  else
    let s := putReset s (16 + site) (some ⟨none, false, false, false, false⟩)
    if atBoundary s then resetBegin s (16 + site) else s

/-- A write of `THM_STOP_CLR` (R463); the bits of sites without a stop have no effect. -/
def stopClear (s : State) (v : Nat) : State :=
  let asked := (List.range 16).filter fun x => hasBit v x && siteFenced s x
  let s' := forAll asked s fun s x => if stopCool s x then stopEnd s x else s
  if asked.all (stopCool s) then s' else raise s' cTHM 0 8

/-- A write of 1 to `PWR_ESTOP.GO` (R462). -/
def estopGo (s : State) : State := estopBegin s 3

end Sys2Proof.Machine
end

