-- ==== Sys2Proof/Machine/Boundary.lean ====
section
/-! DEFINITION. Machine/Boundary.lean: the passing of time: what a core clock, a beat and a tempo boundary bring to every
unit (R57, log entry 1, DESIGN CHOICE). -/

namespace Sys2Proof.Machine

/-- What the start of a beat brings: idle circuits are filled with training words (R255); wavelengths with too many corrections fail (R357); links, tags and deduplication entries waited for are counted (R317, R342, R351), and at beat 15
the stacks in reset go on (R242). -/
def beatCounts (s : State) : State :=
  let s := countDedupWaits (countTagWaits (countStalls (lambdaLimits (idleTrain s))))
  if s.time.beat = 15 then forAll (List.range 8) s stackBeat else s

/-- The resets whose tempo 0 this boundary is (R418, R422). -/
def resetsBegin (s : State) : State := forAll (s.resets.map (·.1)) s resetBegin

/-- The next tempo boundary, with the mark that came with it, if one did, and the frame bit that it carried (R52, R57). -/
def tempoBoundary (s : State) (mark : Option Bool) : State :=
  let s := tempoAdvance (hostFlushAll s) mark
  let s := forAll (List.range 8) (fillBuckets s) stackBoundary
  let s := moduleBoundary (resetsBegin (canvasBoundary (calBoundary (suspendDue s))))
  beatCounts (msixBoundary (thermBoundary (updBoundary s)))

/-- TEMPO_BOUNDARY (R57): the boundary that ends the present tempo. -/
def execTempoBoundary (mark : Option Bool) (s : State) : Host.Outcome State Fault Refusal := .next (tempoBoundary s mark)

/-- Does a mark received now set the boundary: in the SOURCED role, while the device is LOCKED, within 2 beats of the boundary
expected (R52, R67), and while it acquires the Tempo, but where a received count and phase are still to be compared
(R50, R63). In holdover the boundaries are the local oscillator's (R68; log entry 129, DEDUCED). -/
def markSets (s : State) : Bool :=
  let st := tmpState s
  s.tempo.role == roleSourced &&
    ((st == tmLocked && decide (98 ≤ s.time.beat)) || (st == tmAcquiring && !(framedRole s && s.tempo.compare)))

/-- TEMPO_MARK (R52): in the SOURCED role the mark received sets the boundary and carries one frame bit. -/
def execTempoMark (bit : Bool) (s : State) : Host.Outcome State Fault Refusal :=
  .next (if markSets s then tempoBoundary s (some bit) else s)

/-- One core clock passes (R57): 16 to a beat and 100 beats to a tempo. The last clock of a tempo lasts until the boundary
command (log entry 1, DESIGN CHOICE). -/
def tick (s : State) : State :=
  let t := s.time
  if t.clk < 15 then hostFlushAll { s with time := { t with clk := t.clk + 1 } }
  else if t.beat < 99 then beatCounts (suspendDue (hostFlushAll { s with time := { t with beat := t.beat + 1, clk := 0 } }))
  else hostFlushAll s

end Sys2Proof.Machine
end

