-- ==== Sys2Proof/Machine/Regs.lean ====
section
/-! DEFINITION. Machine/Regs.lean: what a register access finds: the page and fields of an offset, the values read, the
checks of R530, and what a write stores (R10 to R15, R493, R494, R522, R528 to R542). -/

namespace Sys2Proof.Machine

/-! ## Offsets and fields (R528, R535) -/

/-- Class, instance and register of a BAR0 offset. -/
def ofsClass (o : Nat) : Nat := o / 2 ^ 23
def ofsInst (o : Nat) : Nat := o / 2 ^ 12 % 2 ^ 11
def ofsReg (o : Nat) : Nat := o % 2 ^ 12

/-- The BAR0 offset of a register. -/
def regOfs (c inst reg : Nat) : Nat := c * 2 ^ 23 + inst * 2 ^ 12 + reg

/-- Which of a field's registers lies at an offset. -/
def Field.indexAt (f : Field) (o : Nat) : Option Nat :=
  if o < f.off then none
  else
    let d := o - f.off
    if f.cnt ≤ 1 then (if d = 0 then some 0 else none)
    else if d % f.stride = 0 ∧ d / f.stride < f.cnt then some (d / f.stride)
    else none

/-- Is a field one half of a `_LO`/`_HI` pair. -/
def Field.pair (f : Field) : Bool := decide (32 ≤ f.hi)

/-- The fields whose register is at an offset of the page. -/
def fieldsAt (c o : Nat) : List (Field × Nat) := (blockFields c).filterMap fun f => (f.indexAt o).map fun n => (f, n)

/-- The pair whose `_HI` register is at an offset. -/
def hiAt (c o : Nat) : Option (Field × Nat) :=
  if o < 4 then none else (fieldsAt c (o - 4)).find? fun p => p.1.pair

/-- The pair whose `_LO` register is at an offset. -/
def loAt (c o : Nat) : Option (Field × Nat) := (fieldsAt c o).find? fun p => p.1.pair

/-- The event bits that a page's chapter defines (R535). -/
def evtBits (c : Nat) : Nat := if c = cMGT then 0xFF007F else 2 ^ (classRow c).evtTop - 1

/-! ## Values read -/

/-- The latch and the holding register of a requester for a pair (R14, R15). -/
def pairKey (q : Requester) (c inst o : Nat) : Nat := ((Requester.no q * 32 + c) * 2048 + inst) * 4096 + o

/-- The log entry latched for a requester. -/
def latched (s : State) (q : Requester) (w : Nat) : Nat :=
  match SMap.find s.errLatch (Requester.no q) with
  | some r => r.word w
  | none => 0

/-- Count, beat and clock as a requester reads them (R60). -/
def tmpUpper (s : State) (q : Requester) : Nat :=
  let l := SMap.get s.tmpLatch 0 (Requester.no q)
  if l = 0 then s.time.count / 2 ^ 32 else (l - 1) / 2 ^ 12
def tmpClk (s : State) (q : Requester) : Nat :=
  let l := SMap.get s.tmpLatch 0 (Requester.no q)
  if l = 0 then s.time.clk else (l - 1) / 2 ^ 8 % 16
def tmpBeat (s : State) (q : Requester) : Nat :=
  let l := SMap.get s.tmpLatch 0 (Requester.no q)
  if l = 0 then s.time.beat else (l - 1) % 2 ^ 8

/-- An entry of a fuse bank (R407, R428). -/
def fuseAt (s : State) : Nat :=
  let n := getF s FUS_IDX_ENTRY 0 0
  if getF s FUS_IDX_BANK 0 0 = 0 then s.fuseFactory.getD n 0 else s.fuseBank.getD n 0

/-- The fields of the Tempo, thermal, calibration and log pages that are read from elsewhere in the state. -/
def viewModule (s : State) (q : Requester) (f : Field) : Option Nat :=
  if f = TMP_BEAT_CLK then some (tmpClk s q)
  else if f = TMP_BEAT_BEAT then some (tmpBeat s q)
  else if f = MGT_PART_MAP then some (s.mapNext.getD (getF s MGT_PART_MAP 0 0))
  else if f = THM_CH_VAL_STALE then
    some (if chHeld s (getF s THM_CH_IDX 0 0) || SMap.get s.therm.failed false (getF s THM_CH_IDX 0 0) then 1 else 0)
  else if f = THM_CH_VAL_FAILED then some (if SMap.get s.therm.failed false (getF s THM_CH_IDX 0 0) then 1 else 0)
  else if f = THM_CH_VAL_KIND then some (SMap.get s.therm.chans 0 (getF s THM_CH_IDX 0 0) / 2 ^ 16)
  else if f = THM_CH_VAL_VALUE then some (SMap.get s.therm.chans 0 (getF s THM_CH_IDX 0 0) % 2 ^ 16)
  else if f = CAL_STAT_HELD then some (min 255 ((List.range 1024).filter (chHeld s)).length)
  else if f = SEC_IMG_STAT_BUSY then some (if s.verify.isSome then 1 else 0)
  else if f = ERR_STAT_FIRST_VALID then some (if s.log.first.isSome then 1 else 0)
  else if f = ERR_STAT_USED then some s.log.ring.length
  else if f = ERR_RD_IDX then some (SMap.get s.errIdx 0 (Requester.no q))
  else if f = ERR_PEND then some (((List.range 26).filter fun c => !(signalled s c).isEmpty).foldl setBit 0)
  else if f = ERR_FIND_FOUND then
    some (if (signalled s (getF s ERR_FIND_CLASS 0 0)).any fun i => decide (getF s ERR_FIND_START 0 0 ≤ i) then 1 else 0)
  else if f = ERR_FIND_INST then
    some (((signalled s (getF s ERR_FIND_CLASS 0 0)).find? fun i => decide (getF s ERR_FIND_START 0 0 ≤ i)).getD 0)
  else if f = FUS_DATA then some (fuseAt s)
  else if f = FAB_RT_DATA then some (SMap.get s.routes 0 (getF s FAB_RT_IDX_VER 0 0 * 16384 + getF s FAB_RT_IDX_NODE 0 0))
  else if f = SEA_MAP_DATA_STATE then some (SMap.get s.seam 0 (getF s SEA_MAP_IDX 0 0) / 2 ^ 12)
  else if f = SEA_MAP_DATA_PEER_VALID then some (bitOf (SMap.get s.seam 0 (getF s SEA_MAP_IDX 0 0)) 11)
  else if f = SEA_MAP_DATA_PEER then some (SMap.get s.seam 0 (getF s SEA_MAP_IDX 0 0) % 2 ^ 11)
  else none

/-- The fields of pages with instances that are read from elsewhere in the state. -/
def viewUnit (s : State) (f : Field) (i n : Nat) : Option Nat :=
  if f = LAN_STAT_FREE then some (if !bootDone s 4 then 0 else ((List.range 64).filter fun l => occState s i l == ocFree).length)
  else if f = PRT_RING_TX_HEATER then some (heaterOf s 0 i n)
  else if f = PRT_RING_RX_HEATER then some (heaterOf s 1 i n)
  else if f = SYN_VAL then some (getSync s (synObj s i)).val
  else if f = SYN_THR then some (getSync s (synObj s i)).thr
  else if f = SYN_CFG_SUBS then some (getSync s (synObj s i)).subs
  else if f = SYN_CFG_REACHED then some (if reached (getSync s (synObj s i)).val (getSync s (synObj s i)).thr then 1 else 0)
  else if f = SYN_CFG_THR_EVT then some (if (getSync s (synObj s i)).thrEvt then 1 else 0)
  else if (f = CDI_CORE_CNT_SPARES ∨ f = CDI_CORE_CNT_CORES) ∧ (!bootDone s 5 ∨ siteFailed s (dieSite i)) then some 0
  else if f = CDI_CORE_CNT_SPARES then
    some ((List.range 4).map fun cl => ((List.range 4).filter fun r =>
      getF s CLU_ROW_MAP_SPARE_FOR (4 * i + cl) r == 15 && getF s CLU_ROW_MAP_SPARE_OK (4 * i + cl) r == 1).length).sum
  else if f = CDI_CORE_CNT_RUNNING then some ((List.range 160).filter fun c => coreState s (160 * i + c) == csRunning).length
  else if f = CDI_CORE_CNT_CORES then
    some ((List.range 4).map fun cl => ((List.range 4).map fun r => 9 - popCount 9 (getF s CLU_ROW_MAP_ABSENT (4 * i + cl) r)).sum).sum
  else if f = CLU_ROW_STATE then
    some (((List.range 10).map fun p => coreState s (i / 4 * 160 + i % 4 * 40 + n * 10 + p) * 8 ^ p).sum)
  else if (f = COR_MAP_HOLDS ∨ f = COR_MAP_LID) ∧ !bootDone s 5 then some 0
  else if f = COR_BANK_SET_INBOUND ∧ getF s COR_BANK_SET_CLASS i n = 3 then some 3
  else if f = CLU_BANK_SET_INBOUND ∧ getF s CLU_BANK_SET_CLASS i n = 3 then some 3
  else if f = CLU_BANK_SET_ID ∧ getF s CLU_BANK_SET_CLASS i n ≠ 1 then some 0
  else if f = COR_MAP_HOLDS then some (if (lidOfCor s i).isSome then 1 else 0)
  else if f = COR_MAP_LID then some ((lidOfCor s i).getD 0)
  else if f = COR_PC then some ((getCore s i).pc / 8)
  else if f = COR_ASW then some (getCore s i).asw
  else if f = COR_CB_VALID then some ((getCore s i).cbValid / 2 ^ (64 * n) % 2 ^ 64)
  else if f = MCH_TRAIN_STATE ∧ getF s MCH_WIDTH_MODE_MODE i 0 = 3 ∧ bootDone s 2 then
    some ((Config.freeValue (2 ^ 70 + nowClk s * 1024 + i)).toNat % 6)
  else if f = PRT_NOCIRC then some (noCircMask s i)
  else if f = MST_RST_RETRY then some (if stackResetting s i then min 65535 (retryAfter s (stackSite i)) else 0)
  else none

/-- What a field reads as: 0 where it is write-only. -/
def viewF (s : State) (q : Requester) (f : Field) (i n : Nat) : Nat :=
  if f.acc = .wo then 0
  else if f.cls = cERR ∧ f.off = ERR_RD_DATA.off then latched s q n
  else match if (classRow f.cls).siteScoped ∨ f.cls = cLAN then viewUnit s f i n else viewModule s q f with
    | some v => v % 2 ^ f.width
    | none => getF s f i n

/-- The upper half of a pair, latched or live (R14, R60). -/
def readHi (s : State) (q : Requester) (f : Field) (i n : Nat) : Nat :=
  if f = TMP_COUNT then tmpUpper s q
  else
    let l := SMap.get s.hiLatch 0 (pairKey q f.cls i (f.off + n * f.stride))
    if l = 0 then viewF s q f i n / 2 ^ 32 else l - 1

/-- A read of `_LO`: the lower half, and the upper half latched for the requester; of `TMP_COUNT_LO`, beat and clock too. -/
def readLo (s : State) (q : Requester) (f : Field) (i n : Nat) : State × Nat :=
  if f = TMP_COUNT then
    let l := 1 + (s.time.count / 2 ^ 32) * 2 ^ 12 + s.time.clk * 2 ^ 8 + s.time.beat
    ({ s with tmpLatch := SMap.set s.tmpLatch 0 (Requester.no q) l }, s.time.count % 2 ^ 32)
  else
    let v := viewF s q f i n
    ({ s with hiLatch := SMap.set s.hiLatch 0 (pairKey q f.cls i (f.off + n * f.stride)) (v / 2 ^ 32 + 1) }, v % 2 ^ 32)

/-- A block register read. -/
def readBlock (s : State) (q : Requester) (c i o : Nat) : State × Nat :=
  match loAt c o with
  | some p => readLo s q p.1 i p.2
  | none => match hiAt c o with
    | some p => (s, readHi s q p.1 i p.2)
    | none => (s, ((fieldsAt c o).map fun p => viewF s q p.1 i p.2 * 2 ^ p.1.lo).sum)

/-- The events raised in this tempo or the one before (R535). -/
def evtRaw (s : State) (c i : Nat) : Nat :=
  ((List.range 32).filter fun b =>
    let t := SMap.get s.raised 0 ((c * 2048 + i) * 32 + b)
    t != 0 && decide (s.time.tempoNo ≤ (t - 1) / 1600 + 1)).foldl setBit 0

/-- A header register read (R535). -/
def readHeader (s : State) (q : Requester) (c i o : Nat) : State × Nat :=
  let r := classRow c
  let bit := fun (b : Bool) (n : Nat) => if b then 2 ^ n else 0
  if o = 0x00 then (s, c * 2 ^ 27 + i * 2 ^ 16 + 0x100 + Config.fusedValue (2 ^ 83 + c) % 2 ^ 8)
  else if o = 0x04 then
    (s, r.blockTop * 2 ^ 20 + r.evtTop * 2 ^ 14 + bit r.sealable 13 + bit r.staleCap 12 + bit r.siteScoped 11 + r.count)
  else if o = 0x08 then (s, getF s (PG_CTRL_CNT_HOLD c) i 0 * 2 ^ 8)
  else if o = 0x0C then (s, bit (r.staleCap && pgStale s c i) 8 + pgState s c i)
  else if o = 0x10 then (s, evtRaw s c i)
  else if o = 0x14 then (s, getF s (PG_EVT_FLAG c) i 0)
  else if o = 0x18 then (s, getF s (PG_EVT_MASK c) i 0)
  else if o = 0x1C then
    (s, ((List.range 32).filter fun b => SMap.get s.forcedAt 0 ((c * 2048 + i) * 32 + b) == nowClk s + 1).foldl setBit 0)
  else if o = 0x20 then (s, getF s (PG_EVT_CNT_SEL_ALL c) i 0 * 2 ^ 8 + getF s (PG_EVT_CNT_SEL_BIT c) i 0)
  else if o = 0x24 then (s, getF s (PG_EVT_CNT c) i 0)
  else if o = 0x28 then readLo s q (PG_EVT_TEMPO c) i 0
  else if o = 0x2C then (s, readHi s q (PG_EVT_TEMPO c) i 0)
  else if o = 0x30 then
    let part := match partOfInst s c i with
      | some p => 2 ^ 27 + p * 2 ^ 24
      | none => 0
    (s, getF s (PG_OWNER_EXCL c) i 0 * 2 ^ 31 + part + getF s (PG_OWNER_KIND c) i 0 * 2 ^ 18 + getF s (PG_OWNER_VF c) i 0 * 2 ^ 10)
  else if o = 0x34 then (s, getF s (PG_SEAL_OWNER c) i 0 * 2 + getF s (PG_SEAL_RWS c) i 0)
  else if o = 0x38 then
    (s, getF s (PG_ERR_SUM_VIOL c) i 0 * 2 ^ 24 + getF s (PG_ERR_SUM_FORCED c) i 0 * 2 ^ 16 +
      getF s (PG_ERR_SUM_REASON c) i 0 * 2 ^ 12 + bit (getF s (PG_EVT_FLAG c) i 0 != 0) 2 +
      bit ((List.range 32).any fun b => hasBit (getF s (PG_EVT_FLAG c) i 0) b && unmasked s c i b) 1)
  else (s, 0)

/-- What a VF reads of the block registers of the log (R522). -/
def errShown (q : Requester) (o : Nat) : Bool :=
  match Requester.part q with
  | none => true
  | some p => o == 0x50 || (decide (0x54 ≤ o) && decide (o ≤ 0x70)) || o == 0x100 + 4 * p

/-- A register read, past its checks. -/
def regRead (s : State) (q : Requester) (c i o : Nat) : State × Nat :=
  if o < 0x40 then readHeader s q c i o
  else if c = cERR ∧ !errShown q o then (s, 0)
  else readBlock s q c i o

/-! ## Checks (R530) -/

/-- Is the rail of a site's die or stack down (R544): a stop that has come to its end, or a failed supply. -/
def railOff (s : State) (site : Nat) : Bool :=
  siteFailed s site || (match SMap.find s.stops site with
    | some r => r.parked && decide (r.tempo0 + r.drain + 1 ≤ s.time.tempoNo)
    | none => false) ||
  (match s.therm.estop with
    | some t =>
      (match siteDie site, siteStack site with
        | some d, _ => decide (t + 16 + d ≤ s.time.tempoNo)
        | _, some k => decide (t + 24 + k ≤ s.time.tempoNo)
        | _, _ => false)
    | none => false)

/-- The classes whose pages lie in a die or a stack (R544). -/
def inDie (c : Nat) : Bool := [cCDI, cCLU, cCOR, cSMP, cMST, cMCH].contains c

/-- The pages that BAR0 reaches in a module reset (R503). -/
def servedInReset (c : Nat) : Bool := [cDEV, cMGT, cARB, cTMP, cFUS, cSEC, cHST].contains c

/-- Is the access one of a host function through BAR0, rather than one of a work item. -/
def hostBar (q : Requester) (item : Bool) : Bool :=
  !item && (match q with
    | .pf => true
    | .vf _ => true
    | _ => false)

/-- The mask of R493 admits the class. -/
def maskAdmits (s : State) (q : Requester) (c : Nat) (write : Bool) : Bool :=
  let n := if write then 1 else 0
  match q with
  | .mgmt => true
  | .pf => hasBit (getF s SEC_PROT 0 n) c
  | .vf _ => hasBit (getF s SEC_PROT 0 (2 + n)) c
  | .sideband => hasBit (getF s SEC_PROT 0 (4 + n)) c

/-- The partition of the die that a context's LEAD names. -/
def leadPart (s : State) (d : Nat) : Option Nat := partOf s (dieSite d)

/-- The scope of a VF (R494), with the value written. -/
def vfScope (s : State) (p c i o : Nat) (w : Option Nat) : Bool :=
  if (classRow c).siteScoped then partOfInst s c i == some p
  else if c = cHST then w.isNone || (decide (0x100 + 0x40 * p ≤ o) && decide (o < 0x140 + 0x40 * p))
  else if c = cGMB then
    match w with
    | none => true
    | some v =>
      let x := (o - 0x100) / 0x40
      decide (0x100 ≤ o) && decide (o < 0x300) && leadPart s (gmbLead s x) == some p &&
        (o % 0x40 != 0 || leadPart s (bitsOf v (GMB_CTX_CTRL_LEAD.hi) (GMB_CTX_CTRL_LEAD.lo)) == some p)
  else if c = cERR then w.isNone
  else true

/-- Admission by masks and scope; a VF may always write `ERR_RD_IDX` (R493, R522). -/
def admitted (s : State) (q : Requester) (c i o : Nat) (w : Option Nat) : Bool :=
  (c == cERR && o == 0x50 && w.isSome && (Requester.part q).isSome) ||
  (maskAdmits s q c w.isSome && (match Requester.part q with
    | some p => vfScope s p c i o w
    | none => true))

/-- A refusal, counted, recorded and signalled (R493, R542). -/
def denyAccess (s : State) (q : Requester) (c i : Nat) : State :=
  let k := match q with
    | .pf => 0
    | .vf _ => 1
    | .sideband => 2
    | .mgmt => 3
  let vf := match Requester.part q with
    | some p => p + 1
    | none => 0
  let s := setF (setF (bumpF s SEC_DENY 0 0 1) SEC_DENY_LAST_KIND 0 0 k) SEC_DENY_LAST_VF 0 0 vf
  raiseFor (setF (setF s SEC_DENY_LAST_CLASS 0 0 c) SEC_DENY_LAST_INST 0 0 i) cSEC 0 3 .noPart

/-- An access violation (R542). -/
def violate (s : State) (q : Requester) (c i reason : Nat) : State :=
  denyAccess (setF (bumpF s (PG_ERR_SUM_VIOL c) i 0 1) (PG_ERR_SUM_REASON c) i 0 reason) q c i

/-- Is the requester the owner that `PG_OWNER` names. -/
def isOwner (s : State) (q : Requester) (c i : Nat) : Bool :=
  let k := getF s (PG_OWNER_KIND c) i 0
  match q with
  | .mgmt => k == 0
  | .pf => k == 1
  | .vf n => k == 2 && getF s (PG_OWNER_VF c) i 0 == n.val + 1
  | .sideband => k == 3

/-- The header registers that EXCL restricts (R540). -/
def exclHeader (o : Nat) : Bool := [0x08, 0x14, 0x18, 0x1C, 0x20].contains o

/-- Would a write change an RWS field that is sealed (R541). -/
def sealBreach (s : State) (c i o v : Nat) : Bool :=
  getF s (PG_SEAL_RWS c) i 0 == 1 && (fieldsAt c o).any fun p =>
    p.1.acc == .rws && bitsOf v p.1.hi p.1.lo != getF s p.1 i p.2

/-- The REASON for which ownership or a seal refuses a write; 0 none (R540, R541). Work items act with their function's
rights and are not held to EXCL. -/
def ownRefuses (s : State) (q : Requester) (item : Bool) (c i o v : Nat) : Nat :=
  let mgmt := q == .mgmt
  if o = 0x30 then (if !mgmt then 3 else if getF s (PG_SEAL_OWNER c) i 0 = 1 then 1 else 0)
  else if o = 0x34 then (if mgmt || q == .pf then 0 else 3)
  else if getF s (PG_OWNER_EXCL c) i 0 = 1 ∧ (0x40 ≤ o ∨ exclHeader o) ∧ !mgmt ∧ !item ∧ !isOwner s q c i then 2
  else if sealBreach s c i o v then 1 else 0

/-- Does a write name a core ID whose column is not one (R18): `MGT_RETIRE.LID` with GO. -/
def badCoreId (c o v : Nat) : Bool := c == cMGT && o == MGT_RETIRE_GO.off && hasBit v 31 && decide (9 ≤ v % 16)

/-- The checks of an access, in the order of R530: the first that fails decides; then a core ID that is not one (R18). -/
def regCheck (s : State) (q : Requester) (item : Bool) (ofs bytes : Nat) (w : Option Nat) : State × Option Status :=
  let c := ofsClass ofs
  let i := ofsInst ofs
  let o := ofsReg ofs
  let dark : Bool := decide (0x40 ≤ o) && inDie c && (match siteOfInst c i with
      | some x => railOff s x
      | none => false)
  if bytes ≠ 4 ∨ ofs % 4 ≠ 0 then (s, some .accessDenied)
  else if (classRow c).count ≤ i then (s, some .addressInvalid)
  else if dark then (s, some .fenced)
  else if 2 ≤ s.modRst ∧ hostBar q item ∧ !servedInReset c then (s, some .targetResetting)
  else if !admitted s q c i o w then (denyAccess s q c i, some .accessDenied)
  else match w with
    | none => (s, none)
    | some v =>
      let r := ownRefuses s q item c i o v
      if r ≠ 0 then (violate s q c i r, some .accessDenied)
      else if badCoreId c o v then (s, some .addressInvalid)
      else (s, none)

/-! ## What a write stores (R13, R535 to R541) -/

/-- The fields that a write does not store as it stands: what they do is their register's own. -/
def ownStore (f : Field) : Bool :=
  [MGT_PART_MAP, ARB_UPD_CTRL_READY, TMP_CTRL_FRAMED, TMP_CTRL_ROLE, MOV_CTRL_SWAP_ARM, PWR_DIE_CLK, THM_ROR_WATCH_RATE,
    THM_ROR_ACT_RATE, THM_ROR_HALT_RATE, THM_CEIL_STOP_C, FAB_RT_DATA, FAB_NODE_NODE, LAN_PIN, SYN_VAL, SYN_THR,
    SYN_CFG_THR_EVT, LSR_CTRL_EN, LSR_CTRL_TAKE, COR_CTRL_PWR_REQ, SMP_CTRL_MODE, SMP_TEMP, SMP_TOPP, SMP_REP_PEN, SMP_TOPK,
    GMB_CTX_CTRL_EN, GMB_CTX_COMMIT, ERR_RD_IDX, ERR_STAT_LOST_DETAIL].contains f ||
  (f.cls == cCLU && f.off == CLU_BANK_SET_GO.off) || (f.cls == cCOR && f.off == COR_BANK_SET_GO.off)

/-- One field takes its bits of a written value (R13). -/
def storeField (s : State) (f : Field) (i n v : Nat) : State :=
  let x := bitsOf v f.hi f.lo
  if ownStore f then s
  else if f = CLU_DENY_VALID ∧ SMap.get s.denyAt 0 i = nowClk s + 1 then s
  else match f.acc with
    | .rw => setF s f i n (f.stored x)
    | .rws => setF s f i n (f.stored x)
    | .w1c => setF s f i n (getF s f i n - (getF s f i n &&& x))
    | .w1s => setF s f i n (getF s f i n ||| x)
    | _ => s

/-- The events of a page raised in this clock (R13: the set wins). -/
def raisedNow (s : State) (c i : Nat) : Nat :=
  ((List.range 32).filter fun b => SMap.get s.raised 0 ((c * 2048 + i) * 32 + b) == nowClk s + 1).foldl setBit 0

/-- A forced raise (R538): it advances FORCED, and in the clock of a raise by its source it is no raise of its own. -/
def forceEvent (s : State) (c i b : Nat) : State :=
  let s := { s with forcedAt := SMap.set s.forcedAt 0 ((c * 2048 + i) * 32 + b) (nowClk s + 1) }
  bumpF (raise s c i b) (PG_ERR_SUM_FORCED c) i 0 1

/-- A write of `PG_EVT_MASK` (R539): a set flag that is unmasked is signalled. -/
def maskWrite (s : State) (c i v : Nat) : State :=
  let old := getF s (PG_EVT_MASK c) i 0
  let new := v &&& evtBits c
  let s := setF s (PG_EVT_MASK c) i 0 new
  forAll ((List.range 32).filter fun b => hasBit old b && !hasBit new b && hasBit (getF s (PG_EVT_FLAG c) i 0) b) s
    fun s b => signal s c i b .site 0

/-- A header write, past its checks (R535 to R541). -/
def writeHeader (s : State) (c i o v : Nat) : State :=
  let bits := evtBits c
  if o = 0x08 then
    let s := setF s (PG_CTRL_CNT_HOLD c) i 0 (bitOf v 8)
    if hasBit v 0 then
      setF (setF (setF s (PG_ERR_SUM_VIOL c) i 0 0) (PG_ERR_SUM_FORCED c) i 0 0) (PG_ERR_SUM_REASON c) i 0 0
    else s
  else if o = 0x14 then
    let f := getF s (PG_EVT_FLAG c) i 0
    setF s (PG_EVT_FLAG c) i 0 ((f - (f &&& v)) ||| (f &&& raisedNow s c i))
  else if o = 0x18 then maskWrite s c i v
  else if o = 0x1C then forAll ((List.range 32).filter fun b => hasBit (v &&& bits) b) s fun s b => forceEvent s c i b
  else if o = 0x20 then
    let s := setF (setF s (PG_EVT_CNT_SEL_ALL c) i 0 (bitOf v 8)) (PG_EVT_CNT_SEL_BIT c) i 0 (v % 32)
    let now := raisedNow s c i
    let n := if getF s (PG_CTRL_CNT_HOLD c) i 0 = 1 then 0
      else if hasBit v 8 then popCount 32 now else bitOf now (v % 32)
    setF s (PG_EVT_CNT c) i 0 n
  else if o = 0x30 then
    setF (setF (setF s (PG_OWNER_EXCL c) i 0 (bitOf v 31)) (PG_OWNER_KIND c) i 0 (bitsOf v 19 18)) (PG_OWNER_VF c) i 0 (bitsOf v 13 10)
  else if o = 0x34 then
    setF (setF s (PG_SEAL_OWNER c) i 0 (getF s (PG_SEAL_OWNER c) i 0 ||| bitOf v 1)) (PG_SEAL_RWS c) i 0
      (getF s (PG_SEAL_RWS c) i 0 ||| bitOf v 0)
  else s

end Sys2Proof.Machine
end

