-- ==== Sys2Proof/Machine/BusWrite.lean ====
section
/-! DEFINITION. Machine/BusWrite.lean: what a register write does beyond storing its fields, and one access of a
requester from its checks to its answer (R10 to R15, R479, R528 to R542). -/

namespace Sys2Proof.Machine

/-! ## Fields stored in a range of their own -/

/-- A `THM_ROR` threshold (R472): cut to its fused bounds; one that breaks the order of the three is ignored (log entry 61, DEDUCED).
-/
def rorWrite (s : State) (f lo hi : Field) (v : Nat) : State :=
  let x := min (max (v % 256) (getF s lo 0 0)) (getF s hi 0 0)
  let at_ := fun g => if g = f then x else getF s g 0 0
  if at_ THM_ROR_ACT_RATE ≤ at_ THM_ROR_WATCH_RATE ∨ at_ THM_ROR_HALT_RATE ≤ at_ THM_ROR_ACT_RATE then raise s cTHM 0 11
  else setF s f 0 0 x

/-- `THM_CEIL.STOP_C` (R472). -/
def ceilWrite (s : State) (v : Nat) : State := setF s THM_CEIL_STOP_C 0 0 (min (bitsOf v 15 8) (getF s THM_CEIL_CEIL_C 0 0 - 5))

/-- `PWR_DIE_CLK.RATIO` (R470): 3 is stored as 2. -/
def dieRatios (v : Nat) : Nat := ((List.range 8).map fun d => min 2 (bitsOf v (2 * d + 1) (2 * d)) * 4 ^ d).sum

/-- An FP32 value is below 0. -/
def f32below0 (v : Nat) : Bool := hasBit v 31 && !f32isNan v && !f32eq v 0

/-- The sampler's stored values (R374, R396). -/
def smpStored (s : State) (d o v : Nat) : State :=
  let one := 0x3F800000
  if o = SMP_CTRL_MODE.off then setF s SMP_CTRL_MODE d 0 (if bitsOf v 9 8 = 2 then 2 else 0)
  else if o = SMP_TEMP.off then setF s SMP_TEMP d 0 (if f32below0 v || f32isNan v then 0 else v)
  else if o = SMP_TOPP.off then setF s SMP_TOPP d 0 (if f32isNan v then one else v)
  else if o = SMP_REP_PEN.off then setF s SMP_REP_PEN d 0 (if f32below0 v || f32isNan v || f32eq v 0 then one else v)
  else if o = SMP_TOPK.off then setF s SMP_TOPK d 0 (if v % 2048 = 0 ∨ 1024 < v % 2048 then 1024 else v % 2048)
  else s

/-- The wavelengths of a lane that its pinned pool may hold (R287). -/
def pinMask (lane v : Nat) : Nat := ((List.range 62).filter fun l => hasBit v l && !floorPlace lane l).foldl setBit 0

/-- The settings of a bank's `_SET` register stored without a handover (R196). -/
def bankStore (s : State) (cluster : Bool) (i n v : Nat) : State :=
  forAll ((fieldsAt (if cluster then cCLU else cCOR) (0x100 + 8 * n)).filter fun p => p.1.acc == .rw) s fun s p =>
    setF s p.1 i p.2 (bitsOf v p.1.hi p.1.lo)

/-- A write of a bank's `_SET` register (R196, R197). -/
def bankSet (s : State) (cluster : Bool) (i n v : Nat) : State :=
  if hasBit v 31 then bankWrite s ⟨cluster, i, n⟩ v else bankStore s cluster i n v

/-! ## Images (R489, R492) -/

/-- `SEC_IMG_CTRL.VERIFY` (R489): a check begins, unless one runs. -/
def verifyStart (s : State) (slot : Nat) : State := if s.verify.isSome then s else { s with verify := some slot }

/-- `SEC_IMG_CTRL.SVN_COMMIT` by the PF (R492). -/
def svnCommit (s : State) (q : Requester) : State :=
  let v := getF s SEC_SVN_RUNNING 0 0
  if q ≠ .pf ∨ v ≤ getF s SEC_SVN_FLOOR 0 0 then s
  else measChanged (raiseFor (setF s SEC_SVN_FLOOR 0 0 v) cSEC 0 2 .noPart)

/-- A write of `SEC_IMG_CTRL` that has stored SLOT. -/
def imgCtrl (s : State) (q : Requester) (v : Nat) : State :=
  let s := if hasBit v 0 then verifyStart s (bitOf v 1) else s
  if hasBit v 2 then svnCommit s q else s

/-! ## The log (R520, R521) -/

/-- `ERR_STAT.LOST_DETAIL`, W1C: a detail lost in this clock wins (R13). -/
def lostClear (s : State) (v : Nat) : State :=
  if hasBit v 31 ∧ !hasBit (raisedNow s cERR 0) 1 then setF s ERR_STAT_LOST_DETAIL 0 0 0 else s

/-! ## The action of a write, by class -/

def actMGT (s : State) (o v : Nat) : State :=
  if o = MGT_RST_CTRL_GO.off then rstCtrl s v
  else if o = MGT_RETIRE_GO.off ∧ hasBit v 31 then retireLid s (bitsOf v 11 0)
  else s

def actARB (s : State) (q : Requester) (o v : Nat) : State :=
  if o = ARB_CTRL_CASTLE.off then arbCtrl s v
  else if o = ARB_HB_MGT.off ∧ q = .mgmt ∧ hasBit v 0 then heartbeat s 0
  else if o = ARB_UPD_CTRL_START.off then updCtrl s v
  else s

def actMOV (s : State) (i o v : Nat) : State :=
  if o = MOV_CTRL_START.off then movCtrl s i v
  else if o = MOV_LOAD_IDX.off then movLoadIdx s i
  else if o = MOV_LOAD_DATA.off then movLoadData s i v
  else if o = MOV_DMA_CTRL_GO.off ∧ hasBit v 31 then movDma s i
  else s

def actPWR (s : State) (o v : Nat) : State :=
  if o = PWR_DIE_CLK.off then dieClkWrite (setF s PWR_DIE_CLK 0 0 (dieRatios v))
  else if o = PWR_HALF_CLK_WEST_REQ.off then halfClkWrite s
  else if o = PWR_ESTOP_GO.off ∧ hasBit v 0 then estopGo s
  else s

def actTHM (s : State) (o v : Nat) : State :=
  if o = THM_ROR_WATCH_RATE.off then rorWrite s THM_ROR_WATCH_RATE THM_ROR_WATCH_MIN THM_ROR_WATCH_MAX v
  else if o = THM_ROR_ACT_RATE.off then rorWrite s THM_ROR_ACT_RATE THM_ROR_ACT_MIN THM_ROR_ACT_MAX v
  else if o = THM_ROR_HALT_RATE.off then rorWrite s THM_ROR_HALT_RATE THM_ROR_HALT_MIN THM_ROR_HALT_MAX v
  else if o = THM_CEIL_STOP_C.off then ceilWrite s v
  else if o = THM_STOP_CLR.off then stopClear s v
  else s

/-- The block of a partition, and the offset in it (R504). -/
def actHST (s : State) (o v : Nat) : State :=
  let p := (o - 0x100) / 0x40
  let r := o % 0x40
  if o < 0x100 ∨ 0x300 ≤ o then s
  else if r = 0x08 then sqEnable s p (hasBit v 31)
  else if r = 0x1C then hostFlush s p
  else if r = 0x2C ∧ hasBit v 31 then mbxEnable s p
  else s

def actERR (s : State) (q : Requester) (o v : Nat) : State :=
  if o = ERR_CTRL_CLEAR.off then errCtrl s v
  else if o = ERR_STAT_LOST_DETAIL.off then lostClear s v
  else if o = ERR_RD_IDX.off then logLatch s q v
  else s

def actFAB (s : State) (o v : Nat) : State :=
  if o = FAB_CTRL_EPOCH_ARM.off then fabCtrl s v
  else if o = FAB_RT_DATA.off then rtWrite s v
  else if o = FAB_MC_INVAL.off then mcInval s (bitsOf v 11 0)
  else if o = FAB_NODE_NODE.off then nodeSet s (bitsOf v 13 0)
  else if o = FAB_RST_CTRL_NOTICE.off then fabRstCtrl s v
  else s

def actPRT (s : State) (i o v : Nat) : State :=
  if o = PRT_GRANT_CTRL_GRANT.off then grantCtrl s i v
  else if o = PRT_CPY_IDX.off then cpyIdx s i
  else if o = PRT_CPY_DATA.off then cpyData s i v
  else s

def actCLU (s : State) (i o v : Nat) : State :=
  if 0x100 ≤ o ∧ o < 0x200 ∧ o % 8 = 0 then bankSet s true i ((o - 0x100) / 8) v
  else if o = CLU_LC_CTRL_APPLY.off ∧ hasBit v 31 then lcApply s i (bitsOf v 1 0)
  else s

def actCOR (s : State) (i o v : Nat) : State :=
  if o = COR_CTRL_RUN.off then corCtrl s i v
  else if 0x100 ≤ o ∧ o < 0x140 ∧ o % 8 = 0 then bankSet s false i ((o - 0x100) / 8) v
  else s

def actSMP (s : State) (i o v : Nat) : State :=
  let s := smpStored s i o v
  if o = SMP_CTRL_ARM.off then smpCtrl s i v else s

def actGMB (s : State) (o v : Nat) : State :=
  let c := (o - 0x100) / 0x40
  if o = GMB_RNG_CTRL.off then rngCtrl s v
  else if o < 0x100 ∨ 0x300 ≤ o then s
  else if o % 0x40 = 0 then gmbCtrl s c v
  else if o % 0x40 = 0x34 ∧ getF s GMB_CTX_STAT_STATE 0 c = 0 then setF s GMB_CTX_COMMIT 0 c v
  else s

/-- The action of a write of the register at offset `o` of page `i` of class `c`, its plain fields being stored. -/
def regAction (s : State) (q : Requester) (c i o v : Nat) : State :=
  if c = cMGT then actMGT s o v
  else if c = cARB then actARB s q o v
  else if c = cTMP then (if o = TMP_CTRL_ROLE.off then tmpCtrl s v else s)
  else if c = cMOV then actMOV s i o v
  else if c = cPWR then actPWR s o v
  else if c = cTHM then actTHM s o v
  else if c = cSEC then (if o = SEC_IMG_CTRL_VERIFY.off then imgCtrl s q v else s)
  else if c = cHST then actHST s o v
  else if c = cERR then actERR s q o v
  else if c = cFUS then (if o = FUS_CTRL.off ∧ hasBit v 0 then fuseAdd s else s)
  else if c = cFAB then actFAB s o v
  else if c = cPRT then actPRT s i o v
  else if c = cSYN then (if o = SYN_CFG_THR_EVT.off then synCfg s i v else s)
  else if c = cVLK then (if o = VLK_CTRL_EN.off then vlkCtrl s i v else s)
  else if c = cLSR then (if o = LSR_CTRL_EN.off then lsrCtrl s i v else s)
  else if c = cCLU then actCLU s i o v
  else if c = cCOR then actCOR s i o v
  else if c = cSMP then actSMP s i o v
  else if c = cGMB then actGMB s o v
  else if c = cMST then (if o = MST_CTRL_RESET.off ∧ hasBit v 0 then stackReset s i else s)
  else s

/-! ## Pairs (R15) -/

/-- A pair takes a value whole. -/
def pairStore (s : State) (f : Field) (i n v : Nat) : State :=
  if f = MGT_PART_MAP then partMapWrite s v
  else if f = SYN_VAL then synVal s i v
  else if f = SYN_ADD then synAdd s i v
  else if f = SYN_THR then synThr s i v
  else if f = LAN_PIN then setF s LAN_PIN i 0 (pinMask i v)
  else if f.acc = .rw then setF s f i n (f.stored v)
  else s

/-- A write of `_LO` commits both halves: the upper one from the requester's holding register, which it empties, or else the
present one. -/
def writeLo (s : State) (q : Requester) (f : Field) (i n v : Nat) : State :=
  let k := pairKey q f.cls i (f.off + n * f.stride)
  let h := SMap.get s.hold 0 k
  let up := if h = 0 then viewF s q f i n / 2 ^ 32 else h - 1
  pairStore { s with hold := SMap.set s.hold 0 k 0 } f i n (up * 2 ^ 32 + v % 2 ^ 32)

/-- A write of `_HI` is held for the requester. -/
def writeHi (s : State) (q : Requester) (f : Field) (i n v : Nat) : State :=
  { s with hold := SMap.set s.hold 0 (pairKey q f.cls i (f.off + n * f.stride)) (v % 2 ^ 32 + 1) }

/-! ## Accesses (R530) -/

/-- A block register write, past its checks. -/
def writeBlock (s : State) (q : Requester) (c i o v : Nat) : State :=
  match loAt c o with
  | some p => writeLo s q p.1 i p.2 v
  | none => match hiAt c o with
    | some p => writeHi s q p.1 i p.2 v
    | none => regAction (forAll (fieldsAt c o) s fun s p => storeField s p.1 i p.2 v) q c i o v

/-- A register write, past its checks. -/
def regWrite (s : State) (q : Requester) (c i o v : Nat) : State :=
  if o < 0x40 then writeHeader s c i o v else writeBlock s q c i o v

/-- One access of a requester: `w` is the value of a write, `item` says that a work item makes it. The answer is its status,
and its data; all-ones where it fails. -/
def regAccess (s : State) (q : Requester) (item : Bool) (ofs bytes : Nat) (w : Option Nat) : State × Status × Nat :=
  match regCheck s q item ofs bytes w with
  | (s, some st) => (s, st, ones64)
  | (s, none) =>
    let c := ofsClass ofs
    let i := ofsInst ofs
    let o := ofsReg ofs
    match w with
    | some v => (regWrite s q c i o v, .ok, 0)
    | none =>
      let r := regRead s q c i o
      (r.1, .ok, r.2)

/-- The function number of a requester: 0 the PF, n VF n (R504). -/
def funcNo (q : Requester) : Nat :=
  match Requester.part q with
  | some p => p + 1
  | none => 0

/-- A poisoned request is dropped; what status it is recorded with is free (R479). -/
def poisonDrop (s : State) (q : Requester) (ofs : Nat) : State :=
  let d := draw s
  barDrop d.2 (funcNo q) ofs d.1 false

/-- A failed access of a host function completes under R479, and any other with its status. -/
def afterAccess (s : State) (q : Requester) (ofs : Nat) (st : Status) : State :=
  if hostBar q false ∧ st ≠ .ok then barDrop s (funcNo q) ofs st.code false else s

/-- A write over BAR0, by the management core, or by a sideband message; the last two have an answer. -/
def busWrite (s : State) (q : Requester) (ofs bytes v : Nat) : State :=
  let r := regAccess s q false ofs bytes (some v)
  let s := afterAccess r.1 q ofs r.2.1
  if hostBar q false then s else emit s (.answer q ofs 0 r.2.1)

/-- A read; a failed one returns all-ones (R11), to a host function in a successful completion (R479). -/
def busRead (s : State) (q : Requester) (ofs bytes : Nat) : State :=
  let r := regAccess s q false ofs bytes none
  let s := afterAccess r.1 q ofs r.2.1
  emit s (.answer q ofs (if r.2.1 = .ok then r.2.2 % 2 ^ (8 * bytes) else 2 ^ (8 * bytes) - 1)
    (if hostBar q false then .ok else r.2.1))

end Sys2Proof.Machine
end

