-- ==== Sys2Proof/Machine/Host.lean ====
section
/-! DEFINITION. Machine/Host.lean: the windows of BAR2, work items, the host link and function resets, image updates,
attestation and the sideband (R476 to R503, R557). -/

namespace Sys2Proof.Machine

/-! ## BAR2 (R478, R479, R503) -/

/-- The partition and byte of a BAR2 offset: eight windows on the PF, one on a VF. -/
def bar2Window (q : Requester) (x : Nat) : Option (Nat × Nat) :=
  match q with
  | .pf => some (x / 2 ^ 25, x % 2 ^ 25)
  | .vf n => if x < 2 ^ 25 then some (n.val, x) else none
  | _ => none

/-- The sizes that a window accepts, naturally aligned. -/
def bar2Size (write : Bool) (x bytes : Nat) : Bool :=
  (bytes == 4 || bytes == 8 || (write && bytes == 64)) && x % bytes == 0

/-- Does a window's base name a site of its partition in this module, aligned to 32 MiB. -/
def bar2Base (s : State) (p : Nat) : Bool :=
  let b := getF s HST_W2_BASE 0 p
  isHere s b && partOf s (gaSite b) == some p && gaOfs b % 2 ^ 25 == 0

/-- The request that a window injects: a LOAD, a STORE, or a WRITE of 64 B. -/
def bar2Pkt (ga bytes : Nat) : Option Nat → Pkt
  | none => ctrlPkt opLOAD ga (sizeCode bytes) 0
  | some v =>
    if bytes = 64 then { dataPkt opWRITE ga (bytesLE 64 v) with cmpReq := true }
    else ctrlPkt opSTORE ga (sizeCode bytes) v

/-- BAR2_ACCESS (R478): a read or a write of a function at a BAR2 offset. Refused accesses carry ACCESS_DENIED (log entry
63, DEDUCED). -/
def execBar2Access (req : Requester) (x : Fin (2 ^ 28)) (bytes : Fin 65) (poisoned : Bool) (w : Option (Fin (2 ^ 512)))
    (s : State) : Host.Outcome State Fault Refusal :=
  .next (match bar2Window req x with
    | none => s
    | some (p, y) =>
      let f := funcNo req
      let size := if w.isSome then 0 else bytes.val
      if poisoned then
        let d := draw s
        bar2Done (barDrop d.2 f x d.1 true) f x size .ok (2 ^ 512 - 1)
      else if 2 ≤ s.modRst then bar2Done s f x size .targetResetting (2 ^ 512 - 1)
      else if !bar2Size w.isSome y bytes ∨ !bar2Base s p then bar2Done s f x size .accessDenied (2 ^ 512 - 1)
      else
        let ga := getF s HST_W2_BASE 0 p + y
        inject s (gaSite ga) (bar2Pkt ga bytes (w.map (·.val))) (.bar2 f x size))

/-! ## Work items (R482 to R484) -/

/-- The next item of an area to start. -/
def nextItem (s : State) (p : Nat) : Option HostItem := (getArea s p).items.find? fun i => !i.begun

/-- An item has started. -/
def beginItem (s : State) (p idx : Nat) : State :=
  let a := getArea s p
  putArea s p { a with items := a.items.map fun i => if i.idx = idx then { i with begun := true } else i }

/-- An item has started and completed. -/
def completeItem (s : State) (p idx : Nat) (st : Status) (v : Nat) : State := hostItemDone (beginItem s p idx) p idx st v

/-- Items at the front whose OP is reserved or whose reserved fields are not 0 complete with ADDRESS_INVALID (R482). -/
def badItems (s : State) (p : Nat) : Nat → State
  | 0 => s
  | n + 1 =>
    match nextItem s p with
    | some i => if 6 < i.op ∨ !i.good then badItems (completeItem s p i.idx .addressInvalid 0) p n else s
    | none => s

/-- Has an item completed, its entry still to be written or held. -/
def itemDone (s : State) (p idx : Nat) : Bool :=
  (getArea s p).held.any (fun h => h.1.idx == idx) || s.hostDone.any fun d => d.1 == p && d.2.1 == idx

/-- The next item starts if it has this operation; what has completed is written (R483, R484). -/
def itemRow (p op : Nat) (s : State) (act : State → HostItem → State) : State :=
  match nextItem s p with
  | some i => if i.op = op then hostFlush (badItems (act s i) p 256) p else s
  | none => s

/-- HOST_SCAN (R483, R486): at a scan instant of a partition. -/
def execHostScan (p : Fin 8) (s : State) : Host.Outcome State Fault Refusal :=
  .next (if !scanInstant s p ∨ (getArea s p).lastScan = nowBeat s + 1 ∨ 2 ≤ s.modRst then s
    else mbxPush (scanArea (hostFlush s p) p) p)

/-- The entries that a scan read takes: the valid ones up to the first that is not. -/
def takenOf (phase n : Nat) (es : List Nat) : List Nat := (es.take n).takeWhile fun e => bitOf e 8 == phase

/-- SCAN_READ_DONE (R483): the whole read has returned, within 10 µs. -/
def execScanReadDone (p : Fin 8) (entries : List (Fin (2 ^ 512))) (s : State) : Host.Outcome State Fault Refusal :=
  let a := getArea s p
  .next (match a.scan with
    | none => s
    | some (t, _, n) =>
      if t + 16000 < nowClk s then scanFailed s p
      else
        let es := takenOf (getF s HST_SQ_STAT_PHASE 0 p) n (entries.map (·.val))
        let es := if areaState s p = saActive then es else []
        let items := (List.range es.length).map fun k => itemOf (a.next + k) (es.getD k 0)
        let s := putArea s p { a with scan := none, items := a.items ++ items, next := a.next + es.length }
        hostFlush (badItems (headMoves s p es.length) p 256) p)

/-- SCAN_READ_TIMEOUT (R483): the read fails, or has not returned after 10 µs. -/
def execScanReadTimeout (p : Fin 8) (failed : Bool) (s : State) : Host.Outcome State Fault Refusal :=
  .next (match (getArea s p).scan with
    | none => s
    | some (t, _, _) => if failed ∨ t + 16000 ≤ nowClk s then scanFailed s p else s)

/-- HOST_NOP (R482). -/
def execHostNop (p : Fin 8) (s : State) : Host.Outcome State Fault Refusal :=
  .next (itemRow p 0 s fun s i => completeItem s p i.idx .ok 0)

/-- A sync item, performed at the object's site (R344, R482). -/
def hostSync (p op : Nat) (s : State) (i : HostItem) : State :=
  let obj := i.a0 % 65536
  let site := syncSite obj
  if partOf s site = some p then inject (beginItem s p i.idx) site (syncPkt s op obj (i.a1 % 2 ^ 48)) (.host p i.idx)
  else completeItem s p i.idx .accessDenied 0

/-- HOST_SYNC_ADD (R482). -/
def execHostSyncAdd (p : Fin 8) (s : State) : Host.Outcome State Fault Refusal :=
  .next (itemRow p 1 s (hostSync p opSYNC_ADD))

/-- HOST_SYNC_SET (R482). -/
def execHostSyncSet (p : Fin 8) (s : State) : Host.Outcome State Fault Refusal :=
  .next (itemRow p 2 s (hostSync p opSYNC_SET))

/-- HOST_COPY_START (R482): it completes when the copy is issued; it waits for an engine, and the items behind it with it
(log entry 64, DEDUCED). -/
def execHostCopyStart (p : Fin 8) (s : State) : Host.Outcome State Fault Refusal :=
  .next (itemRow p 3 s fun s i =>
    let site := i.a0 % 16
    let idx := bitsOf i.a0 25 16
    if partOf s site ≠ some p.val then completeItem s p i.idx .accessDenied 0
    else match siteStatus s site with
      | some st => completeItem s p i.idx st 0
      | none =>
        if !descOk s site idx then completeItem (tableStart s site idx) p i.idx .addressInvalid 0
        else if (descReq (copyDesc s site idx)).units ≠ 0 ∧ (tableMay s site idx).isNone then s
        else completeItem (tableStart s site idx) p i.idx .ok 0)

/-- The function whose rights an item of an area has. -/
def areaReq (s : State) (p : Fin 8) : Requester := if vfEnabled s p then .vf p else .pf

/-- HOST_REG_WRITE (R482). -/
def execHostRegWrite (p : Fin 8) (s : State) : Host.Outcome State Fault Refusal :=
  .next (itemRow p 4 s fun s i =>
    let r := regAccess (beginItem s p i.idx) (areaReq s p) true (i.a0 % 2 ^ 28) 4 (some (i.a1 % 2 ^ 32))
    hostItemDone r.1 p i.idx r.2.1 0)

/-- HOST_REG_READ (R482): the value is returned in DATA. -/
def execHostRegRead (p : Fin 8) (s : State) : Host.Outcome State Fault Refusal :=
  .next (itemRow p 5 s fun s i =>
    let r := regAccess (beginItem s p i.idx) (areaReq s p) true (i.a0 % 2 ^ 28) 4 none
    hostItemDone r.1 p i.idx r.2.1 (r.2.2 % 2 ^ 32))

/-- HOST_FENCE (R482): it completes when every earlier item has; none behind it starts before. -/
def execHostFence (p : Fin 8) (s : State) : Host.Outcome State Fault Refusal :=
  .next (itemRow p 6 s fun s i =>
    if ((getArea s p).items.filter fun j => decide (j.idx < i.idx)).all fun j => itemDone s p j.idx then
      completeItem s p i.idx .ok 0
    else s)

/-! ## The link, function resets (R476, R477, R501, R502, R557) -/

/-- LINK_DOWN (R501). -/
def execLinkDown (s : State) : Host.Outcome State Fault Refusal := .next (linkDown s)

/-- LINK_UP (R501): on ×1, ×2 or ×4 at a PCIe generation, with the VFs that the host has enabled (R477, log entry 65, DEDUCED). -/
def execLinkUp (width speed : Fin 16) (vfs : BitVec 8) (s : State) : Host.Outcome State Fault Refusal :=
  .next (if !([1, 2, 4].contains width.val) ∨ speed = 0 ∨ 6 < speed then s
    else
      let was := getF s HST_LINK_STATE 0 0
      let s := setF (setF (setF s HST_LINK_WIDTH 0 0 width) HST_LINK_SPEED 0 0 speed) HST_LINK_STATE 0 0 2
      let s := forAll (List.range 8) s fun s p => setF s HST_SQ_CFG_OWNER 0 p (bitOf vfs.toNat p)
      if was = 2 then s else raiseFor s cHST 0 0 .noPart)

/-- The latches and holding registers of a function are emptied (R14, R15, R60, R502). -/
def latchesCleared (s : State) (no : Nat) : State :=
  let mine := fun (e : Nat × Nat) => e.1 / (32 * 2048 * 4096) != no
  { s with
    hiLatch := s.hiLatch.filter mine
    hold := s.hold.filter mine
    tmpLatch := SMap.erase s.tmpLatch no }

/-- A Function Level Reset of function `f` (R502): 0 the PF, n VF n. Items that have not started are dropped with the area (log
entry 141, DEDUCED). -/
def flr (s : State) (f : Nat) (reset : Bool) : State :=
  let s := latchesCleared s (1 + f)
  let mine := (List.range 8).filter fun p => areaOwner s p == f
  let s := forAll mine s fun s p =>
    let s := cqDiscard (hostFlush s p) p
    let a := getArea s p
    setF (putArea s p { a with scan := none, items := a.items.filter fun i => i.begun }) HST_SQ_STAT_STATE 0 p saDisabled
  let s := raiseFor s cHST 0 7 (if f = 0 then .noPart else .part (f - 1))
  forAll (mine.filter fun p => reset && getF s HST_SQ_CFG_FLR_RESET 0 p == 1) s fun s p => partitionReset s p false true

/-- FLR (R502). -/
def execFlr (func : Fin 9) (s : State) : Host.Outcome State Fault Refusal := .next (flr s func true)

/-- PERST (R557): `PCIE_PERST_N` is asserted, or deasserted. -/
def execPerst (asserted : Bool) (s : State) : Host.Outcome State Fault Refusal :=
  .next (if asserted then linkDown s else forAll (List.range 9) s fun s f => flr s f false)

/-! ## Images (R489, R491) -/

/-- The result of a check of a slot. -/
def verifyResult (s : State) (slot : Nat) (readOk : Bool) : State :=
  let r := slotCheck s slot readOk
  raiseFor (setF s (imgRes slot) 0 0 r) cSEC 0 (if r = 1 then 0 else 1) .noPart

/-- IMAGE_VERIFY_DONE (R489): the check ends; `readOk` says that the slot could be read. -/
def execImageVerifyDone (readOk : Bool) (s : State) : Host.Outcome State Fault Refusal :=
  .next (match s.verify with
    | none => s
    | some slot => verifyResult { s with verify := none } slot readOk)

/-- A message on the sideband counts (R508). -/
def sbMessage (s : State) : State := wrapF s MGT_SB_MSGS 0 0 1

/-- A reply of the device. -/
def reply (s : State) (kind : String) (data : List Nat) : State := emit s (.message kind data)

/-- PLDM_FW_UPDATE (R491): an image is written into the slot not in force and verified, unless a live update reads that
slot; `sb` says that it comes over the sideband. -/
def execPldmFwUpdate (sb : Bool) (header body : List (BitVec 8)) (readOk : Bool) (s : State) : Host.Outcome State Fault Refusal :=
  let s := if sb then sbMessage s else s
  let slot := 1 - getF s SEC_IMG_STAT_IN_FORCE 0 0
  let busy : Bool := getF s ARB_UPD_STAT_PHASE 0 0 == 1 && (match s.update with
    | some u => u.slot == slot
    | none => false)
  .next (if busy then reply s "PLDM_FW_UPDATE" [0]
    else reply (verifyResult (putImg s slot (some ⟨header, body.take 8384512⟩)) slot readOk) "PLDM_FW_UPDATE" [1])

/-! ## Debug (R496) -/

/-- Does an unlock record hold: serial, nonce, zeros, and a signature with a Falior key in use. -/
def unlockGood (s : State) (r : Nat) : Bool :=
  let bs := bytesLE 128 r
  let d := Config.sha256 (bs.take 64)
  ofBytesLE (bs.take 8) == getF s DEV_SERIAL 0 0 && ofBytesLE ((bs.drop 8).take 8) == getF s SEC_DBG_NONCE 0 0 &&
    ((bs.drop 16).take 48).all (· == 0) &&
    (List.range 4).any fun k => hasBit (getF s SEC_PROV_KEY_VALID 0 0) k && !hasBit (getF s SEC_PROV_KEY_REVOKED 0 0) k &&
      Config.ecdsaVerify (Config.publicKey k) d (bs.drop 64)

/-- DEBUG_UNLOCK (R496): byte 0 of the record is the lowest. With debug access OPEN there is nothing to unlock (log entry
66, DEDUCED). -/
def execDebugUnlock (sb : Bool) (record : Fin (2 ^ 1024)) (s : State) : Host.Outcome State Fault Refusal :=
  let s := if sb then sbMessage s else s
  let mode := getF s SEC_PROV_DEBUG 0 0
  .next (if mode = 0 then reply s "DEBUG_UNLOCK" [0]
    else if mode = 1 ∧ unlockGood s record then
      let t := raiseFor (setF s SEC_DBG_STAT 0 0 1) cSEC 0 4 .noPart
      reply (if getF s SEC_DBG_STAT 0 0 = 1 then t else measChanged t) "DEBUG_UNLOCK" [1]
    else
      let d := draw s
      reply (setF d.2 SEC_DBG_NONCE 0 0 d.1) "DEBUG_UNLOCK" [0])

/-! ## Attestation (R497 to R499) -/

/-- The image in force, as bytes. -/
def imgBytes (s : State) : List Byte :=
  match imgAt s (getF s SEC_IMG_STAT_IN_FORCE 0 0) with
  | some m => m.header ++ m.body
  | none => []

/-- Measurement `n`, 1 to 6 (R499). -/
def measurement (s : State) (n : Nat) : Nat :=
  let dig := fun l => Config.sha256 (Config.measBytes n l)
  if n = 1 then dig []
  else if n = 2 then Config.sha256 (imgBytes s)
  else if n = 3 then dig [getF s SEC_IMG_STAT_IN_FORCE 0 0, getF s SEC_SVN_RUNNING 0 0, getF s SEC_SVN_FLOOR 0 0]
  else if n = 4 then
    dig ((List.range 6).map (getF s SEC_PROT 0) ++ [getF s SEC_PROV_KEY_REVOKED 0 0, getF s SEC_PROV_KEY_VALID 0 0,
      getF s SEC_PROV_DEBUG 0 0, getF s SEC_PROV_PROV_DONE 0 0])
  else if n = 5 then dig [getF s SEC_PROV_DEBUG 0 0, getF s SEC_DBG_STAT 0 0]
  else dig ([FUS_MAP_CRC, DEV_CAP_CORES_SPARES, DEV_CAP_CORES_CORES, DEV_CAP_MEM, DEV_CAP_CIRC_RESERVE,
    DEV_CAP_CIRC_GRANTABLE].map fun f => getF s f 0 0)

/-- The chain of slot 0. -/
def chainOf (s : State) : List Byte := Config.certChain (measurement s 2)

/-- A reply signed with the alias key of the image in force. -/
def signedReply (s : State) (kind : String) (data : List Nat) : State :=
  let d := draw s
  let sig := Config.ecdsaSign (measurement s 2) (Config.sha256 (data.flatMap (bytesLE 32))) d.1
  reply d.2 kind (data ++ [sig])

/-- A request of SPDM: over MCTP it counts (R498, R508). -/
def spdm (sb : Bool) (s : State) : State := if sb then sbMessage s else s

/-- GET_VERSION (R498): 1.2 and 1.1. -/
def execGetVersion (sb : Bool) (s : State) : Host.Outcome State Fault Refusal :=
  .next (reply (spdm sb s) "VERSION" [0x12, 0x11])

/-- GET_CAPABILITIES (R498): certificates, challenges and signed measurements; no sessions, no mutual authentication. -/
def execGetCapabilities (sb : Bool) (s : State) : Host.Outcome State Fault Refusal :=
  .next (reply (spdm sb s) "CAPABILITIES" [1, 1, 1, 0, 0])

/-- NEGOTIATE_ALGORITHMS (R498): ECDSA P-256 and SHA-256, if the requester offers both. -/
def execNegotiateAlgorithms (sb ecdsa sha : Bool) (s : State) : Host.Outcome State Fault Refusal :=
  .next (reply (spdm sb s) (if ecdsa && sha then "ALGORITHMS" else "ERROR") [])

/-- GET_DIGESTS (R498): of slot 0. -/
def execGetDigests (sb : Bool) (s : State) : Host.Outcome State Fault Refusal :=
  .next (reply (spdm sb s) "DIGESTS" [Config.sha256 (chainOf s)])

/-- GET_CERTIFICATE (R497, R498): a part of the chain of slot 0. -/
def execGetCertificate (sb : Bool) (slot : Fin 8) (ofs len : Fin 65536) (s : State) : Host.Outcome State Fault Refusal :=
  .next (if slot ≠ 0 then reply (spdm sb s) "ERROR" []
    else reply (spdm sb s) "CERTIFICATE" ((((chainOf s).drop ofs).take len).map (·.toNat)))

/-- CHALLENGE (R498): signed with the alias key. -/
def execChallenge (sb : Bool) (slot : Fin 8) (nonce : Fin (2 ^ 256)) (s : State) : Host.Outcome State Fault Refusal :=
  .next (if slot ≠ 0 then reply (spdm sb s) "ERROR" []
    else signedReply (spdm sb s) "CHALLENGE_AUTH" [Config.sha256 (chainOf s), nonce])

/-- GET_MEASUREMENTS (R499): index 0 asks for their number, 0xFF for all. -/
def execGetMeasurements (sb : Bool) (index : Fin 256) (nonce : Fin (2 ^ 256)) (s : State) : Host.Outcome State Fault Refusal :=
  .next (if index = 0 then signedReply (spdm sb s) "MEASUREMENTS" [6, nonce]
    else if index = 0xFF then
      signedReply (spdm sb s) "MEASUREMENTS" (((List.range 6).map fun n => measurement s (n + 1)) ++ [nonce.val])
    else if index ≤ 6 then signedReply (spdm sb s) "MEASUREMENTS" [measurement s index, nonce]
    else reply (spdm sb s) "ERROR" [])

/-! ## Sideband (R500) -/

/-- PLDM_BASE (R500): a request of Type 0; the device serves Types 0, 2 and 5. -/
def execPldmBase (cmd : Fin 256) (s : State) : Host.Outcome State Fault Refusal :=
  .next (reply (sbMessage s) "PLDM_BASE" [cmd, 0b100101])

/-- PLDM_PLATFORM (R457, R500): a numeric sensor is a housekeeping channel, a state sensor the `PG_STATE` of a page. -/
def execPldmPlatform (state : Bool) (cls : Fin 32) (n : Fin 2048) (s : State) : Host.Outcome State Fault Refusal :=
  let s := sbMessage s
  .next (if state then
      (if n.val < (classRow cls).count then reply s "STATE_SENSOR" [pgState s cls n] else reply s "ERROR" [])
    else if n.val < 1024 then reply s "NUMERIC_SENSOR" [SMap.get s.therm.chans 0 n % 2 ^ 16]
    else reply s "ERROR" [])

/-- SIDEBAND_REG_ACCESS (R500, R530): a message of type 0x7E. -/
def execSidebandRegAccess (ofs : Fin (2 ^ 28)) (w : Option (BitVec 32)) (s : State) : Host.Outcome State Fault Refusal :=
  .next (match w with
    | some v => busWrite (sbMessage s) .sideband ofs 4 v.toNat
    | none => busRead (sbMessage s) .sideband ofs 4)

/-- EID_ASSIGN (R500, R508): by the bus owner. -/
def execEidAssign (eid : Fin 256) (s : State) : Host.Outcome State Fault Refusal :=
  .next (setF (sbMessage s) MGT_SB_EID 0 0 eid)

end Sys2Proof.Machine
end

