-- ==== Sys2Proof/Machine/RegRows.lean ====
section
/-! DEFINITION. Machine/RegRows.lean: the commands that are register accesses. A command that stands for one action of a
register does nothing when the value written does not ask for that action; otherwise the whole register is written, as by
any access of its requester, with its checks (R530). -/

namespace Sys2Proof.Machine

/-- A write of a register that asks for an action. -/
def regRow (s : State) (q : Requester) (c i o v : Nat) (asks : Bool) : State :=
  if asks then busWrite s q (regOfs c i o) 4 v else s

/-! ## Any register (R10 to R15, R60) -/

/-- REGISTER_WRITE (R13): of `bytes` bytes at a BAR0 offset; a poisoned one of a host function is dropped (R479). -/
def execRegisterWrite (req : Requester) (ofs : Fin (2 ^ 28)) (bytes : Fin 65) (poisoned : Bool) (v : BitVec 32)
    (s : State) : Host.Outcome State Fault Refusal :=
  .next (if poisoned ∧ hostBar req false then poisonDrop s req ofs else busWrite s req ofs bytes v.toNat)

/-- READ_LO_LATCH (R14): a read of `bytes` bytes at a BAR0 offset; of a `_LO` register it latches the upper half. -/
def execReadLoLatch (req : Requester) (ofs : Fin (2 ^ 28)) (bytes : Fin 65) (s : State) : Host.Outcome State Fault Refusal :=
  .next (busRead s req ofs bytes)

/-- WRITE_HI_HOLD (R15). -/
def execWriteHiHold (req : Requester) (ofs : Fin (2 ^ 28)) (v : BitVec 32) (s : State) : Host.Outcome State Fault Refusal :=
  .next (if (hiAt (ofsClass ofs) (ofsReg ofs)).isSome then busWrite s req ofs 4 v.toNat else s)

/-- WRITE_LO_COMMIT (R15). -/
def execWriteLoCommit (req : Requester) (ofs : Fin (2 ^ 28)) (v : BitVec 32) (s : State) : Host.Outcome State Fault Refusal :=
  .next (if (loAt (ofsClass ofs) (ofsReg ofs)).isSome then busWrite s req ofs 4 v.toNat else s)

/-- COUNT_LO_READ (R60): a read of `TMP_COUNT_LO`. -/
def execCountLoRead (req : Requester) (s : State) : Host.Outcome State Fault Refusal :=
  .next (busRead s req (regOfs cTMP 0 TMP_COUNT.off) 4)

/-! ## One action of a register -/

/-- ROLE_WRITE (R50). -/
def execRoleWrite (req : Requester) (v : BitVec 32) (s : State) : Host.Outcome State Fault Refusal :=
  .next (regRow s req cTMP 0 TMP_CTRL_ROLE.off v.toNat
    (bitsOf v.toNat 1 0 != getF s TMP_CTRL_ROLE 0 0 || bitOf v.toNat 6 != getF s TMP_CTRL_FRAMED 0 0))

/-- APPLY_EPOCH (R58). -/
def execApplyEpoch (req : Requester) (v : BitVec 32) (s : State) : Host.Outcome State Fault Refusal :=
  .next (regRow s req cTMP 0 TMP_CTRL_ROLE.off v.toNat (hasBit v.toNat 7))

/-- MOV_FORCE (R80). -/
def execMovForce (req : Requester) (site : Fin 16) (v : BitVec 32) (s : State) : Host.Outcome State Fault Refusal :=
  .next (regRow s req cMOV site MOV_CTRL_START.off v.toNat (hasBit v.toNat 2))

/-- START (R82). -/
def execStart (req : Requester) (site : Fin 16) (v : BitVec 32) (s : State) : Host.Outcome State Fault Refusal :=
  .next (regRow s req cMOV site MOV_CTRL_START.off v.toNat (hasBit v.toNat 0))

/-- STOP (R84). -/
def execStop (req : Requester) (site : Fin 16) (v : BitVec 32) (s : State) : Host.Outcome State Fault Refusal :=
  .next (regRow s req cMOV site MOV_CTRL_START.off v.toNat (hasBit v.toNat 1))

/-- SWAP_ARM (R85). -/
def execSwapArm (req : Requester) (site : Fin 16) (v : BitVec 32) (s : State) : Host.Outcome State Fault Refusal :=
  .next (regRow s req cMOV site MOV_CTRL_START.off v.toNat (hasBit v.toNat 4))

/-- SWAP_DISARM (R85). -/
def execSwapDisarm (req : Requester) (site : Fin 16) (v : BitVec 32) (s : State) : Host.Outcome State Fault Refusal :=
  .next (regRow s req cMOV site MOV_CTRL_START.off v.toNat (!hasBit v.toNat 4))

/-- MOVE_LOAD_DATA (R86). -/
def execMoveLoadData (req : Requester) (site : Fin 16) (v : BitVec 32) (s : State) :
    Host.Outcome State Fault Refusal :=
  .next (regRow s req cMOV site MOV_LOAD_DATA.off v.toNat true)

/-- COPY_LOAD_GO (R86). -/
def execCopyLoadGo (req : Requester) (site : Fin 16) (v : BitVec 32) (s : State) : Host.Outcome State Fault Refusal :=
  .next (regRow s req cMOV site MOV_DMA_CTRL_GO.off v.toNat (hasBit v.toNat 31))

/-- PWR_REQ_ON (R138). -/
def execPwrReqOn (req : Requester) (c : Fin 1280) (v : BitVec 32) (s : State) : Host.Outcome State Fault Refusal :=
  .next (regRow s req cCOR c COR_CTRL_RUN.off v.toNat (bitsOf v.toNat 5 4 == 0))

/-- PWR_REQ_RETAIN (R138). -/
def execPwrReqRetain (req : Requester) (c : Fin 1280) (v : BitVec 32) (s : State) :
    Host.Outcome State Fault Refusal :=
  .next (regRow s req cCOR c COR_CTRL_RUN.off v.toNat (bitsOf v.toNat 5 4 == 1))

/-- PWR_REQ_OFF (R138). -/
def execPwrReqOff (req : Requester) (c : Fin 1280) (v : BitVec 32) (s : State) : Host.Outcome State Fault Refusal :=
  .next (regRow s req cCOR c COR_CTRL_RUN.off v.toNat (decide (2 ≤ bitsOf v.toNat 5 4)))

/-- RUN (R138). -/
def execRun (req : Requester) (c : Fin 1280) (v : BitVec 32) (s : State) : Host.Outcome State Fault Refusal :=
  .next (regRow s req cCOR c COR_CTRL_RUN.off v.toNat (hasBit v.toNat 0))

/-- COR_HALT (R138). -/
def execCorHalt (req : Requester) (c : Fin 1280) (v : BitVec 32) (s : State) : Host.Outcome State Fault Refusal :=
  .next (regRow s req cCOR c COR_CTRL_RUN.off v.toNat (hasBit v.toNat 1))

/-- CLR_FAULT (R138). -/
def execClrFault (req : Requester) (c : Fin 1280) (v : BitVec 32) (s : State) : Host.Outcome State Fault Refusal :=
  .next (regRow s req cCOR c COR_CTRL_RUN.off v.toNat (hasBit v.toNat 2))

/-- CORE_RESET (R417). -/
def execCoreReset (req : Requester) (c : Fin 1280) (v : BitVec 32) (s : State) : Host.Outcome State Fault Refusal :=
  .next (regRow s req cCOR c COR_CTRL_RUN.off v.toNat (hasBit v.toNat 3))

/-- BANK_HANDOVER (R197). -/
def execBankHandover (req : Requester) (cluster : Bool) (inst : Fin 1280) (n : Fin 32) (v : BitVec 32) (s : State) :
    Host.Outcome State Fault Refusal :=
  .next (regRow s req (if cluster then cCLU else cCOR) (bankOf cluster inst n).inst (0x100 + 8 * (bankOf cluster inst n).n) v.toNat
    (hasBit v.toNat 31))

/-- LC_APPLY (R204). -/
def execLcApply (req : Requester) (cl : Fin 32) (v : BitVec 32) (s : State) : Host.Outcome State Fault Refusal :=
  .next (regRow s req cCLU cl CLU_LC_CTRL_APPLY.off v.toNat (hasBit v.toNat 31))

/-- STACK_RESET (R241). -/
def execStackReset (req : Requester) (k : Fin 8) (v : BitVec 32) (s : State) : Host.Outcome State Fault Refusal :=
  .next (regRow s req cMST k MST_CTRL_RESET.off v.toNat (hasBit v.toNat 0))

/-- FIRMWARE_GRANT (R258). -/
def execFirmwareGrant (req : Requester) (site : Fin 16) (v : BitVec 32) (s : State) :
    Host.Outcome State Fault Refusal :=
  .next (regRow s req cPRT site PRT_GRANT_CTRL_GRANT.off v.toNat (hasBit v.toNat 0))

/-- FIRMWARE_RELEASE (R258). -/
def execFirmwareRelease (req : Requester) (site : Fin 16) (v : BitVec 32) (s : State) :
    Host.Outcome State Fault Refusal :=
  .next (regRow s req cPRT site PRT_GRANT_CTRL_GRANT.off v.toNat (hasBit v.toNat 1))

/-- PLANNED_SWITCH_ARM (R280). -/
def execPlannedSwitchArm (req : Requester) (src : Fin 6) (v : BitVec 32) (s : State) :
    Host.Outcome State Fault Refusal :=
  .next (regRow s req cLSR src LSR_CTRL_EN.off v.toNat (hasBit v.toNat 0))

/-- RT_DATA_WRITE (R311). -/
def execRtDataWrite (req : Requester) (v : BitVec 32) (s : State) : Host.Outcome State Fault Refusal :=
  .next (regRow s req cFAB 0 FAB_RT_DATA.off v.toNat true)

/-- RT_COPY_ACTIVE (R311). -/
def execRtCopyActive (req : Requester) (v : BitVec 32) (s : State) : Host.Outcome State Fault Refusal :=
  .next (regRow s req cFAB 0 FAB_CTRL_EPOCH_ARM.off v.toNat (hasBit v.toNat 4))

/-- EPOCH_ARM (R312). -/
def execEpochArm (req : Requester) (v : BitVec 32) (s : State) : Host.Outcome State Fault Refusal :=
  .next (regRow s req cFAB 0 FAB_CTRL_EPOCH_ARM.off v.toNat (hasBit v.toNat 0))

/-- MC_INVAL (R320). -/
def execMcInval (req : Requester) (v : BitVec 32) (s : State) : Host.Outcome State Fault Refusal :=
  .next (regRow s req cFAB 0 FAB_MC_INVAL.off v.toNat true)

/-- NODE_WRITE (R331). -/
def execNodeWrite (req : Requester) (v : BitVec 32) (s : State) : Host.Outcome State Fault Refusal :=
  .next (regRow s req cFAB 0 FAB_NODE_NODE.off v.toNat true)

/-- COPY_TABLE_DATA (R341). -/
def execCopyTableData (req : Requester) (site : Fin 16) (v : BitVec 32) (s : State) :
    Host.Outcome State Fault Refusal :=
  .next (regRow s req cPRT site PRT_CPY_DATA.off v.toNat true)

/-- SYN_ADD_WRITE (R366). -/
def execSynAddWrite (req : Requester) (page : Fin 128) (v : BitVec 32) (s : State) :
    Host.Outcome State Fault Refusal :=
  .next (regRow s req cSYN page SYN_ADD.off v.toNat true)

/-- PORT_ENABLE (R355). -/
def execPortEnable (req : Requester) (n : Fin 16) (v : BitVec 32) (s : State) : Host.Outcome State Fault Refusal :=
  .next (regRow s req cVLK n VLK_CTRL_EN.off v.toNat true)

/-- PORT_ACCEPT (R355). -/
def execPortAccept (req : Requester) (n : Fin 16) (v : BitVec 32) (s : State) : Host.Outcome State Fault Refusal :=
  .next (regRow s req cVLK n VLK_CTRL_EN.off v.toNat (hasBit v.toNat 2))

/-- PORT_DOWN (R355). -/
def execPortDown (req : Requester) (n : Fin 16) (v : BitVec 32) (s : State) : Host.Outcome State Fault Refusal :=
  .next (regRow s req cVLK n VLK_CTRL_EN.off v.toNat (hasBit v.toNat 4))

/-- PORT_RETRAIN (R355). -/
def execPortRetrain (req : Requester) (n : Fin 16) (v : BitVec 32) (s : State) : Host.Outcome State Fault Refusal :=
  .next (regRow s req cVLK n VLK_CTRL_EN.off v.toNat (hasBit v.toNat 3))

/-- RESET_NOTICE (R363). -/
def execResetNotice (req : Requester) (v : BitVec 32) (s : State) : Host.Outcome State Fault Refusal :=
  .next (regRow s req cFAB 0 FAB_RST_CTRL_NOTICE.off v.toNat (hasBit v.toNat 0))

/-- RESET_CANCEL (R363). -/
def execResetCancel (req : Requester) (v : BitVec 32) (s : State) : Host.Outcome State Fault Refusal :=
  .next (regRow s req cFAB 0 FAB_RST_CTRL_NOTICE.off v.toNat (hasBit v.toNat 1))

/-- SAMPLER_ARM (R370). -/
def execSamplerArm (req : Requester) (d : Fin 8) (v : BitVec 32) (s : State) : Host.Outcome State Fault Refusal :=
  .next (regRow s req cSMP d SMP_CTRL_ARM.off v.toNat (hasBit v.toNat 0))

/-- SAMPLER_DISARM (R396). -/
def execSamplerDisarm (req : Requester) (d : Fin 8) (v : BitVec 32) (s : State) : Host.Outcome State Fault Refusal :=
  .next (regRow s req cSMP d SMP_CTRL_ARM.off v.toNat (hasBit v.toNat 1))

/-- SAMPLER_ABORT (R379). -/
def execSamplerAbort (req : Requester) (d : Fin 8) (v : BitVec 32) (s : State) : Host.Outcome State Fault Refusal :=
  .next (regRow s req cSMP d SMP_CTRL_ARM.off v.toNat (hasBit v.toNat 2))

/-- GMB_ENABLE (R383). -/
def execGmbEnable (req : Requester) (c : Fin 8) (v : BitVec 32) (s : State) : Host.Outcome State Fault Refusal :=
  .next (regRow s req cGMB 0 (0x100 + 0x40 * c.val) v.toNat (hasBit v.toNat 0))

/-- GMB_ABORT (R398). -/
def execGmbAbort (req : Requester) (c : Fin 8) (v : BitVec 32) (s : State) : Host.Outcome State Fault Refusal :=
  .next (regRow s req cGMB 0 (0x100 + 0x40 * c.val) v.toNat (hasBit v.toNat 1))

/-- GMB_CLEAR (R398). -/
def execGmbClear (req : Requester) (c : Fin 8) (v : BitVec 32) (s : State) : Host.Outcome State Fault Refusal :=
  .next (regRow s req cGMB 0 (0x100 + 0x40 * c.val) v.toNat (hasBit v.toNat 2))

/-- RESEED (R380). -/
def execReseed (req : Requester) (v : BitVec 32) (s : State) : Host.Outcome State Fault Refusal :=
  .next (regRow s req cGMB 0 GMB_RNG_CTRL.off v.toNat (hasBit v.toNat 0))

/-- FUSE_ADD (R410). -/
def execFuseAdd (req : Requester) (v : BitVec 32) (s : State) : Host.Outcome State Fault Refusal :=
  .next (regRow s req cFUS 0 FUS_CTRL.off v.toNat (hasBit v.toNat 0))

/-- RETIRE (R412). -/
def execRetire (req : Requester) (v : BitVec 32) (s : State) : Host.Outcome State Fault Refusal :=
  .next (regRow s req cMGT 0 MGT_RETIRE_GO.off v.toNat (hasBit v.toNat 31))

/-- CLUSTER_RESET (R417). -/
def execClusterReset (req : Requester) (v : BitVec 32) (s : State) : Host.Outcome State Fault Refusal :=
  .next (regRow s req cMGT 0 MGT_RST_CTRL_GO.off v.toNat (hasBit v.toNat 31 && bitsOf v.toNat 29 28 == 0))

/-- PARTITION_RESET (R422). -/
def execPartitionReset (req : Requester) (v : BitVec 32) (s : State) : Host.Outcome State Fault Refusal :=
  .next (regRow s req cMGT 0 MGT_RST_CTRL_GO.off v.toNat (hasBit v.toNat 31 && bitsOf v.toNat 29 28 == 1))

/-- MODULE_RESET (R423). -/
def execModuleReset (req : Requester) (v : BitVec 32) (s : State) : Host.Outcome State Fault Refusal :=
  .next (regRow s req cMGT 0 MGT_RST_CTRL_GO.off v.toNat (hasBit v.toNat 31 && bitsOf v.toNat 29 28 == 2))

/-- PARTITION_RELEASE (R418). -/
def execPartitionRelease (req : Requester) (v : BitVec 32) (s : State) : Host.Outcome State Fault Refusal :=
  .next (regRow s req cMGT 0 MGT_RST_CTRL_GO.off v.toNat (hasBit v.toNat 30))

/-- PART_MAP_WRITE (R425). -/
def execPartMapWrite (req : Requester) (v : BitVec 32) (s : State) : Host.Outcome State Fault Refusal :=
  .next (regRow s req cMGT 0 MGT_PART_MAP.off v.toNat true)

/-- ARB_CASTLE (R435). -/
def execArbCastle (req : Requester) (v : BitVec 32) (s : State) : Host.Outcome State Fault Refusal :=
  .next (regRow s req cARB 0 ARB_CTRL_CASTLE.off v.toNat (hasBit v.toNat 0))

/-- ARB_RESTART (R442). -/
def execArbRestart (req : Requester) (v : BitVec 32) (s : State) : Host.Outcome State Fault Refusal :=
  .next (regRow s req cARB 0 ARB_CTRL_CASTLE.off v.toNat (hasBit v.toNat 1))

/-- UPDATE_START (R443). -/
def execUpdateStart (req : Requester) (v : BitVec 32) (s : State) : Host.Outcome State Fault Refusal :=
  .next (regRow s req cARB 0 ARB_UPD_CTRL_START.off v.toNat (hasBit v.toNat 0))

/-- UPDATE_ABORT (R444). -/
def execUpdateAbort (req : Requester) (v : BitVec 32) (s : State) : Host.Outcome State Fault Refusal :=
  .next (regRow s req cARB 0 ARB_UPD_CTRL_START.off v.toNat (hasBit v.toNat 1))

/-- ESTOP_GO (R462). -/
def execEstopGo (req : Requester) (v : BitVec 32) (s : State) : Host.Outcome State Fault Refusal :=
  .next (regRow s req cPWR 0 PWR_ESTOP_GO.off v.toNat (hasBit v.toNat 0))

/-- RATIO_REQUEST (R454). -/
def execRatioRequest (req : Requester) (v : BitVec 32) (s : State) : Host.Outcome State Fault Refusal :=
  .next (regRow s req cPWR 0 PWR_DIE_CLK.off v.toNat true)

/-- HALF_RATIO_REQUEST (R455). -/
def execHalfRatioRequest (req : Requester) (v : BitVec 32) (s : State) : Host.Outcome State Fault Refusal :=
  .next (regRow s req cPWR 0 PWR_HALF_CLK_WEST_REQ.off v.toNat true)

/-- STOP_CLEAR (R463). -/
def execStopClear (req : Requester) (v : BitVec 32) (s : State) : Host.Outcome State Fault Refusal :=
  .next (regRow s req cTHM 0 THM_STOP_CLR.off v.toNat true)

/-- CQ_HEAD_WRITE (R484). -/
def execCqHeadWrite (req : Requester) (p : Fin 8) (v : BitVec 32) (s : State) : Host.Outcome State Fault Refusal :=
  .next (regRow s req cHST 0 (0x11C + 0x40 * p.val) v.toNat true)

/-- SQ_ENABLE (R501). -/
def execSqEnable (req : Requester) (p : Fin 8) (v : BitVec 32) (s : State) : Host.Outcome State Fault Refusal :=
  .next (regRow s req cHST 0 (0x108 + 0x40 * p.val) v.toNat (hasBit v.toNat 31))

/-- MAILBOX_ENABLE (R485). -/
def execMailboxEnable (req : Requester) (p : Fin 8) (v : BitVec 32) (s : State) : Host.Outcome State Fault Refusal :=
  .next (regRow s req cHST 0 (0x12C + 0x40 * p.val) v.toNat (hasBit v.toNat 31))

/-- IMAGE_VERIFY (R489). -/
def execImageVerify (req : Requester) (v : BitVec 32) (s : State) : Host.Outcome State Fault Refusal :=
  .next (regRow s req cSEC 0 SEC_IMG_CTRL_VERIFY.off v.toNat (hasBit v.toNat 0))

/-- SVN_COMMIT (R492). -/
def execSvnCommit (req : Requester) (v : BitVec 32) (s : State) : Host.Outcome State Fault Refusal :=
  .next (regRow s req cSEC 0 SEC_IMG_CTRL_VERIFY.off v.toNat (hasBit v.toNat 2))

/-- LOG_CLEAR (R520). -/
def execLogClear (req : Requester) (v : BitVec 32) (s : State) : Host.Outcome State Fault Refusal :=
  .next (regRow s req cERR 0 ERR_CTRL_CLEAR.off v.toNat (hasBit v.toNat 0))

/-- LOG_CLEAR_CNT (R526). -/
def execLogClearCnt (req : Requester) (v : BitVec 32) (s : State) : Host.Outcome State Fault Refusal :=
  .next (regRow s req cERR 0 ERR_CTRL_CLEAR.off v.toNat (hasBit v.toNat 1))

/-- LOG_READ_LATCH (R521). -/
def execLogReadLatch (req : Requester) (v : BitVec 32) (s : State) : Host.Outcome State Fault Refusal :=
  .next (regRow s req cERR 0 ERR_RD_IDX.off v.toNat true)

/-- ERR_FIND_SEARCH (R526). -/
def execErrFindSearch (req : Requester) (v : BitVec 32) (s : State) : Host.Outcome State Fault Refusal :=
  .next (regRow s req cERR 0 ERR_FIND_CLASS.off v.toNat true)

/-- EVENT_FORCE (R538). -/
def execEventForce (req : Requester) (cls : Fin 32) (inst : Fin 2048) (v : BitVec 32) (s : State) :
    Host.Outcome State Fault Refusal :=
  .next (regRow s req cls inst 0x1C v.toNat true)

/-- EVENT_FLAG_CLEAR (R537). -/
def execEventFlagClear (req : Requester) (cls : Fin 32) (inst : Fin 2048) (v : BitVec 32) (s : State) :
    Host.Outcome State Fault Refusal :=
  .next (regRow s req cls inst 0x14 v.toNat true)

/-- EVENT_MASK_WRITE (R539). -/
def execEventMaskWrite (req : Requester) (cls : Fin 32) (inst : Fin 2048) (v : BitVec 32) (s : State) :
    Host.Outcome State Fault Refusal :=
  .next (regRow s req cls inst 0x18 v.toNat true)

/-- EVT_CNT_SEL_WRITE (R539). -/
def execEvtCntSelWrite (req : Requester) (cls : Fin 32) (inst : Fin 2048) (v : BitVec 32) (s : State) :
    Host.Outcome State Fault Refusal :=
  .next (regRow s req cls inst 0x20 v.toNat true)

/-- SUM_CLEAR (R535). -/
def execSumClear (req : Requester) (cls : Fin 32) (inst : Fin 2048) (v : BitVec 32) (s : State) :
    Host.Outcome State Fault Refusal :=
  .next (regRow s req cls inst 0x08 v.toNat (hasBit v.toNat 0))

/-- OWNER_WRITE (R540). -/
def execOwnerWrite (req : Requester) (cls : Fin 32) (inst : Fin 2048) (v : BitVec 32) (s : State) :
    Host.Outcome State Fault Refusal :=
  .next (regRow s req cls inst 0x30 v.toNat true)

/-- SEAL_WRITE (R541). -/
def execSealWrite (req : Requester) (cls : Fin 32) (inst : Fin 2048) (v : BitVec 32) (s : State) :
    Host.Outcome State Fault Refusal :=
  .next (regRow s req cls inst 0x34 v.toNat true)

end Sys2Proof.Machine
end

