-- ==== Sys2Proof/Machine/Scalar.lean ====
section
/-! DEFINITION. Machine/Scalar.lean: the scalar instructions (R162 to R168). The command gives the instruction word that
the core fetches, by its fields; the opcode, and FN where it selects the operation, are the row's own. -/

namespace Sys2Proof.Machine

/-- A register written by the scalar unit, and the instruction retires. -/
def putReg (s : State) (c d v : Nat) : State := retire (modCore s c fun k => k.setS d v) c 1

/-- A scalar register of a core. -/
def getS (s : State) (c r : Nat) : Nat := (getCore s c).s r

/-- The program counter set. -/
def setPc (s : State) (c pc : Nat) : State := modCore s c fun k => { k with pc := pc }

/-- The address of a word `i` words from the one at `pc` (R165). -/
def wordsFrom (pc : Nat) (i : BitVec 32) : Nat := add64 pc (8 * imm64 i)

/-! ## ALU (R163) -/

/-- D ← sA op (sB + IMM), modulo 2^64. -/
def aluOp (s : State) (c : Nat) (f : FmtA) (op : Nat → Nat → Nat) : State :=
  dispatch s c [f.a, f.b, f.d] (resv (f.rsv == 0)) fun s _ =>
    putReg s c f.d (op (getS s c f.a) (add64 (getS s c f.b) (imm64 f.imm)))

/-- ALU ADD (R163): the sum. -/
def execAluAdd (c : Fin 1280) (f : FmtA) (s : State) : Host.Outcome State Fault Refusal :=
  .next (aluOp s c f fun s t => s + t)

/-- ALU SUB (R163): the difference. -/
def execAluSub (c : Fin 1280) (f : FmtA) (s : State) : Host.Outcome State Fault Refusal :=
  .next (aluOp s c f fun s t => s + (2 ^ 64 - t))

/-- ALU AND (R163): the conjunction. -/
def execAluAnd (c : Fin 1280) (f : FmtA) (s : State) : Host.Outcome State Fault Refusal :=
  .next (aluOp s c f fun s t => s &&& t)

/-- ALU OR (R163): the disjunction. -/
def execAluOr (c : Fin 1280) (f : FmtA) (s : State) : Host.Outcome State Fault Refusal :=
  .next (aluOp s c f fun s t => s ||| t)

/-- ALU XOR (R163): the exclusive-or. -/
def execAluXor (c : Fin 1280) (f : FmtA) (s : State) : Host.Outcome State Fault Refusal :=
  .next (aluOp s c f fun s t => s ^^^ t)

/-- ALU SHL (R163): a left shift by bits [5:0]. -/
def execAluShl (c : Fin 1280) (f : FmtA) (s : State) : Host.Outcome State Fault Refusal :=
  .next (aluOp s c f fun s t => s * 2 ^ (t % 64))

/-- ALU SHR (R163): a logical right shift by bits [5:0]. -/
def execAluShr (c : Fin 1280) (f : FmtA) (s : State) : Host.Outcome State Fault Refusal :=
  .next (aluOp s c f fun s t => s / 2 ^ (t % 64))

/-- ALU SRA (R163): an arithmetic right shift by bits [5:0]. -/
def execAluSra (c : Fin 1280) (f : FmtA) (s : State) : Host.Outcome State Fault Refusal :=
  .next (aluOp s c f fun s t => ofSigned 64 (toSigned 64 s / 2 ^ (t % 64)))

/-- ALU SLT (R163): 1 if less, signed. -/
def execAluSlt (c : Fin 1280) (f : FmtA) (s : State) : Host.Outcome State Fault Refusal :=
  .next (aluOp s c f fun s t => if toSigned 64 s < toSigned 64 t then 1 else 0)

/-- ALU SLTU (R163): 1 if less, unsigned. -/
def execAluSltu (c : Fin 1280) (f : FmtA) (s : State) : Host.Outcome State Fault Refusal :=
  .next (aluOp s c f fun s t => if s < t then 1 else 0)

/-- ALU MIN (R163): the signed minimum. -/
def execAluMin (c : Fin 1280) (f : FmtA) (s : State) : Host.Outcome State Fault Refusal :=
  .next (aluOp s c f fun s t => if toSigned 64 s ≤ toSigned 64 t then s else t)

/-- ALU MAX (R163): the signed maximum. -/
def execAluMax (c : Fin 1280) (f : FmtA) (s : State) : Host.Outcome State Fault Refusal :=
  .next (aluOp s c f fun s t => if toSigned 64 s ≤ toSigned 64 t then t else s)

/-- ALU MINU (R163): the unsigned minimum. -/
def execAluMinu (c : Fin 1280) (f : FmtA) (s : State) : Host.Outcome State Fault Refusal :=
  .next (aluOp s c f fun s t => min s t)

/-- ALU MAXU (R163): the unsigned maximum. -/
def execAluMaxu (c : Fin 1280) (f : FmtA) (s : State) : Host.Outcome State Fault Refusal :=
  .next (aluOp s c f fun s t => max s t)

/-- ALU MUL (R163): the low 64 bits of the product. -/
def execAluMul (c : Fin 1280) (f : FmtA) (s : State) : Host.Outcome State Fault Refusal :=
  .next (aluOp s c f fun s t => s * t)

/-- ALU MULH (R163): the high 64 bits of the signed product. -/
def execAluMulh (c : Fin 1280) (f : FmtA) (s : State) : Host.Outcome State Fault Refusal :=
  .next (aluOp s c f fun s t => ofSigned 64 (toSigned 64 s * toSigned 64 t / 2 ^ 64))

/-- ALU MULHU (R163): the high 64 bits of the unsigned product. -/
def execAluMulhu (c : Fin 1280) (f : FmtA) (s : State) : Host.Outcome State Fault Refusal :=
  .next (aluOp s c f fun s t => s * t / 2 ^ 64)

/-! ## Constants (R162, R164) -/

/-- NOP (R162). -/
def execNop (c : Fin 1280) (fn : Fin 128) (f : FmtA) (s : State) : Host.Outcome State Fault Refusal :=
  .next (dispatch s c []
    (resv (f.d.val == 0 && f.a.val == 0 && f.b.val == 0 && fn.val == 0 && f.rsv == 0 && f.imm == 0))
    fun s _ => retire s c 1)

/-- MOVI (R164). -/
def execMovi (c : Fin 1280) (fn : Fin 128) (f : FmtA) (s : State) : Host.Outcome State Fault Refusal :=
  .next (dispatch s c [f.d] (resv (f.a.val == 0 && f.b.val == 0 && fn.val == 0 && f.rsv == 0))
    fun s _ => putReg s c f.d (imm64 f.imm))

/-- MOVHI (R164). -/
def execMovhi (c : Fin 1280) (fn : Fin 128) (f : FmtA) (s : State) : Host.Outcome State Fault Refusal :=
  .next (dispatch s c [f.a, f.d] (resv (f.b.val == 0 && fn.val == 0 && f.rsv == 0))
    fun s _ => putReg s c f.d (getS s c f.a % 2 ^ 32 + f.imm.toNat * 2 ^ 32))

/-! ## Control transfers (R165) -/

/-- A branch on a comparison of sA with sB. -/
def branchOp (s : State) (c : Nat) (f : FmtA) (cond : Nat → Nat → Bool) : State :=
  dispatch s c [f.a, f.b] (resv (f.d.val == 0 && f.rsv == 0)) fun s pc =>
    let s := if cond (getS s c f.a) (getS s c f.b) then setPc s c (wordsFrom pc f.imm) else s
    retire s c 1

/-- BR EQ (R165). -/
def execBrEq (c : Fin 1280) (f : FmtA) (s : State) : Host.Outcome State Fault Refusal :=
  .next (branchOp s c f fun x y => x == y)

/-- BR NE (R165). -/
def execBrNe (c : Fin 1280) (f : FmtA) (s : State) : Host.Outcome State Fault Refusal :=
  .next (branchOp s c f fun x y => x != y)

/-- BR LT (R165). -/
def execBrLt (c : Fin 1280) (f : FmtA) (s : State) : Host.Outcome State Fault Refusal :=
  .next (branchOp s c f fun x y => decide (toSigned 64 x < toSigned 64 y))

/-- BR GE (R165). -/
def execBrGe (c : Fin 1280) (f : FmtA) (s : State) : Host.Outcome State Fault Refusal :=
  .next (branchOp s c f fun x y => decide (toSigned 64 y ≤ toSigned 64 x))

/-- BR LTU (R165). -/
def execBrLtu (c : Fin 1280) (f : FmtA) (s : State) : Host.Outcome State Fault Refusal :=
  .next (branchOp s c f fun x y => decide (x < y))

/-- BR GEU (R165). -/
def execBrGeu (c : Fin 1280) (f : FmtA) (s : State) : Host.Outcome State Fault Refusal :=
  .next (branchOp s c f fun x y => decide (y ≤ x))

/-- JAL (R165). -/
def execJal (c : Fin 1280) (fn : Fin 128) (f : FmtA) (s : State) : Host.Outcome State Fault Refusal :=
  .next (dispatch s c [f.d] (resv (f.a.val == 0 && f.b.val == 0 && fn.val == 0 && f.rsv == 0)) fun s pc =>
    setPc (putReg s c f.d (add64 pc 8)) c (wordsFrom pc f.imm))

/-- JR (R165): a target that is not 8 B-aligned faults at the fetch unit. -/
def execJr (c : Fin 1280) (fn : Fin 128) (f : FmtA) (s : State) : Host.Outcome State Fault Refusal :=
  .next (dispatch s c [f.a, f.d] (resv (f.b.val == 0 && fn.val == 0 && f.rsv == 0)) fun s pc =>
    let target := add64 (getS s c f.a) (imm64 f.imm)
    let s := setPc (putReg s c f.d (add64 pc 8)) c target
    if target % 8 = 0 then s else faultCore s c fcMisaligned uFetch 0 target)

/-! ## CSR (R166, R167) -/

/-- Core clocks since core reset (R166). -/
def coreClock (s : State) (c : Nat) : Nat :=
  (dieClock s (corDie c) + 2 ^ 64 - (getCore s c).clock0 % 2 ^ 64) % 2 ^ 64

/-- The beat and clock in the layout of `TMP_BEAT` (R89). -/
def beatWord (s : State) : Nat := s.time.clk * 2 ^ TMP_BEAT_CLK.lo + s.time.beat

/-- The value of a CSR. The partition of a core whose site is in none is not stated: a free value (log entry 16, DESIGN CHOICE). -/
def csrValue (s : State) (c n : Nat) : Nat :=
  let k := getCore s c
  if n = 0 then k.asw
  else if n = 1 then (lidOfCor s c).getD 0
  else if n = 2 then (partOf s (corSite c)).getD ((Config.freeValue s.draws).toNat % 8)
  else if n = 3 then s.time.count
  else if n = 4 then beatWord s
  else if n = 5 then coreClock s c
  else if n = 6 then k.fstat
  else if n = 7 then k.dstat
  else getF s MOV_ITER (corSite c) 0

/-- CSRs that a CLEAR may name: ASW, FSTAT, DSTAT. -/
def csrClearable (n : Nat) : Bool := n == 0 || n == 6 || n == 7

/-- The bits of `m` taken out of a number. -/
def andNot (v m : Nat) : Nat := v &&& (2 ^ 64 - 1 - m % 2 ^ 64)

/-- FSTAT or DSTAT without the bits of `m`: a failure recorded in this clock, `clk`, wins (R167). -/
def failClear (clk w m : Nat) (n : FailNow) : Nat :=
  if n.at_ = clk + 1 then n.sts.foldl recordFail (andNot n.before m) else andNot w m

/-- The CSRs without the bits of `m`. -/
def csrClear (clk : Nat) (k : Core) (n m : Nat) : Core :=
  if n = 0 then { k with asw := andNot k.asw m }
  else if n = 6 then { k with fstat := failClear clk k.fstat m k.fnow, fnow := { k.fnow with before := andNot k.fnow.before m } }
  else { k with dstat := failClear clk k.dstat m k.dnow, dnow := { k.dnow with before := andNot k.dnow.before m } }

/-- The CSR number of an instruction, IMM [11:0]. -/
def csrNo (f : FmtA) : Nat := f.imm.toNat % 4096

/-- The fault of a CSR access: reserved fields and IMM [31:12] first, then a CSR that does not exist or does not allow it
(R160, R166; log entry 17, DEDUCED). -/
def csrCheck (f : FmtA) (unused : Bool) (allowed : Bool) : Option Nat :=
  if !(unused && f.rsv == 0 && f.imm.toNat / 4096 == 0) then some fcReserved
  else if allowed then none else some fcIllegal

/-- CSR READ (R166). -/
def execCsrRead (c : Fin 1280) (f : FmtA) (s : State) : Host.Outcome State Fault Refusal :=
  .next (dispatch s c [f.d] (csrCheck f (f.a.val == 0 && f.b.val == 0) (decide (csrNo f ≤ 8))) fun s _ =>
    let v := csrValue s c (csrNo f)
    let s := if csrNo f = 2 ∧ (partOf s (corSite c)).isNone then { s with draws := s.draws + 1 } else s
    putReg s c f.d v)

/-- CSR WRITE (R166): no CSR allows it. -/
def execCsrWrite (c : Fin 1280) (f : FmtA) (s : State) : Host.Outcome State Fault Refusal :=
  .next (dispatch s c [f.b] (csrCheck f (f.d.val == 0 && f.a.val == 0) false) fun s _ => s)

/-- CSR CLEAR (R166). -/
def execCsrClear (c : Fin 1280) (f : FmtA) (s : State) : Host.Outcome State Fault Refusal :=
  .next (dispatch s c [f.b, f.d] (csrCheck f (f.a.val == 0) (csrClearable (csrNo f))) fun s _ =>
    let m := getS s c f.b
    let v := csrValue s c (csrNo f)
    putReg (modCore s c fun k => csrClear (nowClk s) k (csrNo f) m) c f.d v)

/-! ## TRAP (R168) -/

/-- TRAP (R168): the fault SOFT_TRAP with IMM [5:0] as its detail. -/
def execTrap (c : Fin 1280) (fn : Fin 128) (f : FmtA) (s : State) : Host.Outcome State Fault Refusal :=
  .next (dispatch s c [] (resv (f.d.val == 0 && f.a.val == 0 && f.b.val == 0 && fn.val == 0 && f.rsv == 0))
    fun s pc => faultCore (setPc s c pc) c fcSoftTrap uScalar (f.imm.toNat % 64) pc)

end Sys2Proof.Machine
end

