-- ==== Sys2Proof/Machine/Dispatch.lean ====
section
/-! DEFINITION. Machine/Dispatch.lean: one arm for each command, one direct call of its meaning. -/

namespace Sys2Proof.Machine

def exec (i : Instr) (s : State) : Host.Outcome State Fault Refusal :=
  match i with
  | .registerWrite req ofs bytes poisoned v => Sys2Proof.Machine.execRegisterWrite req ofs bytes poisoned v s
  | .readLoLatch req ofs bytes => Sys2Proof.Machine.execReadLoLatch req ofs bytes s
  | .writeHiHold req ofs v => Sys2Proof.Machine.execWriteHiHold req ofs v s
  | .writeLoCommit req ofs v => Sys2Proof.Machine.execWriteLoCommit req ofs v s
  | .capacityPublish => Sys2Proof.Machine.execCapacityPublish s
  | .roleWrite req v => Sys2Proof.Machine.execRoleWrite req v s
  | .roleApply => Sys2Proof.Machine.execRoleApply s
  | .tempoBoundary mark => Sys2Proof.Machine.execTempoBoundary mark s
  | .tempoMark bit => Sys2Proof.Machine.execTempoMark bit s
  | .frameReceived => Sys2Proof.Machine.execFrameReceived s
  | .referenceLock => Sys2Proof.Machine.execReferenceLock s
  | .tempoLost marks => Sys2Proof.Machine.execTempoLost marks s
  | .holdoverLimit => Sys2Proof.Machine.execHoldoverLimit s
  | .suspendFollow => Sys2Proof.Machine.execSuspendFollow s
  | .tempoReturn phase beat => Sys2Proof.Machine.execTempoReturn phase beat s
  | .holdoverExit phase => Sys2Proof.Machine.execHoldoverExit phase s
  | .applyEpoch req v => Sys2Proof.Machine.execApplyEpoch req v s
  | .epochApply => Sys2Proof.Machine.execEpochApply s
  | .countLoRead req => Sys2Proof.Machine.execCountLoRead req s
  | .loopHead site => Sys2Proof.Machine.execLoopHead site s
  | .wakeBooking site => Sys2Proof.Machine.execWakeBooking site s
  | .moveNop site => Sys2Proof.Machine.execMoveNop site s
  | .moveGrant site => Sys2Proof.Machine.execMoveGrant site s
  | .moveRelease site => Sys2Proof.Machine.execMoveRelease site s
  | .moveCopyStart site => Sys2Proof.Machine.execMoveCopyStart site s
  | .moveWakeCore site => Sys2Proof.Machine.execMoveWakeCore site s
  | .moveSyncAdd site => Sys2Proof.Machine.execMoveSyncAdd site s
  | .moveSyncSet site => Sys2Proof.Machine.execMoveSyncSet site s
  | .moveCalWindow site => Sys2Proof.Machine.execMoveCalWindow site s
  | .moveHalt site => Sys2Proof.Machine.execMoveHalt site s
  | .deadline site => Sys2Proof.Machine.execDeadline site s
  | .movOverrun site => Sys2Proof.Machine.execMovOverrun site s
  | .entryEccError site => Sys2Proof.Machine.execEntryEccError site s
  | .movForce req site v => Sys2Proof.Machine.execMovForce req site v s
  | .start req site v => Sys2Proof.Machine.execStart req site v s
  | .listCheckDone site ue => Sys2Proof.Machine.execListCheckDone site ue s
  | .stop req site v => Sys2Proof.Machine.execStop req site v s
  | .stopApply site => Sys2Proof.Machine.execStopApply site s
  | .swapArm req site v => Sys2Proof.Machine.execSwapArm req site v s
  | .swapDisarm req site v => Sys2Proof.Machine.execSwapDisarm req site v s
  | .swapCheckDone site ue => Sys2Proof.Machine.execSwapCheckDone site ue s
  | .swap site => Sys2Proof.Machine.execSwap site s
  | .moveLoadData req site v => Sys2Proof.Machine.execMoveLoadData req site v s
  | .copyLoadGo req site v => Sys2Proof.Machine.execCopyLoadGo req site v s
  | .copyLoadComplete site ecc place => Sys2Proof.Machine.execCopyLoadComplete site ecc place s
  | .codebookSlotWrite c e => Sys2Proof.Machine.execCodebookSlotWrite c e s
  | .pwrReqOn req c v => Sys2Proof.Machine.execPwrReqOn req c v s
  | .pwrReqRetain req c v => Sys2Proof.Machine.execPwrReqRetain req c v s
  | .pwrReqOff req c v => Sys2Proof.Machine.execPwrReqOff req c v s
  | .coreTransitionDone c => Sys2Proof.Machine.execCoreTransitionDone c s
  | .run req c v => Sys2Proof.Machine.execRun req c v s
  | .corHalt req c v => Sys2Proof.Machine.execCorHalt req c v s
  | .clrFault req c v => Sys2Proof.Machine.execClrFault req c v s
  | .coreReset req c v => Sys2Proof.Machine.execCoreReset req c v s
  | .coreHalted c => Sys2Proof.Machine.execCoreHalted c s
  | .flitCrcFail d g link ok tag => Sys2Proof.Machine.execFlitCrcFail d g link ok tag s
  | .ratioDecrease d => Sys2Proof.Machine.execRatioDecrease d s
  | .spareSubstitution c ok => Sys2Proof.Machine.execSpareSubstitution c ok s
  | .nop c fn f => Sys2Proof.Machine.execNop c fn f s
  | .aluAdd c f => Sys2Proof.Machine.execAluAdd c f s
  | .aluSub c f => Sys2Proof.Machine.execAluSub c f s
  | .aluAnd c f => Sys2Proof.Machine.execAluAnd c f s
  | .aluOr c f => Sys2Proof.Machine.execAluOr c f s
  | .aluXor c f => Sys2Proof.Machine.execAluXor c f s
  | .aluShl c f => Sys2Proof.Machine.execAluShl c f s
  | .aluShr c f => Sys2Proof.Machine.execAluShr c f s
  | .aluSra c f => Sys2Proof.Machine.execAluSra c f s
  | .aluSlt c f => Sys2Proof.Machine.execAluSlt c f s
  | .aluSltu c f => Sys2Proof.Machine.execAluSltu c f s
  | .aluMin c f => Sys2Proof.Machine.execAluMin c f s
  | .aluMax c f => Sys2Proof.Machine.execAluMax c f s
  | .aluMinu c f => Sys2Proof.Machine.execAluMinu c f s
  | .aluMaxu c f => Sys2Proof.Machine.execAluMaxu c f s
  | .aluMul c f => Sys2Proof.Machine.execAluMul c f s
  | .aluMulh c f => Sys2Proof.Machine.execAluMulh c f s
  | .aluMulhu c f => Sys2Proof.Machine.execAluMulhu c f s
  | .movi c fn f => Sys2Proof.Machine.execMovi c fn f s
  | .movhi c fn f => Sys2Proof.Machine.execMovhi c fn f s
  | .brEq c f => Sys2Proof.Machine.execBrEq c f s
  | .brNe c f => Sys2Proof.Machine.execBrNe c f s
  | .brLt c f => Sys2Proof.Machine.execBrLt c f s
  | .brGe c f => Sys2Proof.Machine.execBrGe c f s
  | .brLtu c f => Sys2Proof.Machine.execBrLtu c f s
  | .brGeu c f => Sys2Proof.Machine.execBrGeu c f s
  | .jal c fn f => Sys2Proof.Machine.execJal c fn f s
  | .jr c fn f => Sys2Proof.Machine.execJr c fn f s
  | .csrRead c f => Sys2Proof.Machine.execCsrRead c f s
  | .csrWrite c f => Sys2Proof.Machine.execCsrWrite c f s
  | .csrClear c f => Sys2Proof.Machine.execCsrClear c f s
  | .halt c fn f => Sys2Proof.Machine.execHalt c fn f s
  | .trap c fn f => Sys2Proof.Machine.execTrap c fn f s
  | .tmma c f residue found => Sys2Proof.Machine.execTmma c f residue found s
  | .tdrain c f => Sys2Proof.Machine.execTdrain c f s
  | .tcbld c f => Sys2Proof.Machine.execTcbld c f s
  | .tileComplete c e => Sys2Proof.Machine.execTileComplete c e s
  | .vld c fn f e => Sys2Proof.Machine.execVld c fn f e s
  | .vst c fn f => Sys2Proof.Machine.execVst c fn f s
  | .vadd c f => Sys2Proof.Machine.execVadd c f s
  | .vsub c f => Sys2Proof.Machine.execVsub c f s
  | .vmul c f => Sys2Proof.Machine.execVmul c f s
  | .vfma c f => Sys2Proof.Machine.execVfma c f s
  | .vmin c f => Sys2Proof.Machine.execVmin c f s
  | .vmax c f => Sys2Proof.Machine.execVmax c f s
  | .vabs c f => Sys2Proof.Machine.execVabs c f s
  | .vneg c f => Sys2Proof.Machine.execVneg c f s
  | .vadds c f => Sys2Proof.Machine.execVadds c f s
  | .vmuls c f => Sys2Proof.Machine.execVmuls c f s
  | .vdiv c f => Sys2Proof.Machine.execVdiv c f s
  | .vsqrt c f => Sys2Proof.Machine.execVsqrt c f s
  | .vrcp c f => Sys2Proof.Machine.execVrcp c f s
  | .vrsqrt c f => Sys2Proof.Machine.execVrsqrt c f s
  | .vexp2 c f => Sys2Proof.Machine.execVexp2 c f s
  | .vlog2 c f => Sys2Proof.Machine.execVlog2 c f s
  | .vexp c f => Sys2Proof.Machine.execVexp c f s
  | .vlog c f => Sys2Proof.Machine.execVlog c f s
  | .vtanh c f => Sys2Proof.Machine.execVtanh c f s
  | .vsigmoid c f => Sys2Proof.Machine.execVsigmoid c f s
  | .vcmpEq c f => Sys2Proof.Machine.execVcmpEq c f s
  | .vcmpLt c f => Sys2Proof.Machine.execVcmpLt c f s
  | .vcmpLe c f => Sys2Proof.Machine.execVcmpLe c f s
  | .vcmpNe c f => Sys2Proof.Machine.execVcmpNe c f s
  | .vsel c fn f => Sys2Proof.Machine.execVsel c fn f s
  | .vredSum c f => Sys2Proof.Machine.execVredSum c f s
  | .vredMax c f => Sys2Proof.Machine.execVredMax c f s
  | .vredMin c f => Sys2Proof.Machine.execVredMin c f s
  | .vbcast c fn f => Sys2Proof.Machine.execVbcast c fn f s
  | .vcvt c fn f => Sys2Proof.Machine.execVcvt c fn f s
  | .ld c fn f e => Sys2Proof.Machine.execLd c fn f e s
  | .st c fn f => Sys2Proof.Machine.execSt c fn f s
  | .dcopy c f => Sys2Proof.Machine.execDcopy c f s
  | .gld c fn f => Sys2Proof.Machine.execGld c fn f s
  | .gst c fn f => Sys2Proof.Machine.execGst c fn f s
  | .sadd c f => Sys2Proof.Machine.execSadd c f s
  | .sset c f => Sys2Proof.Machine.execSset c f s
  | .sread c f => Sys2Proof.Machine.execSread c f s
  | .swait c fn f => Sys2Proof.Machine.execSwait c fn f s
  | .swaitComplete c => Sys2Proof.Machine.execSwaitComplete c s
  | .swaitTimeout c => Sys2Proof.Machine.execSwaitTimeout c s
  | .swaitPoll c => Sys2Proof.Machine.execSwaitPoll c s
  | .atomAdd64 c f => Sys2Proof.Machine.execAtomAdd64 c f s
  | .atomAdd32 c f => Sys2Proof.Machine.execAtomAdd32 c f s
  | .atomFadd32 c f => Sys2Proof.Machine.execAtomFadd32 c f s
  | .atomSwap64 c f => Sys2Proof.Machine.execAtomSwap64 c f s
  | .atomCas64 c f => Sys2Proof.Machine.execAtomCas64 c f s
  | .atomAnd64 c f => Sys2Proof.Machine.execAtomAnd64 c f s
  | .atomOr64 c f => Sys2Proof.Machine.execAtomOr64 c f s
  | .atomXor64 c f => Sys2Proof.Machine.execAtomXor64 c f s
  | .atomMin64 c f => Sys2Proof.Machine.execAtomMin64 c f s
  | .atomMax64 c f => Sys2Proof.Machine.execAtomMax64 c f s
  | .atomMinu64 c f => Sys2Proof.Machine.execAtomMinu64 c f s
  | .atomMaxu64 c f => Sys2Proof.Machine.execAtomMaxu64 c f s
  | .fence c fn f => Sys2Proof.Machine.execFence c fn f s
  | .fenceDone c => Sys2Proof.Machine.execFenceDone c s
  | .mwait c fn f => Sys2Proof.Machine.execMwait c fn f s
  | .bankHandover req cluster inst n v => Sys2Proof.Machine.execBankHandover req cluster inst n v s
  | .handoverDone cluster inst n => Sys2Proof.Machine.execHandoverDone cluster inst n s
  | .handoverForced cluster inst n => Sys2Proof.Machine.execHandoverForced cluster inst n s
  | .bankSleepDone cluster inst n => Sys2Proof.Machine.execBankSleepDone cluster inst n s
  | .bankWakeDone cluster inst n => Sys2Proof.Machine.execBankWakeDone cluster inst n s
  | .lcApply req cl v => Sys2Proof.Machine.execLcApply req cl v s
  | .lcChangeDone cl => Sys2Proof.Machine.execLcChangeDone cl s
  | .writebackRetry cl line => Sys2Proof.Machine.execWritebackRetry cl line s
  | .stackReset req k v => Sys2Proof.Machine.execStackReset req k v s
  | .stackWatchdog k => Sys2Proof.Machine.execStackWatchdog k s
  | .stackDrainLimit k => Sys2Proof.Machine.execStackDrainLimit k s
  | .stackResetDone k => Sys2Proof.Machine.execStackResetDone k s
  | .scrubRead k burst e => Sys2Proof.Machine.execScrubRead k burst e s
  | .refreshCommand ch bank => Sys2Proof.Machine.execRefreshCommand ch bank s
  | .laneFailure ch via => Sys2Proof.Machine.execLaneFailure ch via s
  | .layerFailure k layer => Sys2Proof.Machine.execLayerFailure k layer s
  | .evacDone e => Sys2Proof.Machine.execEvacDone e s
  | .firmwareGrant req site v => Sys2Proof.Machine.execFirmwareGrant req site v s
  | .firmwareRelease req site v => Sys2Proof.Machine.execFirmwareRelease req site v s
  | .ringLock lane l rx code => Sys2Proof.Machine.execRingLock lane l rx code s
  | .circuitEffect lane l => Sys2Proof.Machine.execCircuitEffect lane l s
  | .releaseCutoff lane l => Sys2Proof.Machine.execReleaseCutoff lane l s
  | .releaseEffect lane l => Sys2Proof.Machine.execReleaseEffect lane l s
  | .tuneResweep lane l rx => Sys2Proof.Machine.execTuneResweep lane l rx s
  | .tuneFail lane l rx => Sys2Proof.Machine.execTuneFail lane l rx s
  | .trainingWord lane l w => Sys2Proof.Machine.execTrainingWord lane l w s
  | .mislock lane l rx code came word => Sys2Proof.Machine.execMislock lane l rx code came word s
  | .sweepLock lane l rx code => Sys2Proof.Machine.execSweepLock lane l rx code s
  | .calStale site rx n => Sys2Proof.Machine.execCalStale site rx n s
  | .heatRate site codes => Sys2Proof.Machine.execHeatRate site codes s
  | .lightLoss g => Sys2Proof.Machine.execLightLoss g s
  | .groupResume g => Sys2Proof.Machine.execGroupResume g s
  | .plannedSwitchArm req src v => Sys2Proof.Machine.execPlannedSwitchArm req src v s
  | .plannedSwitch src => Sys2Proof.Machine.execPlannedSwitch src s
  | .packetStart l => Sys2Proof.Machine.execPacketStart l s
  | .load a => Sys2Proof.Machine.execLoad a s
  | .store a => Sys2Proof.Machine.execStore a s
  | .readReq a => Sys2Proof.Machine.execReadReq a s
  | .atomic a => Sys2Proof.Machine.execAtomic a s
  | .syncAdd a => Sys2Proof.Machine.execSyncAdd a s
  | .syncSet a => Sys2Proof.Machine.execSyncSet a s
  | .syncRead a => Sys2Proof.Machine.execSyncRead a s
  | .pktFence a => Sys2Proof.Machine.execPktFence a s
  | .comp a => Sys2Proof.Machine.execComp a s
  | .compData a => Sys2Proof.Machine.execCompData a s
  | .credit a => Sys2Proof.Machine.execCredit a s
  | .creditReturn l => Sys2Proof.Machine.execCreditReturn l s
  | .nak a => Sys2Proof.Machine.execNak a s
  | .packetCrcFail site v => Sys2Proof.Machine.execPacketCrcFail site v s
  | .replayTimeout l => Sys2Proof.Machine.execReplayTimeout l s
  | .throttle a => Sys2Proof.Machine.execThrottle a s
  | .throttleExpire site => Sys2Proof.Machine.execThrottleExpire site s
  | .notice a => Sys2Proof.Machine.execNotice a s
  | .grantMsg a => Sys2Proof.Machine.execGrantMsg a s
  | .grantRefuse a => Sys2Proof.Machine.execGrantRefuse a s
  | .grantReady a => Sys2Proof.Machine.execGrantReady a s
  | .releaseMsg a => Sys2Proof.Machine.execReleaseMsg a s
  | .getS a => Sys2Proof.Machine.execGetS a s
  | .getM a => Sys2Proof.Machine.execGetM a s
  | .putE a => Sys2Proof.Machine.execPutE a s
  | .inval a => Sys2Proof.Machine.execInval a s
  | .recallS a => Sys2Proof.Machine.execRecallS a s
  | .recallI a => Sys2Proof.Machine.execRecallI a s
  | .cohAck a => Sys2Proof.Machine.execCohAck a s
  | .grantM a => Sys2Proof.Machine.execGrantM a s
  | .write a => Sys2Proof.Machine.execWrite a s
  | .readData a => Sys2Proof.Machine.execReadData a s
  | .atomicCas a => Sys2Proof.Machine.execAtomicCas a s
  | .accumF32 a => Sys2Proof.Machine.execAccumF32 a s
  | .lineGrant a => Sys2Proof.Machine.execLineGrant a s
  | .linePutM a => Sys2Proof.Machine.execLinePutM a s
  | .lineReturn a => Sys2Proof.Machine.execLineReturn a s
  | .hotLineOperation key => Sys2Proof.Machine.execHotLineOperation key s
  | .rtDataWrite req v => Sys2Proof.Machine.execRtDataWrite req v s
  | .rtCopyActive req v => Sys2Proof.Machine.execRtCopyActive req v s
  | .rtCopyDone => Sys2Proof.Machine.execRtCopyDone s
  | .epochArm req v => Sys2Proof.Machine.execEpochArm req v s
  | .epochSwitch => Sys2Proof.Machine.execEpochSwitch s
  | .versionFree => Sys2Proof.Machine.execVersionFree s
  | .cmapGather => Sys2Proof.Machine.execCmapGather s
  | .mapCopy => Sys2Proof.Machine.execMapCopy s
  | .fmDemandAction => Sys2Proof.Machine.execFmDemandAction s
  | .mcInval req v => Sys2Proof.Machine.execMcInval req v s
  | .mcTargetRetry n t => Sys2Proof.Machine.execMcTargetRetry n t s
  | .mcComplete n => Sys2Proof.Machine.execMcComplete n s
  | .nodeWrite req v => Sys2Proof.Machine.execNodeWrite req v s
  | .requestTimeout d => Sys2Proof.Machine.execRequestTimeout d s
  | .requestRetry site slot => Sys2Proof.Machine.execRequestRetry site slot s
  | .copyComplete id => Sys2Proof.Machine.execCopyComplete id s
  | .copyTableData req site v => Sys2Proof.Machine.execCopyTableData req site v s
  | .dedupExpire site => Sys2Proof.Machine.execDedupExpire site s
  | .shadowUpdate site => Sys2Proof.Machine.execShadowUpdate site s
  | .synAddWrite req page v => Sys2Proof.Machine.execSynAddWrite req page v s
  | .portEnable req n v => Sys2Proof.Machine.execPortEnable req n v s
  | .portDetect n light => Sys2Proof.Machine.execPortDetect n light s
  | .portTrainingWord n lambda w => Sys2Proof.Machine.execPortTrainingWord n lambda w s
  | .portTrainDone n far => Sys2Proof.Machine.execPortTrainDone n far s
  | .portTrainTimeout n => Sys2Proof.Machine.execPortTrainTimeout n s
  | .identFrame n f => Sys2Proof.Machine.execIdentFrame n f s
  | .identSend n => Sys2Proof.Machine.execIdentSend n s
  | .portAccept req n v => Sys2Proof.Machine.execPortAccept req n v s
  | .portDown req n v => Sys2Proof.Machine.execPortDown req n v s
  | .portRetrain req n v => Sys2Proof.Machine.execPortRetrain req n v s
  | .linkFailure n dark => Sys2Proof.Machine.execLinkFailure n dark s
  | .wavelengthFailure n w => Sys2Proof.Machine.execWavelengthFailure n w s
  | .resetNotice req v => Sys2Proof.Machine.execResetNotice req v s
  | .resetCancel req v => Sys2Proof.Machine.execResetCancel req v s
  | .noticeRepeat => Sys2Proof.Machine.execNoticeRepeat s
  | .portsDrain => Sys2Proof.Machine.execPortsDrain s
  | .portsDark => Sys2Proof.Machine.execPortsDark s
  | .samplerArm req d v => Sys2Proof.Machine.execSamplerArm req d v s
  | .samplerDisarm req d v => Sys2Proof.Machine.execSamplerDisarm req d v s
  | .samplerAbort req d v => Sys2Proof.Machine.execSamplerAbort req d v s
  | .samplerRunStart lead => Sys2Proof.Machine.execSamplerRunStart lead s
  | .samplerRunDone lead => Sys2Proof.Machine.execSamplerRunDone lead s
  | .scanBlockRead d => Sys2Proof.Machine.execScanBlockRead d s
  | .scanDone lead => Sys2Proof.Machine.execScanDone lead s
  | .gmbEnable req c v => Sys2Proof.Machine.execGmbEnable req c v s
  | .roundStart c => Sys2Proof.Machine.execRoundStart c s
  | .roundEnd c => Sys2Proof.Machine.execRoundEnd c s
  | .gmbAbort req c v => Sys2Proof.Machine.execGmbAbort req c v s
  | .gmbClear req c v => Sys2Proof.Machine.execGmbClear req c v s
  | .reseed req v => Sys2Proof.Machine.execReseed req v s
  | .autoReseed ok => Sys2Proof.Machine.execAutoReseed ok s
  | .entropyFail => Sys2Proof.Machine.execEntropyFail s
  | .powerOnReset days orderly => Sys2Proof.Machine.execPowerOnReset days orderly s
  | .bringupStepDone step ms found fail r0 r1 => Sys2Proof.Machine.execBringupStepDone step ms found fail r0 r1 s
  | .fuseAdd req v => Sys2Proof.Machine.execFuseAdd req v s
  | .fuseBlowDone => Sys2Proof.Machine.execFuseBlowDone s
  | .retire req v => Sys2Proof.Machine.execRetire req v s
  | .clusterReset req v => Sys2Proof.Machine.execClusterReset req v s
  | .partitionReset req v => Sys2Proof.Machine.execPartitionReset req v s
  | .moduleReset req v => Sys2Proof.Machine.execModuleReset req v s
  | .partitionRelease req v => Sys2Proof.Machine.execPartitionRelease req v s
  | .resetDrainLimit cluster n => Sys2Proof.Machine.execResetDrainLimit cluster n s
  | .partitionResetDone k => Sys2Proof.Machine.execPartitionResetDone k s
  | .partMapWrite req v => Sys2Proof.Machine.execPartMapWrite req v s
  | .partMapApply => Sys2Proof.Machine.execPartMapApply s
  | .arbiterReport n mismatch a b => Sys2Proof.Machine.execArbiterReport n mismatch a b s
  | .heartbeatWrite n => Sys2Proof.Machine.execHeartbeatWrite n s
  | .heartbeatTimeout n => Sys2Proof.Machine.execHeartbeatTimeout n s
  | .forcePin ns => Sys2Proof.Machine.execForcePin ns s
  | .forcePinRestart => Sys2Proof.Machine.execForcePinRestart s
  | .arbCastle req v => Sys2Proof.Machine.execArbCastle req v s
  | .arbRestart req v => Sys2Proof.Machine.execArbRestart req v s
  | .resyncDone n => Sys2Proof.Machine.execResyncDone n s
  | .resyncAttemptFail n => Sys2Proof.Machine.execResyncAttemptFail n s
  | .attemptsReset n => Sys2Proof.Machine.execAttemptsReset n s
  | .managementRestart n => Sys2Proof.Machine.execManagementRestart n s
  | .restartDone n able r0 r1 => Sys2Proof.Machine.execRestartDone n able r0 r1 s
  | .updateStart req v => Sys2Proof.Machine.execUpdateStart req v s
  | .updateReady => Sys2Proof.Machine.execUpdateReady s
  | .updateCastle => Sys2Proof.Machine.execUpdateCastle s
  | .updateAbort req v => Sys2Proof.Machine.execUpdateAbort req v s
  | .updateTimeout => Sys2Proof.Machine.execUpdateTimeout s
  | .journalOverflow => Sys2Proof.Machine.execJournalOverflow s
  | .inputRange mv => Sys2Proof.Machine.execInputRange mv s
  | .moduleEstop cause => Sys2Proof.Machine.execModuleEstop cause s
  | .estopGo req v => Sys2Proof.Machine.execEstopGo req v s
  | .governorAdmit mv ma w => Sys2Proof.Machine.execGovernorAdmit mv ma w s
  | .capReached d => Sys2Proof.Machine.execCapReached d s
  | .ratioRequest req v => Sys2Proof.Machine.execRatioRequest req v s
  | .halfRatioRequest req v => Sys2Proof.Machine.execHalfRatioRequest req v s
  | .housekeepingRound late readings lines powers => Sys2Proof.Machine.execHousekeepingRound late readings lines powers s
  | .thermalFastCheck => Sys2Proof.Machine.execThermalFastCheck s
  | .stopDrainLimit site => Sys2Proof.Machine.execStopDrainLimit site s
  | .stopClear req v => Sys2Proof.Machine.execStopClear req v s
  | .calWindowOpen => Sys2Proof.Machine.execCalWindowOpen s
  | .calSlotStart cls site item => Sys2Proof.Machine.execCalSlotStart cls site item s
  | .calSlotDone cls site item near far => Sys2Proof.Machine.execCalSlotDone cls site item near far s
  | .calItemStale cls site item temp => Sys2Proof.Machine.execCalItemStale cls site item temp s
  | .bar2Access req x bytes poisoned w => Sys2Proof.Machine.execBar2Access req x bytes poisoned w s
  | .hostScan p => Sys2Proof.Machine.execHostScan p s
  | .scanReadDone p entries => Sys2Proof.Machine.execScanReadDone p entries s
  | .scanReadTimeout p failed => Sys2Proof.Machine.execScanReadTimeout p failed s
  | .hostNop p => Sys2Proof.Machine.execHostNop p s
  | .hostSyncAdd p => Sys2Proof.Machine.execHostSyncAdd p s
  | .hostSyncSet p => Sys2Proof.Machine.execHostSyncSet p s
  | .hostCopyStart p => Sys2Proof.Machine.execHostCopyStart p s
  | .hostRegWrite p => Sys2Proof.Machine.execHostRegWrite p s
  | .hostRegRead p => Sys2Proof.Machine.execHostRegRead p s
  | .hostFence p => Sys2Proof.Machine.execHostFence p s
  | .cqHeadWrite req p v => Sys2Proof.Machine.execCqHeadWrite req p v s
  | .sqEnable req p v => Sys2Proof.Machine.execSqEnable req p v s
  | .mailboxEnable req p v => Sys2Proof.Machine.execMailboxEnable req p v s
  | .linkDown => Sys2Proof.Machine.execLinkDown s
  | .linkUp width speed vfs => Sys2Proof.Machine.execLinkUp width speed vfs s
  | .flr func => Sys2Proof.Machine.execFlr func s
  | .perst asserted => Sys2Proof.Machine.execPerst asserted s
  | .imageVerify req v => Sys2Proof.Machine.execImageVerify req v s
  | .imageVerifyDone readOk => Sys2Proof.Machine.execImageVerifyDone readOk s
  | .svnCommit req v => Sys2Proof.Machine.execSvnCommit req v s
  | .pldmFwUpdate sb header body readOk => Sys2Proof.Machine.execPldmFwUpdate sb header body readOk s
  | .debugUnlock sb record => Sys2Proof.Machine.execDebugUnlock sb record s
  | .getVersion sb => Sys2Proof.Machine.execGetVersion sb s
  | .getCapabilities sb => Sys2Proof.Machine.execGetCapabilities sb s
  | .negotiateAlgorithms sb ecdsa sha => Sys2Proof.Machine.execNegotiateAlgorithms sb ecdsa sha s
  | .getDigests sb => Sys2Proof.Machine.execGetDigests sb s
  | .getCertificate sb slot ofs len => Sys2Proof.Machine.execGetCertificate sb slot ofs len s
  | .challenge sb slot nonce => Sys2Proof.Machine.execChallenge sb slot nonce s
  | .getMeasurements sb index nonce => Sys2Proof.Machine.execGetMeasurements sb index nonce s
  | .pldmBase cmd => Sys2Proof.Machine.execPldmBase cmd s
  | .pldmPlatform state cls n => Sys2Proof.Machine.execPldmPlatform state cls n s
  | .sidebandRegAccess ofs w => Sys2Proof.Machine.execSidebandRegAccess ofs w s
  | .eidAssign eid => Sys2Proof.Machine.execEidAssign eid s
  | .msixSend func vec masked => Sys2Proof.Machine.execMsixSend func vec masked s
  | .logWrite => Sys2Proof.Machine.execLogWrite s
  | .logClear req v => Sys2Proof.Machine.execLogClear req v s
  | .logClearCnt req v => Sys2Proof.Machine.execLogClearCnt req v s
  | .logReadLatch req v => Sys2Proof.Machine.execLogReadLatch req v s
  | .errFindSearch req v => Sys2Proof.Machine.execErrFindSearch req v s
  | .eventForce req cls inst v => Sys2Proof.Machine.execEventForce req cls inst v s
  | .eventFlagClear req cls inst v => Sys2Proof.Machine.execEventFlagClear req cls inst v s
  | .eventMaskWrite req cls inst v => Sys2Proof.Machine.execEventMaskWrite req cls inst v s
  | .evtCntSelWrite req cls inst v => Sys2Proof.Machine.execEvtCntSelWrite req cls inst v s
  | .sumClear req cls inst v => Sys2Proof.Machine.execSumClear req cls inst v s
  | .ownerWrite req cls inst v => Sys2Proof.Machine.execOwnerWrite req cls inst v s
  | .sealWrite req cls inst v => Sys2Proof.Machine.execSealWrite req cls inst v s
  | .wireFailure w errs resent test => Sys2Proof.Machine.execWireFailure w errs resent test s
  | .sweepTimeout lane l rx => Sys2Proof.Machine.execSweepTimeout lane l rx s
  | .portLaserFailure n => Sys2Proof.Machine.execPortLaserFailure n s
  | .siteRailFailure site => Sys2Proof.Machine.execSiteRailFailure site s
  | .waveguideFailure lane => Sys2Proof.Machine.execWaveguideFailure lane s
  | .sourceWarmupDone src => Sys2Proof.Machine.execSourceWarmupDone src s
  | .inputBackInRange => Sys2Proof.Machine.execInputBackInRange s

end Sys2Proof.Machine
end

