-- ==== Sys2Proof/Machine/Wire.lean ====
section
/-! DEFINITION. Machine/Wire.lean: the bits and bytes of a packet on a link, with its CRC, and how they are read back (R291 to R299). -/

namespace Sys2Proof.Machine

def bitIf (b : Bool) (n : Nat) : Nat := if b then 2 ^ n else 0

/-- The CLASS bits (R291); a class that is invalid is 0b11 here. -/
def classBits (p : Pkt) : Nat := if p.badClass then 3 else if p.data then 2 else 1

/-- Bits [191:0] of the full header (R293); codes from 0x20 on are stored less 0x20 (R299, log entry 137, DEDUCED). -/
def fullHeader (p : Pkt) : Nat :=
  classBits p + placeBits (p.op % 32) 7 2 + placeBits p.len 12 8 + placeBits p.epoch 13 13 + placeBits p.hop 17 14 +
  placeBits p.status 21 18 + placeBits p.srcSite 25 22 + placeBits p.srcNode 39 26 + placeBits p.mgrp 51 40 +
  bitIf p.arrEn 52 + bitIf p.cmpReq 53 + bitIf p.resv 54 + placeBits p.dst 127 64 + placeBits p.tag 143 128 +
  placeBits p.seq 159 144 + placeBits p.ctr 175 160 + placeBits p.complete 191 176

/-- Bits [159:0] of the compact header (R295). -/
def compactHeader (p : Pkt) : Nat :=
  classBits p + placeBits p.op 7 2 + placeBits p.epoch 8 8 + placeBits p.hop 12 9 + placeBits p.status 16 13 +
  placeBits p.len 21 17 + bitIf p.arrEn 22 + bitIf p.resv 23 + placeBits p.srcSite 27 24 + placeBits p.srcNode 41 28 +
  placeBits p.tag 63 48 + placeBits p.dst 127 64 + placeBits p.seq 143 128 + placeBits p.ctr 159 144

/-- The bytes of a packet in the order sent, the CRC in its place (R292, R293, R295, R296). -/
def pktBytes (p : Pkt) : List Byte :=
  if p.data then
    let h := bytesLE 28 (fullHeader p)
    h ++ bytesLE 4 (crc32c (h ++ p.payload)) ++ p.payload
  else
    let h := bytesLE 20 (compactHeader p)
    h ++ bytesLE 4 (crc32c (h ++ p.payload)) ++ p.payload

/-- The packet that a full header, its first 24 bytes as a number, and a payload spell. -/
def readFull (bad : Bool) (v : Nat) (rest : List Byte) : Pkt :=
  { data := true
    op := 0x20 + bitsOf v 7 2
    len := bitsOf v 12 8
    epoch := bitsOf v 13 13
    hop := bitsOf v 17 14
    status := bitsOf v 21 18
    srcSite := bitsOf v 25 22
    srcNode := bitsOf v 39 26
    mgrp := bitsOf v 51 40
    arrEn := hasBit v 52
    cmpReq := hasBit v 53
    dst := bitsOf v 127 64
    tag := bitsOf v 143 128
    seq := bitsOf v 159 144
    ctr := bitsOf v 175 160
    complete := bitsOf v 191 176
    badClass := bad
    resv := bitsOf v 63 54 != 0 || bitsOf v 223 192 != 0
    payload := rest }

/-- The same of a compact header. -/
def readCompact (bad : Bool) (v : Nat) (rest : List Byte) : Pkt :=
  { data := false
    op := bitsOf v 7 2
    len := bitsOf v 21 17
    epoch := bitsOf v 8 8
    hop := bitsOf v 12 9
    status := bitsOf v 16 13
    srcSite := bitsOf v 27 24
    srcNode := bitsOf v 41 28
    mgrp := 0
    arrEn := hasBit v 22
    cmpReq := false
    dst := bitsOf v 127 64
    tag := bitsOf v 63 48
    seq := bitsOf v 143 128
    ctr := bitsOf v 159 144
    complete := 0
    badClass := bad
    resv := hasBit v 23 || bitsOf v 47 42 != 0
    payload := rest }

/-- The packet that the bytes received spell, or none where their CRC is wrong (R296). -/
def readPkt (bs : List Byte) : Option Pkt :=
  let c := ofBytesLE (bs.take 1) % 4
  if c = 2 then
    let h := bs.take 28
    let rest := bs.drop 32
    if ofBytesLE ((bs.drop 28).take 4) = crc32c (h ++ rest) then some (readFull false (ofBytesLE h) rest) else none
  else
    let h := bs.take 20
    let rest := bs.drop 24
    if ofBytesLE ((bs.drop 20).take 4) = crc32c (h ++ rest) then some (readCompact (c != 1) (ofBytesLE h) rest) else none

end Sys2Proof.Machine
end

