-- ==== Sys2Proof/Safety.lean ====
section
/-! DEFINITION. Safety.lean: what the claims about the block speak of: a command that completes, and the canonical form of
what the state holds, and the state after an instruction of a core. -/

namespace Sys2Proof.Machine

/-- A command completes in a state, and the next state has a property. -/
def Completes (c : Instr) (s : State) (p : State → Prop) : Prop := ∃ t, exec c s = .next t ∧ p t

/-- The memory of the device is in its canonical form: addresses strictly rising, and no byte listed that is 0, which an
unlisted address holds (R402). -/
abbrev Memory.wf (m : List Host.Cell) : Bool := SMap.wf (0 : Byte) m

/-! ## An instruction on a core -/

/-- The core may dispatch an instruction that uses these registers, and the fetch of the word at its PC meets nothing
(R133, R158, R188). -/
abbrev Runs (s : State) (c : Fin 1280) (uses : List Nat) : Prop :=
  canDispatch s c uses = true ∧ fetchCheck s c (getCore s c).pc = none

/-- The core after the fetch: its PC at the next word (R165). -/
def fetched (s : State) (c : Nat) : Core := { getCore s c with pc := (getCore s c).pc + 8, ibuf := true }

/-- The state after the fetch. -/
abbrev afterFetch (s : State) (c : Nat) : State := putCore s c (fetched s c)

/-- A unit of core `c` reaches `n` bytes at a local address: their banks serve it (R192, R194). -/
abbrev Served (s : State) (c a n : Nat) : Prop := (localGrant s c a n).1 = .served

/-- The state in which core `c` is `k`, and one more instruction has retired on it. Everything else is as in `s`: memory,
every other core, every register but `COR_RETIRED`. -/
def retired (s : State) (c : Nat) (k : Core) : State := retire (putCore s c k) c 1

/-- A scalar instruction that writes `v` to register `d`, and nothing where `d` is 0 (R161). -/
def scalarResult (s : State) (c d v : Nat) : State := retired s c ((fetched s c).setS d v)

end Sys2Proof.Machine
end

