-- ==== Sys2Proof/WellFormed.lean ====
section
/-! DEFINITION. WellFormed.lean: what an operand has to be beyond its type: packets whose fields fit their header (R293 to
R297), measurements with as many taps as their class has (R464), reads and images of the sizes that the manual gives. -/

namespace Sys2Proof

/-- Every field of a packet fits the header of its class (R293, R295). -/
def Pkt.wf (p : Pkt) : Bool :=
  decide (p.epoch < 2) && decide (p.hop < 16) && decide (p.status < 16) && decide (p.srcSite < 16) &&
  decide (p.srcNode < 2 ^ 14) && decide (p.dst < 2 ^ 64) && decide (p.tag < 2 ^ 16) && decide (p.seq < 2 ^ 16) &&
  decide (p.ctr < 2 ^ 16) && decide (p.complete < 2 ^ 16) && decide (p.mgrp < 2 ^ 12) && decide (p.len < 32) &&
  decide (p.op < 64) &&
  (if p.data then decide (p.payload.length = 64 * p.len) else decide (p.payload.length = 8) && p.mgrp == 0)

/-- A packet that arrives is one. -/
def Arrival.wf (a : Arrival) : Bool := a.pkt.wf

/-- The taps that an item of a calibration class has (R464). -/
def tapCount (cls : Nat) : Nat := [19, 12, 3, 2].getD cls 0

/-- Both passes give a value for every tap, or no measurement at all (R466). -/
def measuredOk (cls : Fin 4) (m : Measured) : Bool :=
  (m.p1.length == tapCount cls || m.p1.isEmpty) && m.p2.length == m.p1.length

/-- The line of a fill is a line of the module (R207). -/
def dueOk : Due → Bool
  | .tag _ _ => true
  | .fill _ line => decide (line < 2 ^ 50)

/-- The window of a VF is 32 MiB (R478). -/
def vfWindow (req : Requester) (x : Nat) : Bool :=
  match req with
  | .vf _ => decide (x < 2 ^ 25)
  | _ => false

/-- A command whose operands are as the manual has them. -/
def Instr.wf : Instr → Bool
  | .registerWrite _ _ _ _ _ => true
  | .readLoLatch _ _ _ => true
  | .writeHiHold _ _ _ => true
  | .writeLoCommit _ _ _ => true
  | .capacityPublish => true
  | .roleWrite _ _ => true
  | .roleApply => true
  | .tempoBoundary _ => true
  | .tempoMark _ => true
  | .frameReceived => true
  | .referenceLock => true
  | .tempoLost _ => true
  | .holdoverLimit => true
  | .suspendFollow => true
  | .tempoReturn _ _ => true
  | .holdoverExit _ => true
  | .applyEpoch _ _ => true
  | .epochApply => true
  | .countLoRead _ => true
  | .loopHead _ => true
  | .wakeBooking _ => true
  | .moveNop _ => true
  | .moveGrant _ => true
  | .moveRelease _ => true
  | .moveCopyStart _ => true
  | .moveWakeCore _ => true
  | .moveSyncAdd _ => true
  | .moveSyncSet _ => true
  | .moveCalWindow _ => true
  | .moveHalt _ => true
  | .deadline _ => true
  | .movOverrun _ => true
  | .entryEccError _ => true
  | .movForce _ _ _ => true
  | .start _ _ _ => true
  | .listCheckDone _ _ => true
  | .stop _ _ _ => true
  | .stopApply _ => true
  | .swapArm _ _ _ => true
  | .swapDisarm _ _ _ => true
  | .swapCheckDone _ _ => true
  | .swap _ => true
  | .moveLoadData _ _ _ => true
  | .copyLoadGo _ _ _ => true
  | .copyLoadComplete _ _ _ => true
  | .codebookSlotWrite _ _ => true
  | .pwrReqOn _ _ _ => true
  | .pwrReqRetain _ _ _ => true
  | .pwrReqOff _ _ _ => true
  | .coreTransitionDone _ => true
  | .run _ _ _ => true
  | .corHalt _ _ _ => true
  | .clrFault _ _ _ => true
  | .coreReset _ _ _ => true
  | .coreHalted _ => true
  | .flitCrcFail _ _ _ _ _ => true
  | .ratioDecrease _ => true
  | .spareSubstitution _ _ => true
  | .nop _ _ _ => true
  | .aluAdd _ _ => true
  | .aluSub _ _ => true
  | .aluAnd _ _ => true
  | .aluOr _ _ => true
  | .aluXor _ _ => true
  | .aluShl _ _ => true
  | .aluShr _ _ => true
  | .aluSra _ _ => true
  | .aluSlt _ _ => true
  | .aluSltu _ _ => true
  | .aluMin _ _ => true
  | .aluMax _ _ => true
  | .aluMinu _ _ => true
  | .aluMaxu _ _ => true
  | .aluMul _ _ => true
  | .aluMulh _ _ => true
  | .aluMulhu _ _ => true
  | .movi _ _ _ => true
  | .movhi _ _ _ => true
  | .brEq _ _ => true
  | .brNe _ _ => true
  | .brLt _ _ => true
  | .brGe _ _ => true
  | .brLtu _ _ => true
  | .brGeu _ _ => true
  | .jal _ _ _ => true
  | .jr _ _ _ => true
  | .csrRead _ _ => true
  | .csrWrite _ _ => true
  | .csrClear _ _ => true
  | .halt _ _ _ => true
  | .trap _ _ _ => true
  | .tmma _ _ _ _ => true
  | .tdrain _ _ => true
  | .tcbld _ _ => true
  | .tileComplete _ _ => true
  | .vld _ _ _ _ => true
  | .vst _ _ _ => true
  | .vadd _ _ => true
  | .vsub _ _ => true
  | .vmul _ _ => true
  | .vfma _ _ => true
  | .vmin _ _ => true
  | .vmax _ _ => true
  | .vabs _ _ => true
  | .vneg _ _ => true
  | .vadds _ _ => true
  | .vmuls _ _ => true
  | .vdiv _ _ => true
  | .vsqrt _ _ => true
  | .vrcp _ _ => true
  | .vrsqrt _ _ => true
  | .vexp2 _ _ => true
  | .vlog2 _ _ => true
  | .vexp _ _ => true
  | .vlog _ _ => true
  | .vtanh _ _ => true
  | .vsigmoid _ _ => true
  | .vcmpEq _ _ => true
  | .vcmpLt _ _ => true
  | .vcmpLe _ _ => true
  | .vcmpNe _ _ => true
  | .vsel _ _ _ => true
  | .vredSum _ _ => true
  | .vredMax _ _ => true
  | .vredMin _ _ => true
  | .vbcast _ _ _ => true
  | .vcvt _ _ _ => true
  | .ld _ _ _ _ => true
  | .st _ _ _ => true
  | .dcopy _ _ => true
  | .gld _ _ _ => true
  | .gst _ _ _ => true
  | .sadd _ _ => true
  | .sset _ _ => true
  | .sread _ _ => true
  | .swait _ _ _ => true
  | .swaitComplete _ => true
  | .swaitTimeout _ => true
  | .swaitPoll _ => true
  | .atomAdd64 _ _ => true
  | .atomAdd32 _ _ => true
  | .atomFadd32 _ _ => true
  | .atomSwap64 _ _ => true
  | .atomCas64 _ _ => true
  | .atomAnd64 _ _ => true
  | .atomOr64 _ _ => true
  | .atomXor64 _ _ => true
  | .atomMin64 _ _ => true
  | .atomMax64 _ _ => true
  | .atomMinu64 _ _ => true
  | .atomMaxu64 _ _ => true
  | .fence _ _ _ => true
  | .fenceDone _ => true
  | .mwait _ _ _ => true
  | .bankHandover _ _ _ _ _ => true
  | .handoverDone _ _ _ => true
  | .handoverForced _ _ _ => true
  | .bankSleepDone _ _ _ => true
  | .bankWakeDone _ _ _ => true
  | .lcApply _ _ _ => true
  | .lcChangeDone _ => true
  | .writebackRetry _ line => decide (line < 2 ^ 50)
  | .stackReset _ _ _ => true
  | .stackWatchdog _ => true
  | .stackDrainLimit _ => true
  | .stackResetDone _ => true
  | .scrubRead _ burst _ => decide (burst < 2 ^ 40)
  | .refreshCommand _ _ => true
  | .laneFailure _ _ => true
  | .layerFailure _ _ => true
  | .evacDone e => decide (e.burst < 2 ^ 40)
  | .firmwareGrant _ _ _ => true
  | .firmwareRelease _ _ _ => true
  | .ringLock _ _ _ _ => true
  | .circuitEffect _ _ => true
  | .releaseCutoff _ _ => true
  | .releaseEffect _ _ => true
  | .tuneResweep _ _ _ => true
  | .tuneFail _ _ _ => true
  | .trainingWord _ _ _ => true
  | .mislock _ _ _ _ _ _ => true
  | .sweepLock _ _ _ _ => true
  | .calStale _ _ _ => true
  | .heatRate _ codes => decide (codes.length ≤ 512)
  | .lightLoss _ => true
  | .groupResume _ => true
  | .plannedSwitchArm _ _ _ => true
  | .plannedSwitch _ => true
  | .packetStart _ => true
  | .load a => a.wf
  | .store a => a.wf
  | .readReq a => a.wf
  | .atomic a => a.wf
  | .syncAdd a => a.wf
  | .syncSet a => a.wf
  | .syncRead a => a.wf
  | .pktFence a => a.wf
  | .comp a => a.wf
  | .compData a => a.wf
  | .credit a => a.wf
  | .creditReturn _ => true
  | .nak a => a.wf
  | .packetCrcFail _ _ => true
  | .replayTimeout _ => true
  | .throttle a => a.wf
  | .throttleExpire _ => true
  | .notice a => a.wf
  | .grantMsg a => a.wf
  | .grantRefuse a => a.wf
  | .grantReady a => a.wf
  | .releaseMsg a => a.wf
  | .getS a => a.wf
  | .getM a => a.wf
  | .putE a => a.wf
  | .inval a => a.wf
  | .recallS a => a.wf
  | .recallI a => a.wf
  | .cohAck a => a.wf
  | .grantM a => a.wf
  | .write a => a.wf
  | .readData a => a.wf
  | .atomicCas a => a.wf
  | .accumF32 a => a.wf
  | .lineGrant a => a.wf
  | .linePutM a => a.wf
  | .lineReturn a => a.wf
  | .hotLineOperation _ => true
  | .rtDataWrite _ _ => true
  | .rtCopyActive _ _ => true
  | .rtCopyDone => true
  | .epochArm _ _ => true
  | .epochSwitch => true
  | .versionFree => true
  | .cmapGather => true
  | .mapCopy => true
  | .fmDemandAction => true
  | .mcInval _ _ => true
  | .mcTargetRetry _ _ => true
  | .mcComplete _ => true
  | .nodeWrite _ _ => true
  | .requestTimeout d => dueOk d
  | .requestRetry _ _ => true
  | .copyComplete _ => true
  | .copyTableData _ _ _ => true
  | .dedupExpire _ => true
  | .shadowUpdate _ => true
  | .synAddWrite _ _ _ => true
  | .portEnable _ _ _ => true
  | .portDetect _ _ => true
  | .portTrainingWord _ _ _ => true
  | .portTrainDone _ _ => true
  | .portTrainTimeout _ => true
  | .identFrame _ _ => true
  | .identSend _ => true
  | .portAccept _ _ _ => true
  | .portDown _ _ _ => true
  | .portRetrain _ _ _ => true
  | .linkFailure _ _ => true
  | .wavelengthFailure _ _ => true
  | .resetNotice _ _ => true
  | .resetCancel _ _ => true
  | .noticeRepeat => true
  | .portsDrain => true
  | .portsDark => true
  | .samplerArm _ _ _ => true
  | .samplerDisarm _ _ _ => true
  | .samplerAbort _ _ _ => true
  | .samplerRunStart _ => true
  | .samplerRunDone _ => true
  | .scanBlockRead _ => true
  | .scanDone _ => true
  | .gmbEnable _ _ _ => true
  | .roundStart _ => true
  | .roundEnd _ => true
  | .gmbAbort _ _ _ => true
  | .gmbClear _ _ _ => true
  | .reseed _ _ => true
  | .autoReseed _ => true
  | .entropyFail => true
  | .powerOnReset _ _ => true
  | .bringupStepDone step _ _ _ _ _ => decide (1 ≤ step.val) && decide (step.val ≤ 5)
  | .fuseAdd _ _ => true
  | .fuseBlowDone => true
  | .retire _ _ => true
  | .clusterReset _ _ => true
  | .partitionReset _ _ => true
  | .moduleReset _ _ => true
  | .partitionRelease _ _ => true
  | .resetDrainLimit _ _ => true
  | .partitionResetDone _ => true
  | .partMapWrite _ _ => true
  | .partMapApply => true
  | .arbiterReport _ _ _ _ => true
  | .heartbeatWrite _ => true
  | .heartbeatTimeout _ => true
  | .forcePin _ => true
  | .forcePinRestart => true
  | .arbCastle _ _ => true
  | .arbRestart _ _ => true
  | .resyncDone _ => true
  | .resyncAttemptFail _ => true
  | .attemptsReset _ => true
  | .managementRestart _ => true
  | .restartDone _ _ _ _ => true
  | .updateStart _ _ => true
  | .updateReady => true
  | .updateCastle => true
  | .updateAbort _ _ => true
  | .updateTimeout => true
  | .journalOverflow => true
  | .inputRange _ => true
  | .moduleEstop _ => true
  | .estopGo _ _ => true
  | .governorAdmit _ _ _ => true
  | .capReached _ => true
  | .ratioRequest _ _ => true
  | .halfRatioRequest _ _ => true
  | .housekeepingRound _ readings _ _ => decide (readings.length ≤ 1024)
  | .thermalFastCheck => true
  | .stopDrainLimit _ => true
  | .stopClear _ _ => true
  | .calWindowOpen => true
  | .calSlotStart _ _ _ => true
  | .calSlotDone cls _ _ near far => measuredOk cls near && measuredOk cls far
  | .calItemStale _ _ _ _ => true
  | .bar2Access req x _ _ _ => req == .pf || vfWindow req x
  | .hostScan _ => true
  | .scanReadDone _ entries => decide (entries.length ≤ 64)
  | .scanReadTimeout _ _ => true
  | .hostNop _ => true
  | .hostSyncAdd _ => true
  | .hostSyncSet _ => true
  | .hostCopyStart _ => true
  | .hostRegWrite _ => true
  | .hostRegRead _ => true
  | .hostFence _ => true
  | .cqHeadWrite _ _ _ => true
  | .sqEnable _ _ _ => true
  | .mailboxEnable _ _ _ => true
  | .linkDown => true
  | .linkUp _ _ _ => true
  | .flr _ => true
  | .perst _ => true
  | .imageVerify _ _ => true
  | .imageVerifyDone _ => true
  | .svnCommit _ _ => true
  | .pldmFwUpdate _ header body _ => decide (header.length = 4096) && decide (body.length ≤ 8384512)
  | .debugUnlock _ _ => true
  | .getVersion _ => true
  | .getCapabilities _ => true
  | .negotiateAlgorithms _ _ _ => true
  | .getDigests _ => true
  | .getCertificate _ _ _ _ => true
  | .challenge _ _ _ => true
  | .getMeasurements _ _ _ => true
  | .pldmBase _ => true
  | .pldmPlatform _ _ _ => true
  | .sidebandRegAccess _ _ => true
  | .eidAssign _ => true
  | .msixSend _ _ _ => true
  | .logWrite => true
  | .logClear _ _ => true
  | .logClearCnt _ _ => true
  | .logReadLatch _ _ => true
  | .errFindSearch _ _ => true
  | .eventForce _ _ _ _ => true
  | .eventFlagClear _ _ _ _ => true
  | .eventMaskWrite _ _ _ _ => true
  | .evtCntSelWrite _ _ _ _ => true
  | .sumClear _ _ _ _ => true
  | .ownerWrite _ _ _ _ => true
  | .sealWrite _ _ _ _ => true
  | .wireFailure _ _ _ _ => true
  | .sweepTimeout _ _ _ => true
  | .portLaserFailure _ => true
  | .siteRailFailure _ => true
  | .waveguideFailure _ => true
  | .sourceWarmupDone _ => true
  | .inputBackInRange => true

end Sys2Proof
end

