-- ==== Sys2Proof/Certificates/Slice0/Obligations.lean ====
section
/-! DEFINITION. The statements about the block, family by family. Each holds in every state and for every operand that
meets its hypotheses. `exec c s = .next t` says that the command `c` completes in `s` and names all of the next state;
`Completes c s p` says that it completes in a next state with the property `p`. -/

open Sys2Proof Sys2Proof.Machine

/-! ## Scalar instructions (R162 to R168) -/

/-- R163: D ← sA op (sB + IMM). Every ALU instruction, with its result for any operands; a destination of s0 discards it, and
everything but D, the PC and the retired count is unchanged. -/
def Obligations.AluResults : Prop :=
  ∀ (c : Fin 1280) (f : FmtA) (s : State), Runs s c [f.a, f.b, f.d] → f.rsv = 0 →
    let x := (getCore s c).s f.a
    let y := ((getCore s c).s f.b + (f.imm.signExtend 64).toNat) % 2 ^ 64
    exec (.aluAdd c f) s = .next (scalarResult s c f.d (x + y)) ∧
    exec (.aluSub c f) s = .next (scalarResult s c f.d (x + (2 ^ 64 - y))) ∧
    exec (.aluAnd c f) s = .next (scalarResult s c f.d (x &&& y)) ∧
    exec (.aluOr c f) s = .next (scalarResult s c f.d (x ||| y)) ∧
    exec (.aluXor c f) s = .next (scalarResult s c f.d (x ^^^ y)) ∧
    exec (.aluShl c f) s = .next (scalarResult s c f.d (x * 2 ^ (y % 64))) ∧
    exec (.aluShr c f) s = .next (scalarResult s c f.d (x / 2 ^ (y % 64))) ∧
    exec (.aluSra c f) s = .next (scalarResult s c f.d (ofSigned 64 (toSigned 64 x / 2 ^ (y % 64)))) ∧
    exec (.aluSlt c f) s = .next (scalarResult s c f.d (if toSigned 64 x < toSigned 64 y then 1 else 0)) ∧
    exec (.aluSltu c f) s = .next (scalarResult s c f.d (if x < y then 1 else 0)) ∧
    exec (.aluMin c f) s = .next (scalarResult s c f.d (if toSigned 64 x ≤ toSigned 64 y then x else y)) ∧
    exec (.aluMax c f) s = .next (scalarResult s c f.d (if toSigned 64 x ≤ toSigned 64 y then y else x)) ∧
    exec (.aluMinu c f) s = .next (scalarResult s c f.d (min x y)) ∧
    exec (.aluMaxu c f) s = .next (scalarResult s c f.d (max x y)) ∧
    exec (.aluMul c f) s = .next (scalarResult s c f.d (x * y)) ∧
    exec (.aluMulh c f) s = .next (scalarResult s c f.d (ofSigned 64 (toSigned 64 x * toSigned 64 y / 2 ^ 64))) ∧
    exec (.aluMulhu c f) s = .next (scalarResult s c f.d (x * y / 2 ^ 64))

/-- R162, R164: NOP changes only the PC and the retired count; MOVI writes IMM sign-extended; MOVHI keeps the low half of sA
under IMM. -/
def Obligations.ConstantResults : Prop :=
  ∀ (c : Fin 1280) (f : FmtA) (s : State), f.rsv = 0 → f.b = 0 →
    (Runs s c [] → f.d = 0 → f.a = 0 → f.imm = 0 → exec (.nop c 0 f) s = .next (retired s c (fetched s c))) ∧
    (Runs s c [f.d] → f.a = 0 → exec (.movi c 0 f) s = .next (scalarResult s c f.d (f.imm.signExtend 64).toNat)) ∧
    (Runs s c [f.a, f.d] → exec (.movhi c 0 f) s =
      .next (scalarResult s c f.d ((getCore s c).s f.a % 2 ^ 32 + f.imm.toNat * 2 ^ 32)))

namespace Sys2Proof.Machine

/-- FSTAT or DSTAT after a CLEAR in state `s` that keeps the bits of `m`: a failure recorded in this clock is recorded on the
word as it was before the clock, cleared (R167). -/
abbrev clearedAt (s : State) (w : Nat) (n : FailNow) (m : Nat) : Nat :=
  if n.at_ = nowClk s + 1 then n.sts.foldl recordFail (n.before &&& m) else w &&& m

end Sys2Proof.Machine

/-- R165: a branch goes to the word IMM words from itself where its comparison holds, and to the next word otherwise; JAL and
JR keep the address of the next word in D. A JR to an address that is not a multiple of 8 faults instead. R166, R167: READ
gives the CSR that IMM names: ASW, the logical ID, the partition, the tempo count, the beat and clock, the core clock, FSTAT,
DSTAT and the loop iteration. CLEAR of a status word gives its value and takes the bits of sB out of it; a failure recorded in
the same clock wins. The partition of a site in none is a free value (log entry 16). WRITE is refused with ILLEGAL_OPCODE,
since no CSR allows it. -/
def Obligations.ControlAndCsrResults : Prop :=
  (∀ (c : Fin 1280) (f : FmtA) (s : State), f.rsv = 0 →
     let k := getCore s c
     let x := k.s f.a
     let y := k.s f.b
     let dst := (k.pc + 8 * (f.imm.signExtend 64).toNat) % 2 ^ 64
     let br := fun (p : Prop) [Decidable p] =>
       Host.Outcome.next (φ := Fault) (ρ := Refusal) (retired s c (if p then { fetched s c with pc := dst } else fetched s c))
     (Runs s c [f.a, f.b] → f.d = 0 →
       exec (.brEq c f) s = br (x = y) ∧ exec (.brNe c f) s = br (x ≠ y) ∧
       exec (.brLt c f) s = br (toSigned 64 x < toSigned 64 y) ∧ exec (.brGe c f) s = br (toSigned 64 y ≤ toSigned 64 x) ∧
       exec (.brLtu c f) s = br (x < y) ∧ exec (.brGeu c f) s = br (y ≤ x)) ∧
     (Runs s c [f.d] → f.a = 0 → f.b = 0 →
       exec (.jal c 0 f) s = .next (retired s c { (fetched s c).setS f.d ((k.pc + 8) % 2 ^ 64) with pc := dst })) ∧
     (Runs s c [f.a, f.d] → f.b = 0 → ((x + (f.imm.signExtend 64).toNat) % 2 ^ 64) % 8 = 0 →
       exec (.jr c 0 f) s = .next (retired s c
         { (fetched s c).setS f.d ((k.pc + 8) % 2 ^ 64) with pc := (x + (f.imm.signExtend 64).toNat) % 2 ^ 64 }))) ∧
  (∀ (c : Fin 1280) (f : FmtA) (s : State), f.rsv = 0 →
     let k := getCore s c
     (Runs s c [f.d] → f.a = 0 → f.b = 0 →
       (f.imm = 0 → exec (.csrRead c f) s = .next (scalarResult s c f.d k.asw)) ∧
       (f.imm = 1 → ∀ l, lidOfCor s c = some l → exec (.csrRead c f) s = .next (scalarResult s c f.d l)) ∧
       (f.imm = 2 → ∀ p, partOf s (corSite c) = some p → exec (.csrRead c f) s =
         .next (scalarResult s c f.d p)) ∧
       (f.imm = 2 → partOf s (corSite c) = none → exec (.csrRead c f) s = .next
         (scalarResult { s with draws := s.draws + 1 } c f.d ((Config.freeValue s.draws).toNat % 8))) ∧
       (f.imm = 3 → exec (.csrRead c f) s = .next (scalarResult s c f.d s.time.count)) ∧
       (f.imm = 4 → exec (.csrRead c f) s = .next (scalarResult s c f.d (s.time.clk * 2 ^ TMP_BEAT_CLK.lo + s.time.beat))) ∧
       (f.imm = 5 → exec (.csrRead c f) s = .next (scalarResult s c f.d (coreClock s c))) ∧
       (f.imm = 6 → exec (.csrRead c f) s = .next (scalarResult s c f.d k.fstat)) ∧
       (f.imm = 7 → exec (.csrRead c f) s = .next (scalarResult s c f.d k.dstat)) ∧
       (f.imm = 8 → exec (.csrRead c f) s = .next (scalarResult s c f.d (getF s MOV_ITER (corSite c) 0)))) ∧
     (Runs s c [f.b, f.d] → f.a = 0 →
       let m := 2 ^ 64 - 1 - k.s f.b % 2 ^ 64
       (f.imm = 0 → exec (.csrClear c f) s =
         .next (retired s c (Core.setS { fetched s c with asw := k.asw &&& m } f.d k.asw))) ∧
       (f.imm = 6 → exec (.csrClear c f) s = .next (retired s c (Core.setS { fetched s c with
         fstat := clearedAt s k.fstat k.fnow m, fnow := { k.fnow with before := k.fnow.before &&& m } } f.d k.fstat))) ∧
       (f.imm = 7 → exec (.csrClear c f) s = .next (retired s c (Core.setS { fetched s c with
         dstat := clearedAt s k.dstat k.dnow m, dnow := { k.dnow with before := k.dnow.before &&& m } } f.d k.dstat)))) ∧
     (Runs s c [f.b] → f.d = 0 → f.a = 0 → f.imm.toNat < 4096 →
       exec (.csrWrite c f) s = .next (faultCore s c fcIllegal uScalar 0 k.pc)))

/-- R168, R189: TRAP takes the core to FAULTED with code SOFT_TRAP, unit 0, IMM [5:0] as the detail and its own address in
`COR_FAULT_PC`; the PC stays at the TRAP. -/
def Obligations.TrapFaults : Prop :=
  ∀ (c : Fin 1280) (f : FmtA) (s : State), Runs s c [] → f.rsv = 0 → f.d = 0 → f.a = 0 → f.b = 0 →
    exec (.trap c 0 f) s = .next (faultCore (putCore s c { getCore s c with ibuf := true }) c fcSoftTrap uScalar
      (f.imm.toNat % 64) (getCore s c).pc)

/-! ## Vector instructions (R177, R178) -/

namespace Sys2Proof.Machine

/-- A vector instruction that leaves these results in the lanes of `vd` and their flags in ASW (R120). -/
def vectorResult (s : State) (c vd : Nat) (rs : List Res) : State :=
  retired s c (((fetched s c).setLanes vd 0 (rs.map (·.code))).flag (rs.foldl (fun a r => a ||| r.flags) 0))

/-- Every field of format V that an operation without FMT and IMM does not use is 0 (R159, R160). -/
abbrev UnusedZero (f : FmtV) (sr vd va vb vc : Bool) : Prop := resvFields f false vd va vb vc sr false = true

/-- The core may dispatch a vector instruction that uses these scalar registers, and nothing waits in the queue before it
(R133). -/
abbrev RunsVec (s : State) (c : Fin 1280) (uses : List Nat) : Prop := Runs s c uses ∧ (getCore s c).vecQ = []

end Sys2Proof.Machine

/-- R178: the arithmetic of the vector unit, lane by lane. Each instruction leaves the results in VD and their flags in ASW,
and changes nothing else but the PC and the retired count. R133: while the queue of the vector unit is full it stalls. -/
def Obligations.VectorArithmetic : Prop :=
  ∀ (c : Fin 1280) (f : FmtV) (s : State),
    let k := getCore s c
    let two := fun (op : Nat → Nat → Res) => Host.Outcome.next (φ := Fault) (ρ := Refusal)
      (vectorResult s c f.vd (List.zipWith op (k.lanes f.va) (k.lanes f.vb)))
    let one := fun (op : Nat → Res) => Host.Outcome.next (φ := Fault) (ρ := Refusal)
      (vectorResult s c f.vd ((k.lanes f.va).map op))
    (16 ≤ k.vecQ.length → UnusedZero f false true true true false →
      exec (.vadd c f) s = .next s ∧ exec (.vsub c f) s = .next s ∧ exec (.vmul c f) s = .next s ∧
      exec (.vmin c f) s = .next s ∧ exec (.vmax c f) s = .next s ∧ exec (.vdiv c f) s = .next s) ∧
    (RunsVec s c [] → UnusedZero f false true true true false →
      exec (.vadd c f) s = two f32add ∧ exec (.vsub c f) s = two f32sub ∧ exec (.vmul c f) s = two f32mul ∧
      exec (.vmin c f) s = two f32min ∧ exec (.vmax c f) s = two f32max ∧ exec (.vdiv c f) s = two f32div) ∧
    (RunsVec s c [] → UnusedZero f false true true true true →
      exec (.vfma c f) s = .next (vectorResult s c f.vd (List.zipWith (fun (p : Nat × Nat) z => f32fma p.1 p.2 z)
        (List.zip (k.lanes f.va) (k.lanes f.vb)) (k.lanes f.vc)))) ∧
    (RunsVec s c [f.s] → UnusedZero f true true true false false →
      exec (.vadds c f) s = one (fun x => f32add x (k.s f.s % 2 ^ 32)) ∧
      exec (.vmuls c f) s = one (fun x => f32mul x (k.s f.s % 2 ^ 32))) ∧
    (RunsVec s c [] → UnusedZero f false true true false false →
      exec (.vabs c f) s = one f32abs ∧ exec (.vneg c f) s = one f32neg ∧ exec (.vsqrt c f) s = one f32sqrt ∧
      exec (.vrcp c f) s = one f32rcp ∧ exec (.vrsqrt c f) s = one f32rsqrt ∧ exec (.vexp2 c f) s = one f32exp2 ∧
      exec (.vlog2 c f) s = one f32log2 ∧ exec (.vexp c f) s = one f32exp ∧ exec (.vlog c f) s = one f32log ∧
      exec (.vtanh c f) s = one f32tanh ∧ exec (.vsigmoid c f) s = one f32sigmoid)

namespace Sys2Proof.Machine

/-- A vector load or store may be carried out: the core runs, the fields not used are 0, the format is one of R177, and the
elements (and the two scale bytes of a block-scaled format, which hold no error) are aligned and served. -/
structure VecReady (s : State) (c : Fin 1280) (f : FmtV) (g : Fmt) (ea : Nat) : Prop where
  fmt : vecFmt f.fmt = some g
  runs : RunsVec s c (if g.scaled then [f.s.val, f.vb.val] else [f.s.val])
  addr : ea = ((getCore s c).s f.s + (f.imm.signExtend 64).toNat) % 2 ^ 64
  aligned : ea % elemAlign g = 0
  served : Served (afterFetch s c) c ea (8 * g.bits)
  scale : g.scaled = true → (getCore s c).s f.vb % 2 = 0 ∧ Served (afterFetch s c) c ((getCore s c).s f.vb) 2 ∧
    localUe (afterFetch s c) c ((getCore s c).s f.vb) 2 = false

end Sys2Proof.Machine

/-- R178: a comparison leaves its 64 results in a scalar register and sets no flag; a reduction leaves one value in every lane
and in the scalar register; VSEL picks a lane by a bit of the scalar register, and VBCAST copies the register into every lane,
both with the canonical code for a NaN (R98). R177: VLD widens 64 packed elements to FP32 into VD; VST converts the 64 lanes
of VA and stores them and the two scales of a block-scaled format; VCVT converts and widens back without touching memory. VLD
changes no byte of memory. Under stochastic rounding VST and VCVT take 64 free draws. -/
def Obligations.VectorLanesAndFormats : Prop :=
  (∀ (c : Fin 1280) (f : FmtV) (s : State), RunsVec s c [f.s] →
     let k := getCore s c
     let cmp := fun (op : Nat → Nat → Bool) => Host.Outcome.next (φ := Fault) (ρ := Refusal)
       (retired s c ((fetched s c).setS f.s (ofBools (List.zipWith op (k.lanes f.va) (k.lanes f.vb)))))
     let red := fun (r : Res) => Host.Outcome.next (φ := Fault) (ρ := Refusal)
       (retired s c ((((fetched s c).setS f.s (r.code % 2 ^ 32)).setLanes f.vd 0 (List.replicate 64 r.code)).flag r.flags))
     (UnusedZero f true false true true false →
       exec (.vcmpEq c f) s = cmp f32eq ∧ exec (.vcmpLt c f) s = cmp f32lt ∧
       exec (.vcmpLe c f) s = cmp f32le ∧ exec (.vcmpNe c f) s = cmp f32ne) ∧
     (UnusedZero f true true true false false →
       exec (.vredSum c f) s = red (reduce64 f32add (treeOrder (k.lanes f.va))) ∧
       exec (.vredMax c f) s = red (reduce64 f32max (k.lanes f.va)) ∧
       exec (.vredMin c f) s = red (reduce64 f32min (k.lanes f.va))) ∧
     (UnusedZero f true true true true false →
       exec (.vsel c 0 f) s = .next (vectorResult s c f.vd ((List.range 64).map fun i =>
         ⟨canon32 (if hasBit (k.s f.s) i then k.v f.va i else k.v f.vb i), 0⟩))) ∧
     (UnusedZero f true true false false false →
       exec (.vbcast c 0 f) s = .next (vectorResult s c f.vd (List.replicate 64 ⟨canon32 (k.s f.s % 2 ^ 32), 0⟩)))) ∧
  (∀ (c : Fin 1280) (f : FmtV) (s : State) (g : Fmt) (ea : Nat),
     let k := getCore s c
     let s1 := afterFetch s c
     let sr := f.rnd.val == 1
     let p := storeLanes g sr f.sat s.draws (k.lanes f.va)
     let fl := p.1.foldl (fun a r => a ||| r.flags) 0
     (VecReady s c f g ea → resvFields f true true false g.scaled false true true = true → localUe s1 c ea (8 * g.bits) = false →
       exec (.vld c 0 f .clean) s = .next (vectorResult s c f.vd (loadLanes g (readLocal s1 c) ea (k.s f.vb)))) ∧
     (VecReady s c f g ea → resvFields f true false true g.scaled false true true = true →
       let m := if g.scaled then storeLocal s1 c (k.s f.vb) (p.2.map fun x => BitVec.ofNat 8 x) else s1
       let m := storeLocal (tookDraws m sr 64) c ea (bytesLE (8 * g.bits) (packCodes g (p.1.map (·.code))))
       exec (.vst c 0 ⟨f, .clean⟩) s = .next (retire (modCore m c fun k => k.flag fl) c 1)) ∧
     (vecFmt f.fmt = some g → RunsVec s c [] → resvFields f true true true false false false false = true →
       exec (.vcvt c 0 f) s = .next (vectorResult (tookDraws s sr 64) c f.vd
         ((List.range 64).map fun i => widenBack g (p.2.getD (i / 32) 0) (p.1.getD i ⟨0, 0⟩)))))

/-! ## Local memory and the tile engines (R169 to R176, R179) -/

/-- R179: LD reads 1, 2, 4 or 8 bytes, little endian, at sA + IMM of local memory, zero-extended or (FN [2]) sign-extended
into D; memory does not change. ST stores the low bytes of sB there, and every other byte of memory keeps its value: a store
of less than a word reads it first (R191), and the word holds no error. -/
def Obligations.LocalLoadsAndStores : Prop :=
  ∀ (c : Fin 1280) (fn : Fin 128) (f : FmtA) (s : State), f.rsv = 0 →
    let k := getCore s c
    let n := 2 ^ (fn.val % 4)
    let a := (k.s f.a + (f.imm.signExtend 64).toNat) % 2 ^ 64
    let s1 := afterFetch s c
    a % n = 0 → Served s1 c a n →
    (Runs s c [f.a, f.d] → fn.val < 8 → f.b = 0 → localUe s1 c a n = false →
      let v := readLE (readLocal s1 c) a n
      exec (.ld c fn f .clean) s =
        .next (scalarResult s c f.d (if 4 ≤ fn.val then ofSigned 64 (toSigned (8 * n) v) else v))) ∧
    (Runs s c [f.a, f.b] → fn.val < 4 → f.d = 0 → (n = 8 ∨ localUe s1 c a n = false) →
      Completes (.st c fn ⟨f, .clean⟩) s fun t =>
        t = retire (storeLocal s1 c a (bytesLE n (k.s f.b))) c 1 ∧
        (∀ i < n, readByte t (localPhys s1 c (a + i)) = BitVec.ofNat 8 (k.s f.b / 256 ^ i)) ∧
        (∀ x, (∀ i < n, localPhys s1 c (a + i) ≠ x) → readByte t x = readByte s x))

namespace Sys2Proof.Machine

/-- The engine reads a descriptor at `da`, with the value `d` (R127, R169): it lies aligned in the scratchpad, no drain before
it still writes there, its bank serves it, and no word of it is uncorrectable. -/
structure DescReady (s : State) (c : Fin 1280) (e da : Nat) (d : Desc) : Prop where
  inside : da + 64 ≤ 0x100000
  aligned : da % 64 = 0
  drained : outTouches (getCore s c) (2 ^ e) [(da, 64)] = false
  served : (rangeGrant s c da 64).1 = .served
  clean : rangeUe s c da 64 = none
  value : d = readDesc (readLocal s c) da

/-- A TMMA passes its checks (R107, R172, R173), no tile before it uses its bank or still writes what it reads (R127), and the
banks serve what it reads and writes. `q` is its request and `o` the output format. -/
structure TileReady (s : State) (c : Fin 1280) (f : FmtT) (d : Desc) (q : TileReq) (o : Fmt) : Prop where
  desc : DescReady s c f.eng ((getCore s c).s f.desc) d
  form : ∃ fA fB, fmtOf d.fmtA = some fA ∧ fmtOf d.fmtB = some fB ∧ pairing fA fB = true ∧ fB.isPal = false ∧
    outAllowed fA o = true ∧ (fA.isPal = true ∨ f.cbSlot = 0 ∧ f.grpOfs = 0) ∧
    q = tileReq d fA fB ((getCore s c).s f.aofs) ((getCore s c).s f.bofs) ((getCore s c).s f.oofs) f.cbSlot f.grpOfs
  out : fmtOf d.fmtO = some o
  sound : tileBreach s c f.eng f.bank f.acc f.drn q o = none
  bank : bankBusy (getCore s c) f.eng f.bank = false
  drained : outTouches (getCore s c) (2 ^ f.eng.val) (tileReads q) = false
  served : ∀ r ∈ tileReads q ++ (if f.drn then drainWrites d o q.out else []), (rangeGrant s c r.1 r.2).1 = .served
  clean : ∀ r ∈ tileReads q, rangeUe s c r.1 r.2 = none

/-- The core after a tile instruction has joined the queues of its engines (R132, R133). -/
def engQueued (s : State) (c : Nat) (op : EngOp) : State :=
  putCore s c { fetched s c with engQ := (getCore s c).engQ ++ [⟨op, (getCore s c).pc⟩] }

end Sys2Proof.Machine

/-- R124 to R126, R132, R133, R172: a TMMA reads its registers at dispatch and joins the queue of its engine. At the head of
an idle queue, one that passes its checks leaves the values of its output tile in its accumulator bank and advances the tile
clocks; its drain, if it has one, and its flags wait in the engine for TILE_COMPLETE. R131: where the residue check of a row
fails it writes nothing, and the core faults with ENGINE_CHECK. R125, R174: TDRAIN queues the drain of a valid bank, which
keeps its values. R176: TILE_COMPLETE writes what the oldest tile of the engine drains, sets its flags and retires it, and
what waited for it goes on; without a tile nothing changes. -/
def Obligations.TilesAndDrains : Prop :=
  (∀ (c : Fin 1280) (f : FmtT) (a : Fin (2 ^ 28)) (s : State),
     let e := f.eng.val
     let k := getCore s c
     let s1 := afterFetch s c
     Runs s c [f.desc, f.aofs, f.bofs, f.oofs] → f.rsv1 = 0 → f.rsv2 = 0 → engineQueue k e < 8 →
     (∀ (row : Option (Fin 17)) (x : Ecc), exec (.tmma c f row ⟨x, a⟩) s = .next (pumpEng (engQueued s c
       (.tmma f (k.s f.desc) (k.s f.aofs) (k.s f.bofs) (k.s f.oofs) (row.map (·.val)) x a)) c)) ∧
     (∀ (d : Desc) (q : TileReq) (o : Fmt), k.engQ = [] → TileReady s1 c f d q o →
       let vs := tileValues (readLocal s1 c) (getCore s1 c) e f.bank f.acc q.t
       let s3 := modCore (tileClocks s1 c e q.t) c fun k => accAfter k e f.bank f.acc (q.t.fA == .int8) vs
       let p := drainBank (getCore s3 c) e f.bank d o q.out s3.draws
       let fl := flagsOf (vs.map (·.2.2))
       exec (.tmma c f none ⟨.clean, a⟩) s = .next (
         if f.drn then
           modCore (if d.rnd = 1 then { s3 with draws := s3.draws + 1024 } else s3) c fun k =>
             { k with tiles := k.tiles ++ [⟨e, f.bank, p.1, fl ||| p.2⟩] }
         else modCore s3 c fun k => { k with tiles := k.tiles ++ [⟨e, f.bank, [], fl⟩] }) ∧
       ∀ (row : Fin 17), exec (.tmma c f (some row) ⟨.clean, a⟩) s =
         .next (engineCheck (tileClocks s1 c e q.t) c e f.bank row k.pc))) ∧
  (∀ (c : Fin 1280) (s : State),
     (∀ (f : FmtT) (d : Desc) (o : Fmt),
       let e := f.eng.val
       let b := e * 2 + f.bank.val
       let k := getCore s c
       let s1 := afterFetch s c
       let out := (d.out + k.s f.oofs) % 2 ^ 64
       Runs s c [f.desc, f.oofs] → f.acc = false → f.drn = false → f.aofs = 0 → f.bofs = 0 → f.cbSlot = 0 →
       f.grpOfs = 0 → f.rsv1 = 0 → f.rsv2 = 0 → engineQueue k e < 8 → k.engQ = [] → bankBusy k e f.bank = false →
       DescReady s1 c e (k.s f.desc) d →
       fmtOf d.fmtO = some o → outAllowed (if hasBit k.accInt b then .int8 else .flt fp32) o = true →
       (drainWrites d o out).all inScratch = true → outMisaligned d o out = false → hasBit k.accValid b = true →
       hasBit (getF s COR_ENG_STAT_FAILED c 0) e = false →
       (∀ r ∈ drainWrites d o out, (rangeGrant s1 c r.1 r.2).1 = .served) →
       let p := drainBank (fetched s c) e f.bank d o out s.draws
       exec (.tdrain c f) s = .next (modCore (if d.rnd = 1 then { s1 with draws := s1.draws + 1024 } else s1) c fun k =>
         { k with tiles := k.tiles ++ [⟨e, f.bank, p.1, p.2⟩] })) ∧
     (∀ (e : Fin 4),
       ((getCore s c).tiles.find? (fun t => t.eng == e.val) = none → exec (.tileComplete c e) s = .next s) ∧
       ∀ t, (getCore s c).tiles.find? (fun t => t.eng == e.val) = some t →
         exec (.tileComplete c e) s = .next (pumpEng (retire (modCore (putTile s c t.out) c fun k =>
           { k.flag t.flags with tiles := k.tiles.erase t }) c 1) c)))

/-- R175: TCBLD enters the queue of every engine of EMASK and waits there for its write. R129: the load at the head of its
queues reads the 32 bytes of its record once no drain of its engines still writes there, and a record that passes its checks
becomes the slot of those engines; one that fails leaves the slot invalid and the core faults with CB_REFUSED and the slot as
the detail. The load retires either way. -/
def Obligations.CodebookLoads : Prop :=
  ∀ (c : Fin 1280) (s : State),
    (∀ (f : FmtC),
      let k := getCore s c
      let a := (k.s f.a + (f.imm.signExtend 64).toNat) % 2 ^ 64
      let t := engQueued s c (.tcbld f.slot f.emask a)
      Runs s c [f.a] → f.rsv = 0 → f.emask ≠ 0 → (∀ e < 4, hasBit f.emask e = true → engineQueue k e < 8) →
      exec (.tcbld c f) s = .next (pumpEng t c) ∧
      (k.engQ = [] → a < 0x100000 → a % 32 = 0 →
        (∀ e < 4, hasBit f.emask e = true → hasBit (getF s COR_ENG_STAT_FAILED c 0) e = false) →
        exec (.tcbld c f) s = .next t)) ∧
    (∀ x slot m a, cbHead (getCore s c).engQ 0 = some x → x.op = .tcbld slot m a →
      outTouches (getCore s c) m [(a, 32)] = false → Served s c a 32 → localUe s c a 32 = false →
      let r := readLE (readLocal s c) a 32
      let t := retire (modCore s c fun k => cbStore { k with engQ := k.engQ.erase x } slot m r) c 1
      exec (.codebookSlotWrite c .clean) s = .next (if cbValid r then pumpEng t c else
        faultCore t c fcCbRefused (((lowestBit 4 m).getD 0) + 1) slot x.pc))

/-! ## The queues of a core: sync, fabric and DMA instructions, FENCE, MWAIT, HALT (R132, R138, R139, R168, R180 to R188) -/

namespace Sys2Proof.Machine

/-- The core after an instruction bound for the sync and fabric queue: it stands at the queue's end, and its register, if it
writes one, may not be used until it is written (R188). -/
def queued (s : State) (c : Nat) (d : Option Nat) (op : FabOp) : State :=
  let k := fetched s c
  putCore s c { k with
    fabQ := k.fabQ ++ [⟨op, (getCore s c).pc⟩]
    busy := match d with
      | some d => if d = 0 then k.busy else k.busy ++ [d]
      | none => k.busy }

end Sys2Proof.Machine

/-- R182, R183, R184, R185: an instruction of the sync and fabric queue names its address, object, operand and register at
dispatch, and joins the queue, which then issues what it may. R182, R185: a misaligned GLD, GST or ATOM at its head faults the
core, and nothing is sent. R133: while the queue is full the stream stalls. -/
def Obligations.FabricInstructions : Prop :=
  ∀ (c : Fin 1280) (fn : Fin 128) (f : FmtA) (s : State), f.rsv = 0 →
    let k := getCore s c
    let n := 2 ^ (fn.val % 4)
    let a := (k.s f.a + (f.imm.signExtend 64).toNat) % 2 ^ 64
    let obj := (k.s f.a + f.imm.toNat) % 2 ^ 16
    let goes := fun d op => Host.Outcome.next (φ := Fault) (ρ := Refusal) (pumpFab (queued s c d op) c)
    let atom := fun fn => goes (some f.d.val) (.atom fn f.d a (k.s f.b) (k.s f.d))
    let bad := fun d op => Host.Outcome.next (φ := Fault) (ρ := Refusal)
      (faultCore (queued s c d op) c fcMisaligned uFabric 0 k.pc)
    (8 ≤ k.fabQ.length → (fn.val < 8 → f.b = 0 → exec (.gld c fn f) s = .next s) ∧
      (fn.val < 4 → f.d = 0 → exec (.gst c fn f) s = .next s) ∧ exec (.atomAdd64 c f) s = .next s ∧
      (f.imm.toNat < 2 ^ 16 → f.d = 0 → exec (.sadd c f) s = .next s ∧ exec (.sset c f) s = .next s) ∧
      exec (.swait c 0 f) s = .next s) ∧
    (k.fabQ = [] → k.wait = none →
      (Runs s c [f.a, f.d] → fn.val < 8 → f.b = 0 → a % n ≠ 0 →
        exec (.gld c fn f) s = bad (some f.d.val) (.load f.d n (decide (4 ≤ fn.val)) a)) ∧
      (Runs s c [f.a, f.b] → fn.val < 4 → f.d = 0 → a % n ≠ 0 →
        exec (.gst c fn f) s = bad none (.store n a (k.s f.b % 2 ^ (8 * n)))) ∧
      (Runs s c [f.a, f.b, f.d] → a % 8 ≠ 0 →
        exec (.atomCas64 c f) s = bad (some f.d.val) (.atom 4 f.d a (k.s f.b) (k.s f.d)))) ∧
    (k.fabQ.length < 8 →
    (Runs s c [f.a, f.d] → fn.val < 8 → f.b = 0 →
      exec (.gld c fn f) s = goes (some f.d.val) (.load f.d n (decide (4 ≤ fn.val)) a)) ∧
    (Runs s c [f.a, f.b] → fn.val < 4 → f.d = 0 →
      exec (.gst c fn f) s = goes none (.store n a (k.s f.b % 2 ^ (8 * n)))) ∧
    (Runs s c [f.a, f.b, f.d] →
      exec (.atomAdd64 c f) s = atom 0 ∧ exec (.atomSwap64 c f) s = atom 3 ∧ exec (.atomCas64 c f) s = atom 4 ∧
      exec (.atomAnd64 c f) s = atom 5 ∧ exec (.atomOr64 c f) s = atom 6 ∧ exec (.atomXor64 c f) s = atom 7 ∧
      exec (.atomMin64 c f) s = atom 8 ∧ exec (.atomMax64 c f) s = atom 9 ∧ exec (.atomMinu64 c f) s = atom 10 ∧
      exec (.atomMaxu64 c f) s = atom 11 ∧
      exec (.atomAdd32 c f) s = atom 1 ∧ exec (.atomFadd32 c f) s = atom 2) ∧
    (f.imm.toNat < 2 ^ 16 →
      (Runs s c [f.a, f.b] → f.d = 0 →
        exec (.sadd c f) s = goes none (.sadd obj (k.s f.b)) ∧
        exec (.sset c f) s = goes none (.sset obj (k.s f.b % 2 ^ 48))) ∧
      (Runs s c [f.a, f.d] → f.b = 0 → exec (.sread c f) s = goes (some f.d.val) (.sread f.d obj))) ∧
    (Runs s c [f.a, f.b, f.d] →
      exec (.swait c 0 f) s = goes (some f.d.val) (.swait f.d ((k.s f.a + f.imm.toNat % 2 ^ 16) % 2 ^ 16) (k.s f.b % 2 ^ 48)
        (if f.imm.toNat / 2 ^ 16 = 0 then 0 else s.time.tempoNo + f.imm.toNat / 2 ^ 16))))

/-- R184: while a SWAIT waits, nothing behind it issues: an instruction that joins the queue leaves the rest of the device as
it was. A SWAIT on an object of the core's own site begins to wait at once when the queue is idle, with the boundary of its
timeout. R184: a wait ends with OK when its condition is met, with FAILED_TIMEOUT at the boundary of its timeout, and with
FENCED or TARGET_RESETTING by the state of the object's site; its register takes the status, the SWAIT retires, and the queue
goes on. Otherwise it goes on waiting. R346: a wait without a shadow asks for its object's value. -/
def Obligations.WaitInstruction : Prop :=
  (∀ (c : Fin 1280) (f : FmtA) (s : State), f.rsv = 0 → (getCore s c).fabQ.length < 8 →
     let k := getCore s c
     (∀ w, k.wait = some w → Runs s c [f.a, f.b] → f.d = 0 → f.imm.toNat < 2 ^ 16 →
       exec (.sadd c f) s = .next (queued s c none (.sadd ((k.s f.a + f.imm.toNat) % 2 ^ 16) (k.s f.b)))) ∧
     (k.wait = none → k.fabQ = [] → Runs s c [f.a, f.b, f.d] →
       let obj := (k.s f.a + f.imm.toNat % 2 ^ 16) % 2 ^ 16
       syncSite obj = corSite c →
       let t := f.imm.toNat / 2 ^ 16
       exec (.swait c 0 f) s = .next (putCore s c { fetched s c with
         fabQ := []
         busy := if f.d = 0 then k.busy else k.busy ++ [f.d.val]
         wait := some ⟨f.d, obj, k.s f.b % 2 ^ 48, if t = 0 then none else some (s.time.tempoNo + t), false, none⟩ }))) ∧
  (∀ (c : Fin 1280) (s : State) (w : WaitRec), (getCore s c).wait = some w →
     let ends := fun st => Host.Outcome.next (φ := Fault) (ρ := Refusal) (pumpFab (closeWait s c st) c)
     exec (.swaitComplete c) s = (if waitMet s c w then ends .ok
       else if siteFenced s (syncSite w.obj) then ends .fenced
       else if siteResetting s (syncSite w.obj) then ends .targetResetting else .next s) ∧
     exec (.swaitTimeout c) s = (match w.deadline with
       | none => .next s
       | some t => if t ≤ s.time.tempoNo then ends (if waitMet s c w then .ok else .failedTimeout) else .next s) ∧
     (∀ st, getCore (endWait s c st) c = { (({ getCore s c with wait := none } : Core).setS w.d st.code) with
       busy := if w.d = 0 then (getCore s c).busy else (getCore s c).busy.erase w.d }) ∧
     exec (.swaitPoll c) s = .next (if w.polling then
       inject s (corSite c) (ctrlPkt opSYNC_READ (gaHere s (syncSite w.obj) 0) w.obj 0) (.corePoll c) else s))

/-- R180: a DCOPY joins the DMA queue with its operands, and the head of the queue issues when a descriptor and a tag are
free. Its operands are checked there, and a breach faults the core; a copy of length 0 completes at once. R133: while the
queue is full the stream stalls. -/
def Obligations.CopyInstruction : Prop :=
  ∀ (c : Fin 1280) (f : FmtM) (e : EccAt) (s : State), f.rsv = 0 →
    let k := getCore s c
    let n := k.s f.c
    let q : CopyReq := ⟨if f.dg then k.s f.a else gaOfLocal s c (k.s f.a), if f.sg then k.s f.b else gaOfLocal s c (k.s f.b),
      n / 64, f.pkt, f.arrEn, f.cmpEn, f.arrive, f.complete, !f.dg, !f.sg⟩
    let t := putCore s c { fetched s c with dmaQ := k.dmaQ ++ [⟨q, k.s f.a, k.s f.b, n, e.ecc, e.place, k.pc⟩] }
    let breach := fun code => Host.Outcome.next (φ := Fault) (ρ := Refusal) (faultCore t c code uDma 0 k.pc)
    let aligned := k.s f.a % 64 = 0 ∧ k.s f.b % 64 = 0
    let within := (f.dg = true ∨ localRange (k.s f.a) n = true) ∧ (f.sg = true ∨ localRange (k.s f.b) n = true)
    (16 ≤ k.dmaQ.length → exec (.dcopy c ⟨f, e⟩) s = .next s) ∧
    (Runs s c [f.a, f.b, f.c] → k.dmaQ.length < 16 → exec (.dcopy c ⟨f, e⟩) s = .next (dmaPump t c)) ∧
    (Runs s c [f.a, f.b, f.c] → k.dmaQ = [] → k.dmaLive < 16 →
      (n % 64 ≠ 0 ∨ 2 ^ 28 < n → exec (.dcopy c ⟨f, e⟩) s = breach fcOperand) ∧
      (n % 64 = 0 → n ≤ 2 ^ 28 → ¬ aligned → exec (.dcopy c ⟨f, e⟩) s = breach fcMisaligned) ∧
      (n % 64 = 0 → n ≤ 2 ^ 28 → aligned → ¬ within → exec (.dcopy c ⟨f, e⟩) s = breach fcLocal) ∧
      (n = 0 → aligned → within → exec (.dcopy c ⟨f, e⟩) s = .next (retire (
        if f.cmpEn then syncAdd (afterFetch s c) f.complete 1 else afterFetch s c) c 1)))

/-- R139, R168, R186, R187: FENCE with a mask stops dispatch, and FENCE_DONE lets it go on once every condition of the mask
holds; MWAIT consumes a pending wake or puts the core in MOVE_WAIT; HALT stops dispatch and ends a wait, and the core is
HALTED once its queues are empty. -/
def Obligations.FenceMwaitHalt : Prop :=
  ∀ (c : Fin 1280) (f : FmtA) (s : State),
    let k := getCore s c
    (Runs s c [] → f.d = 0 → f.a = 0 → f.b = 0 → f.rsv = 0 →
      (f.imm = 0 → exec (.fence c 0 f) s = .next (retired s c (fetched s c))) ∧
      (f.imm ≠ 0 → f.imm.toNat < 64 → exec (.fence c 0 f) s = .next (putCore s c { fetched s c with fence := some f.imm.toNat })) ∧
      (f.imm = 0 → getF s COR_STAT_WAKE_PEND c 0 = 1 →
        exec (.mwait c 0 f) s = .next (setF (retired s c (fetched s c)) COR_STAT_WAKE_PEND c 0 0)) ∧
      (f.imm = 0 → getF s COR_STAT_WAKE_PEND c 0 ≠ 1 →
        exec (.mwait c 0 f) s = .next (settle (setCoreState (retired s c (fetched s c)) c csMoveWait) c)) ∧
      (f.imm = 0 → exec (.halt c 0 f) s = .next (haltCore (retired s c (fetched s c)) c))) ∧
    (∀ m, k.fence = some m → fenceMet k m = true →
      exec (.fenceDone c) s = .next (retire (modCore s c fun k => { k with fence := none, ibuf := k.ibuf && !hasBit m 5 }) c 1)) ∧
    (k.halting = true → queuesEmpty k = true → coreState s c = csRunning →
      Completes (.coreHalted c) s fun t => coreState t c = csHalted ∧ (getCore t c).halting = false ∧
        (SMap.get s.raised 0 ((cCOR * 2048 + c) * 32 + 1) ≠ nowClk s + 1 → hasBit (getF t (PG_EVT_FLAG cCOR) c 0) 1 = true))

/-! ## Commands that write a register (R13, R530) -/

namespace Sys2Proof.Machine

/-- The plain fields of a register take their bits of the value written (R13). -/
def stored (s : State) (c i o v : Nat) : State := forAll (fieldsAt c o) s fun s p => storeField s p.1 i p.2 v

/-- The management core and a sideband message have an answer to their write; a host function has none. -/
def replied (s : State) (q : Requester) (c i o : Nat) : State :=
  if hostBar q false then s else emit s (.answer q (regOfs c i o) 0 .ok)

/-- A write of a register passes the checks of R530. -/
abbrev Allowed (s : State) (q : Requester) (c i o v : Nat) : Prop :=
  regCheck s q false (regOfs c i o) 4 (some v) = (s, none)

end Sys2Proof.Machine

/-! ## Move sequencers (R72 to R86) -/

/-- R82, R83: START outside a run latches the settings of the selected list and the check begins; while a list is in force it
is refused with code 11. R84: STOP ends a check at once and asks a run to end at the next beat. R80: FORCE issues the stalled
entry, late by at least one beat. R85: SWAP_ARM 1 begins the check of the other list and 0 disarms. Each holds where the write
asks for nothing else. What ends the run at a beat boundary that has passed takes effect before the write (R69, R84). R86: a
write of `MOV_LOAD_DATA` puts the next word into the entry, and after its eighth word goes on to the next entry; entries of a
list in force are refused with LOAD_CONFLICT. GO in `MOV_DMA_CTRL` starts a copy load. Data that come for it fill each entry
that they hold whole and no other, and COPY_LOAD_COMPLETE ends the load once every packet has been answered. -/
def Obligations.MoveCommands : Prop :=
  (∀ (q : Requester) (site : Fin 16) (v : BitVec 32) (s : State), Allowed s q cMOV site MOV_CTRL_START.off v.toNat →
     let w := seqSettle (stored s cMOV site MOV_CTRL_START.off v.toNat) site
     let done := fun (t : State) => Host.Outcome.next (φ := Fault) (ρ := Refusal) (replied t q cMOV site MOV_CTRL_START.off)
     let sel := getF w MOV_CTRL_LIST_SEL site 0
     let at_ := getF w MOV_START site 0
     let armed := (getSeq w site).swap.isSome
     (v.toNat % 8 = 1 → hasBit v.toNat 4 = armed → armed = false →
       exec (.start q site v) s = done (if seqActive w site then raise (setF w MOV_STAT_ERR site 0 11) cMOV site 13
         else setSeqState (putSeq w site { getSeq w site with
           start := at_, period := getF w MOV_PERIOD site 0, sel := sel, base := getF w MOV_LIST_BASE site sel
           len := getF w MOV_LIST_LEN site sel, startOk := decide (beatsSince w at_ ≤ -800), prior := seqState w site
           stopReq := none, suspReq := none }) site mvChecking)) ∧
     (v.toNat % 8 = 2 → hasBit v.toNat 4 = false → armed = false →
       exec (.stop q site v) s = done (if seqState w site = mvChecking then endRun w site mvStopped 11
         else if seqActive w site then putSeq w site { getSeq w site with stopReq := some ((getSeq w site).stopReq.getD (nowBeat w)) }
         else w)) ∧
     (v.toNat % 8 = 4 → hasBit v.toNat 4 = false → armed = false →
       (seqState w site = mvStalled ∧ ((getSeq w site).eccStall = false ∨ (getSeq w site).reloaded = 8) →
         (getSeq (issueEntry w site 1) site).swap = none →
         exec (.movForce q site v) s = done (issueEntry w site 1)) ∧
       (seqState w site ≠ mvStalled → exec (.movForce q site v) s = done w)) ∧
     (v.toNat % 8 = 0 → hasBit v.toNat 4 = true →
       exec (.swapArm q site v) s = done (if armed then w else
         let l := if seqActive w site then 1 - (getSeq w site).sel else 1 - sel
         putSeq (setF w MOV_CTRL_SWAP_ARM site 0 1) site { getSeq w site with
           swap := some (getF w MOV_LIST_BASE site l, getF w MOV_LIST_LEN site l), swapChecking := true })) ∧
     (v.toNat % 8 = 0 → hasBit v.toNat 4 = false →
       exec (.swapDisarm q site v) s = done (if armed then
         resubscribe (putSeq (setF w MOV_CTRL_SWAP_ARM site 0 0) site
           { getSeq w site with swap := none, swapChecking := false }) site else w))) ∧
  (∀ (q : Requester) (site : Fin 16) (v : BitVec 32) (s : State),
     (Allowed s q cMOV site MOV_LOAD_DATA.off v.toNat →
       let w := stored s cMOV site MOV_LOAD_DATA.off v.toNat
       let idx := getF w MOV_LOAD_IDX site 0
       Completes (.moveLoadData q site v) s fun t => t = replied (movLoadData w site v.toNat) q cMOV site MOV_LOAD_DATA.off ∧
         (loadRefused w site idx 1 = true → movLoadData w site v.toNat = raise w cMOV site 10) ∧
         (loadRefused w site idx 1 = false → (getSeq w site).loadWord < 8 → moveEntry w site idx < 2 ^ 256 →
           ∀ b < 256, hasBit (moveEntry t site idx) b =
             if b / 32 = (getSeq w site).loadWord then hasBit v.toNat (b % 32) else hasBit (moveEntry w site idx) b)) ∧
     (Allowed s q cMOV site MOV_DMA_CTRL_GO.off v.toNat → hasBit v.toNat 31 = true →
       let w := stored s cMOV site MOV_DMA_CTRL_GO.off v.toNat
       let n := getF w MOV_DMA_CTRL_COUNT site 0
       let dst := getF w MOV_DMA_CTRL_DST site 0
       let src := getF w MOV_DMA_SRC site 0
       (getSeq w site).dma = none →
       exec (.copyLoadGo q site v) s = .next (replied (
         if n = 0 ∨ 4096 < dst + n ∨ src % 32 ≠ 0 then loadEnds w site .addressInvalid
         else if loadRefused w site dst n then loadEnds w site .accessDenied
         else loadBegin (putSeq w site { getSeq w site with dma := some (src, dst, n) }) site .clean 0) q cMOV site MOV_DMA_CTRL_GO.off)) ∧
     (∀ src dst n ofs bs, (getSeq s site).dma = some (src, dst, n) → dst + n ≤ 4096 →
       let t := loadEntries s site ofs bs
       let whole := fun i => ofs ≤ src % 64 + 32 * i ∧ src % 64 + 32 * i + 32 ≤ ofs + bs.length
       (∀ i < n, whole i → moveEntry t site (dst + i) = ofBytesLE ((bs.drop (src % 64 + 32 * i - ofs)).take 32)) ∧
       (∀ j < 4096, (∀ i < n, whole i → j ≠ dst + i) → moveEntry t site j = moveEntry s site j)) ∧
     (∀ r, (s.copies.find? fun r => r.kind == .moveLoad site) = some r → (isHere s r.req.src = false ∨ gaSite r.req.src ≠ r.site) →
       ∀ e a, exec (.copyLoadComplete site e a) s = .next (if r.waiting = 0 then copyEnd s r else s)))

/-- R72 to R79: the next entry issues when it is due, its wait is met, no error is in it and its engine has room; the
sequencer goes on to the entry after it, and the entry's action follows. Otherwise nothing more happens than that a STOP or
suspension takes effect whose beat boundary has passed (R69, R84). -/
def Obligations.MoveEntries : Prop :=
  ∀ (site : Fin 16) (s0 : State),
    let s := seqSettle s0 site
    let k := getSeq s site
    let e := moveEntry s site k.idx
    let d := sinceDue s site
    let u := issued s site 0
    let may := fun act => entryDue s site && meAct e == act && !entryBad s site k.idx && moveWaitMet s site && !copyWaits s site e
    let row := fun act (t : State) => Host.Outcome.next (φ := Fault) (ρ := Refusal) (if may act then t else s)
    exec (.moveNop site) s0 = row actNop u ∧
    exec (.moveGrant site) s0 = row actGrant (issueGrant u 0 site k.idx (meOp0 e)) ∧
    exec (.moveRelease site) s0 = row actRelease (issueRelease u 0 site k.idx (meOp0 e)) ∧
    exec (.moveCopyStart site) s0 = row actCopy (tableStart u site (meOp0 e % 65536)) ∧
    exec (.moveWakeCore site) s0 = row actWake (if (siteDie site).isSome then
      issueWake u site k.idx k.posIter (nowBeat s - d.toNat) (decide (0 < max (0 : Int) d)) else u) ∧
    exec (.moveSyncAdd site) s0 = row actAdd
      (inject u site (syncPkt u opSYNC_ADD (meOp0 e % 2 ^ 16) (meOp1 e % 2 ^ 48)) (.moveSync site)) ∧
    exec (.moveSyncSet site) s0 = row actSet
      (inject u site (syncPkt u opSYNC_SET (meOp0 e % 2 ^ 16) (meOp1 e % 2 ^ 48)) (.moveSync site)) ∧
    exec (.moveCalWindow site) s0 = row actCal (openWindow u site (bitsOf (meOp0 e) 19 16) (bitsOf (meOp0 e) 15 0)) ∧
    exec (.moveHalt site) s0 = row actHalt (endRun u site mvStopped 11)

/-- R76, R81, R85: a loop head advances the iteration and `MOV_ITER`, raises OVERRUN when entries of the iteration before
remain, or brings in the list of an armed swap, whose first iteration begins there. A STOP or suspension whose beat boundary
has passed takes effect first (R69, R85). R80: the next entry's deadline passes with its wait unmet, and the sequencer is
STALLED with the entry and object named. R81: an entry that cannot be read stalls the sequencer with code 8. R74: at a
boundary the wakes of its tempo are booked, in list order; where none is due nothing changes. -/
def Obligations.MoveProgress : Prop :=
  (∀ (site : Fin 16) (s0 : State),
     let s := seqSettle s0 site
     headDue s site = true →
     let k := getSeq s site
     let n := nextHead s site
     (headSwaps s site = false →
       let s1 := if headOverrun s site then raise s cMOV site 3 else s
       let t := setF (putSeq s1 site { k with heads := n + 1 }) MOV_ITER site 0 n
       let t := if seqState s1 site = mvArmed then setSeqState t site mvRunning else t
       exec (.loopHead site) s0 = .next t ∧ (headOverrun s site = true → exec (.movOverrun site) s0 = .next t)) ∧
     (headSwaps s site = true →
       Completes (.swap site) s0 fun t => exec (.loopHead site) s0 = .next t ∧ seqState t site = mvRunning ∧
         (∀ l, k.swap = some l → (getSeq t site).base = l.1 ∧ (getSeq t site).len = l.2 ∧ (getSeq t site).swap = none ∧
           (getSeq t site).sel = 1 - k.sel ∧ (getSeq t site).start = (k.start + n * k.period) % 2 ^ 64 ∧
           (getSeq t site).pos = 0 ∧ (getSeq t site).posIter = 0 ∧ (getSeq t site).heads = 1))) ∧
  (∀ (site : Fin 16) (s0 : State),
     let s := seqSettle s0 site
     let k := getSeq s site
     let e := moveEntry s site k.idx
     (seqState s site = mvRunning → k.posIter < k.heads → meDeadline e ≠ 0 → moveWaitMet s site = false →
       (meDeadline e * 100 : Int) ≤ sinceDue s site → entryBad s site k.idx = false →
       exec (.deadline site) s0 = .next (setSeqState (raise (setF (setF s MOV_STALL_IDX site 0 k.idx) MOV_STALL_SYNC site 0
         (meSync e)) cMOV site 2) site mvStalled)) ∧
     (entryDue s site = true → Completes (.entryEccError site) s0 fun t => seqState t site = mvStalled ∧
       getF t MOV_STAT_ERR site 0 = 8 ∧ (getSeq t site).eccStall = true ∧ entryBad t site k.idx = true) ∧
     (atBoundary s = true → seqState s site = mvRunning →
       (∀ i < k.len, meAct (moveEntry s site (k.base + i)) = actWake →
         beatsSince s (k.start + (k.heads - 1) * k.period + meOfs (moveEntry s site (k.base + i))) ≠ 0) →
       exec (.wakeBooking site) s0 = .next s) ∧
     (atBoundary s = true → seqState s site = mvRunning → k.len = 1 → k.posIter = k.heads - 1 → k.pos = 0 → k.bookings = [] →
       meAct (moveEntry s site k.base) = actWake →
       beatsSince s (k.start + (k.heads - 1) * k.period + meOfs (moveEntry s site k.base)) = 0 →
       exec (.wakeBooking site) s0 =
         .next (bookWake s site k.base (k.heads - 1) (nowBeat s + meBeat (moveEntry s site k.base)) false false)))

/-- R75, R82: a check that finds no breach arms the list; a breach gives its code and place and the state before; a start
nearer than 8 tempos is refused with code 5. R85: the check of a swap leaves it armed, or disarms it with the breach. R84,
R69: a STOP takes effect at the beat boundary after its write, and a suspension at the one after it fell due. -/
def Obligations.MoveChecks : Prop :=
  ∀ (site : Fin 16) (s : State),
    let k := getSeq s site
    (seqState s site = mvChecking →
      let held := match k.swap with
        | some (b, n) => if k.swapChecking then [] else remoteWaits s site b n
        | none => []
      let other := (getF s MOV_LIST_BASE site (1 - k.sel), getF s MOV_LIST_LEN site (1 - k.sel))
      (k.startOk = false → exec (.listCheckDone site none) s =
        .next (raise (setSeqState (setF s MOV_STAT_ERR site 0 5) site k.prior) cMOV site 13)) ∧
      (k.startOk = true → ∀ b, listCheck s site k.base k.len k.period other held = some b →
        exec (.listCheckDone site none) s = .next (raise (setSeqState
          (setF (setF s MOV_STAT_ERR site 0 b.1) MOV_STAT_POS site 0 b.2) site k.prior) cMOV site 5)) ∧
      (k.startOk = true → listCheck s site k.base k.len k.period other held = none →
        Completes (.listCheckDone site none) s fun t => seqState t site = mvArmed ∧ getF t MOV_STAT_ERR site 0 = 0 ∧
          (getSeq t site).pos = 0 ∧ (getSeq t site).heads = 0)) ∧
    (∀ b n, k.swap = some (b, n) → k.swapChecking = true →
      Completes (.swapCheckDone site none) s fun t =>
        (getSeq t site).swapChecking = false ∧ ((getSeq t site).swap = some (b, n) ∨
          (getSeq t site).swap = none ∧ getF t MOV_CTRL_SWAP_ARM site 0 = 0)) ∧
    (limitDue s = false →
      (∀ b, k.stopReq = some b → k.suspReq = none →
        exec (.stopApply site) s = .next (if b < nowBeat s then endRun s site mvStopped 11 else s)) ∧
      (∀ b, k.suspReq = some b → k.stopReq = none →
        exec (.stopApply site) s = .next (if b < nowBeat s then endRun s site mvSuspended 4 else s)))

/-! ## Cores, banks and line caches (R137 to R149, R195 to R212, R412 to R419, R454) -/

/-- R138, R417: what a write of `COR_CTRL` does to a position that is neither SPARE nor FAILED nor draining a reset. PWR_REQ
is stored and applied: ON asks the governor for an OFF or RETAINED core; RETAIN and OFF start a transition from HALTED or
MOVE_WAIT (OFF also from FAULTED and RETAINED), and wait while the core is RUNNING; OFF withdraws a power-up not yet admitted.
RUN asks the governor for a HALTED core, HALT stops dispatch of a RUNNING one, CLR_FAULT makes a FAULTED one HALTED, and RESET
is performed alone. R138: a transition takes its time, and then the core is in the state it was on its way to, where a PWR_REQ
that waited applies; one powered up or off has lost its scratchpad and registers. R419: at its drain limit a reset of a
position takes effect on what is left, and before it as soon as nothing is open. R414: the spare takes the failed position's
column at a boundary, once it is HALTED and nothing is in flight. R454: a die takes the lower ratio decided for it. R147: a
flit that a replay mends is counted, one that fails marks its link. -/
def Obligations.CoreStates : Prop :=
  (∀ (q : Requester) (c : Fin 1280) (v : BitVec 32) (s : State), Allowed s q cCOR c COR_CTRL_RUN.off v.toNat →
     let p := bitsOf v.toNat 5 4
     let st := coreState s c
     let w := setF s COR_CTRL_PWR_REQ c 0 p
     let done := fun (t : State) => Host.Outcome.next (φ := Fault) (ρ := Refusal) (replied t q cCOR c COR_CTRL_RUN.off)
     let asks := fun (k : GovKind) => govRequest (modCore w c fun k => { k with asked := true }) k
     let goes := fun t g => modCore t c fun k => { k with goal := some (g, nowBeat t) }
     st ≠ csSpare → st ≠ csFailed → (getCore s c).resetAt = none →
     (v.toNat % 16 = 0 → p = 0 → (getCore s c).asked = false → (getCore s c).goal = none →
       exec (.pwrReqOn q c v) s = done (if st = csOff then asks (.corePower c) else if st = csRetained then asks (.coreReturn c)
         else if st = csHalted ∨ st = csMoveWait then modCore w c fun k => { k with goal := none } else w)) ∧
     (v.toNat % 16 = 0 → p = 1 →
       exec (.pwrReqRetain q c v) s = done (if st = csHalted ∨ st = csMoveWait then goes w csRetained else w)) ∧
     (v.toNat % 16 = 0 → 2 ≤ p →
       exec (.pwrReqOff q c v) s = done (if st = csHalted ∨ st = csMoveWait ∨ st = csFaulted ∨ st = csRetained then
         goes (dropPower w c) csOff else if st = csOff ∧ (getCore s c).goal = none then dropPower w c else w)) ∧
     (v.toNat % 16 = 1 → (getCore s c).asked = false → st = csHalted →
       exec (.run q c v) s = done (pwrRequest (asks (.coreRun c)) c p)) ∧
     (v.toNat % 16 = 2 → st = csRunning → exec (.corHalt q c v) s = done (pwrRequest (haltCore w c) c p)) ∧
     (v.toNat % 16 = 4 → st = csFaulted →
       exec (.clrFault q c v) s = done (pwrRequest (settle (setCoreState w c csHalted) c) c p)) ∧
     (hasBit v.toNat 3 = true → exec (.coreReset q c v) s = done (
       let t := coreReset w c
       if (getCore t c).resetAt.isSome then t else pwrRequest t c p))) ∧
  (∀ (s : State),
     (∀ (c : Fin 1280) g b, (getCore s c).goal = some (g, b) →
       (nowBeat s < b + goalBeats (coreState s c) g → exec (.coreTransitionDone c) s = .next s) ∧
       (b + goalBeats (coreState s c) g ≤ nowBeat s → g < 8 →
         Completes (.coreTransitionDone c) s fun t =>
           coreState t c = (if g ≠ csRetained ∧ g ≠ csOff ∧ (coreState s c = csOff ∨ coreState s c = csSpare) then csHalted
             else g) ∧
           (getCore t c).goal = (if g = csRetained ∨ g = csOff ∨
               (g = csRunning ∧ coreState s c ≠ csOff ∧ coreState s c ≠ csSpare) ∨ getF s COR_CTRL_PWR_REQ c 0 = 0 then none
             else some (if getF s COR_CTRL_PWR_REQ c 0 = 1 then csRetained else csOff, nowBeat s)) ∧
           (g = csRetained → (getCore t c).regs = (getCore s c).regs ∧ (getCore t c).wasWait = (coreState s c == csMoveWait)) ∧
           (g = csOff ∨ (g ≠ csRetained ∧ (coreState s c = csOff ∨ coreState s c = csSpare)) →
             t.draws = s.draws + 31 + 2048 ∧ (getCore t c).pc = 0 ∧ (getCore t c).asw = 0))) ∧
     (∀ (n : Fin 1280) t0, (getCore s n).resetAt = some t0 → coreState s n ≠ csFailed →
       exec (.resetDrainLimit false n) s = .next (if t0 ≤ s.time.tempoNo then coreResetDone (absorbCore s n) n
         else if coreDrained s n then coreResetDone s n else s)) ∧
     (∀ (n : Fin 1280), (SMap.find s.cluResets (n % 32)).isSome = true →
       exec (.resetDrainLimit true n) s = .next (cluResetCheck s (n % 32))) ∧
     (∀ (c : Fin 1280), (s.substs.any fun x => x.pos == c.val) = true →
       (atBoundary s = true → coreState s (rowSpare c) = csHalted → nothingInFlight s c = true →
         exec (.spareSubstitution c true) s = .next (substitute s c)) ∧
       exec (.spareSubstitution c false) s = .next (spareFails s c)) ∧
     (∀ (d : Fin 8), exec (.ratioDecrease d) s =
       .next (if getF s CDI_CLK_RATIO d 0 < dieWant s d then setRatio s d (dieWant s d) else s)) ∧
     (∀ (d : Fin 8) (g : Fin 3) (link : Fin 32) (tag : Fin 65536),
       exec (.flitCrcFail d g link true tag) s = .next (raise (bumpF s CDI_NET_CE d 0 1) cCDI d 1) ∧
       (g = 0 → hasBit (getF s CDI_LINK_FAIL d 0) link = true →
         exec (.flitCrcFail d g link false tag) s =
           .next (flitLost (raise (bumpF s CDI_NET_UE d 0 1) cCDI d 2) (dieSite d) tag))))

/-- R196 to R201: a write of a bank's `_SET` register with GO is refused, is done at once where it asks for the settings in
force, or starts a handover; the handover ends when nothing accepted before it remains, or by force at its limit; a level
reached is in force, and OFF loses the contents; a bank that the governor has admitted is awake. R204: APPLY begins a change
of the cache's size, in which the banks that join go over to CACHE; the change is done when they have joined, no line is left
in the sets that go away and none is on its way to the cache. R212: a pinned line's writeback is sent again. -/
def Obligations.BankSettings : Prop :=
  (∀ (cluster : Bool) (inst : Fin 1280) (n : Fin 32) (s : State),
     let b := bankOf cluster inst n
     let page := if cluster then cCLU else cCOR
     (∀ (q : Requester) (v : BitVec 32), Allowed s q page b.inst (0x100 + 8 * b.n) v.toNat → hasBit v.toNat 31 = true →
       let w := stored s page b.inst (0x100 + 8 * b.n) v.toNat
       let cls := bitsOf v.toNat 14 12
       let id := bitsOf v.toNat 11 0
       let inb := bitsOf v.toNat 17 16
       let rot := bitsOf v.toNat 23 18
       let pwr := bitsOf v.toNat 25 24
       let x := bankSettings w cls (if cluster then id else 0) inb rot pwr
       exec (.bankHandover q cluster inst n v) s = .next (replied (
         if b.refuses w cls id pwr then b.put w b.sLastF 2
         else if b.same w x then b.put (b.request w cls id inb rot pwr) b.sLastF 1
         else b.start (b.request w cls id inb rot pwr) x) q page b.inst (0x100 + 8 * b.n))) ∧
     (b.get s b.sState = 1 → bankTiles s b = [] → bankCopies s b = [] →
       exec (.handoverDone cluster inst n) s = .next (pumpClu (bankEffect s b 1) b.clu) ∧
       (∀ t, t = bankEffect s b 1 → b.get t b.sClass = (b.next s).cls % 8 ∧ b.get t b.sLastF = 1 ∧
         b.get t b.sState = if (b.next s).pwr = b.get s b.sPwr then 0 else 3)) ∧
     (b.get s b.sState = 1 → getF s CLU_HO_TMO b.clu 0 ≠ 0 → SMap.get s.bankJobs 0 b.key ≤ s.time.tempoNo + 1 →
       bankTiles s b = [] → bankCopies s b = [] → bankInbound s b = [] → bankCore s b = none →
       let key := 2 ^ 60 + dieSite (b.clu / 4)
       exec (.handoverForced cluster inst n) s =
         .next (pumpClu (bankEffect (putHot s key (hotQueue s key)) b 3) b.clu)) ∧
     (b.get s b.sState = 3 → exec (.bankSleepDone cluster inst n) s = .next (
       let t := b.put (b.put s b.sPwr (b.next s).pwr) b.sState 0
       if (b.next s).pwr = 2 then bankLose t b else t)) ∧
     (b.get s b.sState = 2 → SMap.get s.bankJobs 0 b.key ≠ 0 → exec (.bankWakeDone cluster inst n) s = .next (
       b.put (b.put { s with bankJobs := SMap.set s.bankJobs 0 b.key 0 } b.sPwr 0) b.sState 0))) ∧
  (∀ (cl : Fin 32) (s : State),
     (∀ (q : Requester) (v : BitVec 32), Allowed s q cCLU cl CLU_LC_CTRL_APPLY.off v.toNat → hasBit v.toNat 31 = true →
       let w := stored s cCLU cl CLU_LC_CTRL_APPLY.off v.toNat
       (getF w CLU_LC_STAT_STATE cl 0 = 1 → exec (.lcApply q cl v) s = .next (replied w q cCLU cl CLU_LC_CTRL_APPLY.off)) ∧
       (getF w CLU_LC_STAT_STATE cl 0 ≠ 1 → cluLines w cl = [] → lcJoins w cl (bitsOf v.toNat 1 0) = [] →
         exec (.lcApply q cl v) s = .next (replied (setF
           { w with lcNext := SMap.set w.lcNext 0 cl (bitsOf v.toNat 1 0 + 1) } CLU_LC_STAT_STATE cl 0 1)
           q cCLU cl CLU_LC_CTRL_APPLY.off))) ∧
     (getF s CLU_LC_STAT_STATE cl 0 = 1 →
       let size := SMap.get s.lcNext 0 cl - 1
       (∀ m ∈ lcBanks size, getF s CLU_BANK_STAT_CLASS cl m = 5) → size < 4 → cluLines s cl = [] → s.fills.any (fun w => w.cluster == cl.val) = false →
       Completes (.lcChangeDone cl) s fun t => getF t CLU_LC_STAT_SIZE cl 0 = size ∧
         getF t CLU_LC_STAT_STATE cl 0 = (if size = 0 then 0 else 2) ∧ SMap.get t.lcNext 0 cl = 0) ∧
     (∀ line, exec (.writebackRetry cl line) s = .next (writebackAgain s cl line)))

/-! ## Memory stacks (R217 to R244) -/

/-- R241: a RESET write or the watchdog triggers the logic-layer reset, whose tempo 0 is the boundary at or after it; while
one runs, or at a failed stack, a trigger does nothing. R242: from tempo 2 the requests that have not begun are refused and
the bursts drain; the sequence is over once the governor has admitted the exit from self-refresh, with RESET_DONE, and a stack
that bring-up has still to train is then TRAINING. R227: the scrub reads one burst of the service range or of the used reserve
while no request for its bank waits; a clean one changes nothing, an error in it is corrected and counted or marked. R229: a
refresh is given to its bank, or postponed while a request waits, at most 8 times. R232: a via that fails is marked in
`MCH_VIA_FAIL` and a spare is steered to its lane. R234: a layer that fails is replaced by the spare layer, and a second one
takes the stack out of service. R239: a repair copy that completes leaves the queue, and what waited at the stack goes on. -/
def Obligations.StackCommands : Prop :=
  (∀ (k : Fin 8) (s : State),
     let x := getStack s k
     let begun := fun (s : State) =>
       let t := putStack s k { getStack s k with resetFrom := some (boundaryAfter s 0), resetLen := 42, exitOk := false }
       if atBoundary s then bumpF (setF t MST_STAT_PHASE k 0 1) MST_RST_CNT k 0 1 else t
     (∀ (q : Requester) (v : BitVec 32), Allowed s q cMST k MST_CTRL_RESET.off v.toNat → hasBit v.toNat 0 = true →
       let w := stored s cMST k MST_CTRL_RESET.off v.toNat
       exec (.stackReset q k v) s = .next (replied
         (if x.resetFrom.isSome ∨ stackFailed w k then w else begun w) q cMST k MST_CTRL_RESET.off)) ∧
     exec (.stackWatchdog k) s = .next (if x.resetFrom.isSome ∨ stackFailed s k then s else begun s) ∧
     (∀ t, x.resetFrom = some t → t + 2 ≤ s.time.tempoNo → getF s MST_STAT_PHASE k 0 = 1 →
       exec (.stackDrainLimit k) s = .next (setF (stackRefuseAll s k) MST_STAT_PHASE k 0 2)) ∧
     (∀ t, x.resetFrom = some t → 2 ≤ getF s MST_STAT_PHASE k 0 → stackFailed s k = false → x.exitOk = true →
       Completes (.stackResetDone k) s fun u => (getStack u k).resetFrom = none ∧
         getF u MST_STAT_PHASE k 0 = (if hasBit (getF s MGT_BOOT_STAT_DONE 0 0) 2 then 0 else 6) ∧ u.mem = s.mem) ∧
     (∀ t, x.resetFrom = some t → 2 ≤ getF s MST_STAT_PHASE k 0 → stackFailed s k = false → x.exitOk = false →
       govHas s (fun g => g == .stack k) = false →
       exec (.stackResetDone k) s = .next (govRequest (setF s MST_STAT_PHASE k 0 5) (.stack k)))) ∧
  (∀ (k : Fin 8) (s : State),
     let x := getStack s k
     (∀ burst, stackServes s k = true → getF s MST_CTRL_SCRUB_EN k 0 = 1 → scrubbed s k (burst * 64) = true →
       let l := dramAt s k (burst * 64)
       (bankWaits s l.ch l.bankNo = true → ∀ e, exec (.scrubRead k burst e) s = .next s) ∧
       (bankWaits s l.ch l.bankNo = false → isUe s (physStack k (burst * 64)) = false →
       exec (.scrubRead k burst .clean) s = .next s ∧
       exec (.scrubRead k burst .corrected) s = .next (
         let t := dramCe s k (burst * 64)
         if isUe t (physStack k (burst * 64)) then dramUe t k (burst * 64) else t))) ∧
     (∀ (ch : Fin 1024) (bank : Fin 48), stackServes s (ch / 128) = true →
       let st := getStack s (ch / 128)
       let key := ch.val % 128 * 64 + bank.val
       let p := SMap.get st.postponed 0 key
       exec (.refreshCommand ch bank) s = .next (putStack s (ch / 128) (
         if bankWaits s ch bank ∧ p < 8 then { st with postponed := SMap.set st.postponed 0 key (p + 1) }
         else { st with
           postponed := SMap.set st.postponed 0 key 0
           refreshed := SMap.set st.refreshed 0 key ((SMap.get st.refreshed 0 key + 1) % 776) }))) ∧
     (∀ (ch : Fin 1024) (via : Fin 20), stackFailed s (ch / 128) = false → (getStack s (ch / 128)).resetFrom = none →
       (hasBit (getF s MCH_VIA_FAIL ch 0) via = true → exec (.laneFailure ch via) s = .next s) ∧
       (hasBit (getF s MCH_VIA_FAIL ch 0) via = false → via < 18 → getF s MCH_WIDTH_MODE_MODE ch 0 = 0 →
         hasBit (getF s MCH_VIA_FAIL ch 0) 18 = false → getF s MCH_VIA_MAP_S0_FOR ch 0 = 31 →
         Completes (.laneFailure ch via) s fun t => hasBit (getF t MCH_VIA_FAIL ch 0) via = true ∧
           getF t MCH_VIA_MAP_S0_FOR ch 0 = via ∧ getF t MCH_WIDTH_MODE_MODE ch 0 = 0 ∧ t.mem = s.mem)) ∧
     (∀ (layer : Fin 12), stackFailed s k = false →
       (getF s MST_STAT_SPARE_FOR k 0 = 15 → SMap.get x.bankFails 0 12 ≤ 8 → Completes (.layerFailure k layer) s fun t =>
         getF t MST_STAT_SPARE_FOR k 0 = layer ∧ t.mem = s.mem) ∧
       (getF s MST_STAT_SPARE_FOR k 0 ≠ 15 → Completes (.layerFailure k layer) s fun t =>
         getF t MST_STAT_PHASE k 0 = 7 ∧ getF t MST_CAP_MIB k 0 = 0)) ∧
     (∀ burst, (stackServes s k = false → ∀ e, exec (.evacDone ⟨k, burst, e⟩) s = .next s) ∧
       (stackServes s k = true → exec (.evacDone ⟨k, burst, .clean⟩) s = .next (pumpSite (evacDone s k) (stackSite k)))) ∧
     (∀ e rest, x.evacs = e :: rest → (getStack (evacDone s k) k).evacs = rest ∧
       (e.kind = 3 → k * 128 + e.chan < 1024 → getF (evacDone s k) MCH_WIDTH_MODE_RELIEVED (k * 128 + e.chan) 0 = 1)))

/-! ## Packets and links (R291 to R351) -/

namespace Sys2Proof.Machine

/-- The link by which a packet arrives. -/
abbrev arrLink (a : Arrival) : Nat := viaLink a.site a.via

/-- The cells that an arriving packet takes. -/
abbrev arrCells (a : Arrival) : Nat := if isExempt a.pkt.op then 0 else pktCells a.pkt

/-- A packet is received: its SEQ is accepted, and its cells are taken (R302, R307, R313). -/
def received (s : State) (a : Arrival) : State :=
  let s := acceptSeq s (arrLink a) (viaKey a.site a.via) a.pkt.seq
  let s := if 256 ≤ (arrLink a) then drainAdd (wrapF s VLK_PKT_RX a.site 0 1) a.pkt.epoch else wrapF s PRT_PKT_RX a.site 0 1
  useCells (cmapAdd s (cmapKey 1 (arrLink a)) (if a.pkt.data then 32 + 64 * a.pkt.len else 32)) (arrLink a) (arrCells a)

/-- A packet arrives whole, for the first time, well formed and without a corrected symbol, under a version that is in
force (R296 to R298, R307, R314). -/
structure Fresh (s : State) (a : Arrival) : Prop where
  sound : a.fec = false
  new : seqAccepted (getRx s (arrLink a)) a.pkt.seq = true
  formed : pktMalformed a.pkt = false
  status : isAnswer a.pkt.op = true → a.pkt.status < 11
  version : epochLate s a.pkt.epoch = false

/-- It is for the site that it has reached, which takes it. -/
structure ForSite (s : State) (a : Arrival) : Prop extends Fresh s a where
  here : isHere s a.pkt.dst = true
  site : gaSite a.pkt.dst = a.site
  up : siteResetting s a.site = false

/-- A READ_DATA packet carries no data of a move-memory load (R86). -/
abbrev NoLoad (s : State) (a : Arrival) : Prop :=
  ∀ c m, ownCopy s a.site.val a.pkt = some c → c.kind ≠ .moveLoad m

/-- The cells of a packet that the site is done with are free again. -/
def released (t : State) (a : Arrival) : State := freeCells t (arrLink a) (arrCells a)

end Sys2Proof.Machine

/-- R297, R333 to R337, R349: a request packet that reaches its site is received, and served at once unless its line is busy:
its operation is performed, it is answered where it asks for an answer, and its cells are free. READ_DATA of a move-memory
load go into move memory (R86); data that no copy waits for any more are counted and dropped (R343; log entry 133, DEDUCED).
R336, R337: a store, atomic, WRITE or ACCUM_F32 for a stack's line is paced. Where the line is idle it is counted against its
source, performed and answered, and the line is busy for the next 2.5 ns; where it is not, the packet waits in the line's
queue with the device otherwise unchanged. HOT_LINE_OPERATION serves the queue, sums of up to 16 additive requests together.
-/
def Obligations.Requests : Prop :=
  (∀ (a : Arrival) (s : State), ForSite s a →
     let r := received s a
     let ing := viaIngress a.site a.via
     let key := hotKey r a.site a.pkt
     hotQueue r key = [] → isPaced r a.site a.pkt = false →
     (∀ t st v, performReq r a.site ing a.pkt a.ecc = .ok t st v →
       let u := drainSub (answer t a.site a.pkt st v (if st = .targetResetting then retryAfter t a.site else 0)) a.pkt.epoch
       let done := Host.Outcome.next (φ := Fault) (ρ := Refusal) (released u a)
       (a.pkt.op = opLOAD → exec (.load a) s = done) ∧ (a.pkt.op = opSYNC_ADD → exec (.syncAdd a) s = done) ∧
       (a.pkt.op = opSYNC_SET → exec (.syncSet a) s = done) ∧ (a.pkt.op = opSYNC_READ → exec (.syncRead a) s = done) ∧
       (a.pkt.op = opFENCE → exec (.pktFence a) s = done) ∧ (a.pkt.op = opSTORE → exec (.store a) s = done) ∧
       (a.pkt.op = opATOMIC → exec (.atomic a) s = done) ∧ (a.pkt.op = opWRITE → exec (.write a) s = done) ∧
       (a.pkt.op = opREAD_DATA → NoLoad r a → ownStale r a.site a.pkt = false → exec (.readData a) s = done) ∧
       (a.pkt.op = opATOMIC_CAS → exec (.atomicCas a) s = done) ∧
       (a.pkt.op = opACCUM_F32 → exec (.accumF32 a) s = done)) ∧
     (∀ t, performRead r a.site ing a.pkt a.ecc = some t → a.pkt.op = opREAD_REQ →
       exec (.readReq a) s = .next (released (drainSub t a.pkt.epoch) a)) ∧
     (a.pkt.op = opREAD_DATA → NoLoad r a → ownStale r a.site a.pkt = true →
       exec (.readData a) s = .next (released (drainSub (bumpF r FAB_LATE_ANS 0 0 1) a.pkt.epoch) a)) ∧
     (∀ c m, a.pkt.op = opREAD_DATA → ownCopy r a.site a.pkt = some c → c.kind = .moveLoad m → exec (.readData a) s =
       .next (released (drainSub (loadArrives r a.site c.id (gaOfs a.pkt.dst) a.pkt.payload) a.pkt.epoch) a))) ∧
  (∀ (a : Arrival) (s : State), ForSite s a → isPaced (received s a) a.site a.pkt = true →
     let ing := viaIngress a.site a.via
     let r := cmapAdd (received s a) (hotCount a.site (gaOfs a.pkt.dst / 128) a.pkt.srcNode a.pkt.srcSite) (pktCells a.pkt)
     let key := hotKey r a.site a.pkt
     let row := fun (o : Host.Outcome State Fault Refusal) =>
       (a.pkt.op = opSTORE → exec (.store a) s = o) ∧ (a.pkt.op = opATOMIC → exec (.atomic a) s = o) ∧
       (a.pkt.op = opATOMIC_CAS → exec (.atomicCas a) s = o) ∧ (a.pkt.op = opACCUM_F32 → exec (.accumF32 a) s = o) ∧
       (a.pkt.op = opWRITE → exec (.write a) s = o) ∧
       (a.pkt.op = opREAD_DATA → NoLoad r a → ownStale r a.site a.pkt = false → exec (.readData a) s = o)
     (hotQueue r key = [] → lineFree r key = true →
       ∀ t st v, performReq { r with hotAt := SMap.set r.hotAt 0 key (nowClk r + 4) } a.site ing a.pkt a.ecc = .ok t st v →
         row (.next (released (drainSub (answer t a.site a.pkt st v
           (if st = .targetResetting then retryAfter t a.site else 0)) a.pkt.epoch) a))) ∧
     (hotQueue r key = [] → lineFree r key = false → drainingStack r a.site a.pkt = none → row (.next (released (putHot r key [⟨key, ing, a.pkt, none⟩]) a))) ∧
     (∀ key q, hotQueue s key = q → q ≠ [] →
       (lineFree s key = false → exec (.hotLineOperation key) s = .next s) ∧
       (lineFree s key = true →
         let site := if 2 ^ 60 ≤ key then key - 2 ^ 60 else lineHome key
         let t := serveHot s site key (max 1 (combineCount 16 q))
         let m := q.length - (hotQueue t key).length
         exec (.hotLineOperation key) s = .next (pumpSite (if 2 ≤ m then bumpF t PRT_COMBINED site 0 m else t) site))))

/-- R343, R350: an answer packet completes the request or the copy packet that its tag names, and a multicast target its copy;
a COMP that names a line answers the line's request of a cluster (log entry 27, DEDUCED). R348: a request's timeout completes
it without an answer at the boundary at which it falls due. R349: an unanswered control request to another module is sent
again at each quarter of its timeout. -/
def Obligations.Answers : Prop :=
  ∀ (s : State),
    (∀ (a : Arrival), ForSite s a →
      let done := fun (t : State) =>
        Host.Outcome.next (φ := Fault) (ρ := Refusal) (released (drainSub t a.pkt.epoch) a)
      let r := drainSub (received s a) a.pkt.epoch
      (a.pkt.op = opCOMP → compLine a.pkt = none →
        exec (.comp a) s = .next (released (takeAnswer r a.site a.pkt (pktWord a.pkt)) a)) ∧
      (∀ l cl st, a.pkt.op = opCOMP → compLine a.pkt = some l → cluAt a.site a.pkt.tag = some cl →
        Status.ofCode a.pkt.status = some st →
        exec (.comp a) s = .next (released (cacheComp r cl l a.pkt.ctr st (pktWord a.pkt % 65536)) a)) ∧
      (a.pkt.op = opCOMP_DATA → exec (.compData a) s = done (takeAnswer (received s a) a.site a.pkt (pktWord a.pkt)))) ∧
    (∀ (site : Fin 16) (slot : Fin 4096),
      (∀ t, findTag s site slot = some t →
        exec (.requestTimeout (.tag site slot)) s = .next (if t.timeout ≤ s.time.tempoNo then
          pumpSite (unanswered s site t) site else s) ∧
        (retries s t = true → t.retries < getF s FAB_RETRY 0 0 →
          t.injected + (t.retries + 1) * (timeoutOf s t.pkt / 4) * 100 ≤ nowBeat s → s.time.tempoNo < t.timeout →
          ∀ u, sendOn (drainAdd { s with tags := SMap.insert s.tags (site * 4096 + slot) { t with retries := t.retries + 1 } }
            t.pkt.epoch) site t.pkt none = (u, none) → exec (.requestRetry site slot) s = .next u)) ∧
      (findTag s site slot = none →
        exec (.requestTimeout (.tag site slot)) s = .next s ∧ exec (.requestRetry site slot) s = .next s)) ∧
    (∀ (cl : Fin 32) line f, findFill s cl line = some f →
      exec (.requestTimeout (.fill cl line)) s =
        .next (if f.deadline ≤ s.time.tempoNo then fillTimeout s cl line .failedTimeout else s))

/-- R300 to R306, R319, R363: the messages of a link. CREDIT returns cells and acknowledges; NAK replays what was started on
the circuit after the SEQ it names; THROTTLE sets, renews or lifts a throttle; NOTICE on a Veryen port is recorded in
`VLK_PEER_RESET`. A NOTICE packet of the Canvas changes nothing but what its receipt counts. R300 to R306: the head of a queue
starts on the circuit idle longest, where it has credits and tokens: it takes the next SEQ, its copy is kept until it is
acknowledged, and the packet leaves. A receiver returns freed cells after 64 of them or after 16 beats. A packet that fails
its CRC is answered with NAK. A packet unacknowledged for 2 µs on the Canvas or 10 µs on a Veryen link is replayed, on an idle
circuit and before the next packet (log entry 136, DEDUCED). R319: a throttle ends at its expiry. -/
def Obligations.Links : Prop :=
  (∀ (a : Arrival) (s : State), Fresh s a →
     let r := drainSub (received s a) a.pkt.epoch
     let w := pktWord a.pkt
     let done := fun (t : State) => Host.Outcome.next (φ := Fault) (ρ := Refusal) (released t a)
     (a.pkt.op = opCREDIT →
       exec (.credit a) s = done (takeCredit r (backLink (arrLink a)) (bitsOf w 15 0) (bitsOf w 31 16))) ∧
     (a.pkt.op = opNAK → exec (.nak a) s = done (takeNak r (backLink (arrLink a)) (match a.via with
       | .canvas _ _ _ => circKey (bitsOf w 21 16) (bitsOf w 27 22)
       | .veryen _ => portKey a.site (bitsOf w 27 22)) (bitsOf w 15 0))) ∧
     (a.pkt.op = opNOTICE → exec (.notice a) s = done (match a.via with
       | .veryen _ => raise (setF r VLK_PEER_RESET a.site 0 (w % 2 ^ 48)) cVLK a.site 6
       | .canvas _ _ _ => r)) ∧
     (a.pkt.op = opTHROTTLE → isHere s a.pkt.dst = true → gaSite a.pkt.dst = a.site → siteResetting s a.site = false →
       exec (.throttle a) s = done (drainSub (takeThrottle (received s a) a.site w) a.pkt.epoch)) ∧
     (∀ t, t = takeThrottle s a.site w → bitsOf w 33 18 = 0 →
       ∀ x ∈ SMap.get t.throttles [] a.site, ¬(x.node = bitsOf w 13 0 ∧ x.site = bitsOf w 17 14))) ∧
  (∀ (s : State),
     (∀ (l : Link), let i := linkIdx l
       (∀ q k, linkLive s i = true → (∀ u ∈ (getTx s i).unacked, u.due = false) → linkCircs s i ≠ [] →
         (getTx s i).unacked.length < 16384 → nextStart s i (linkCircs s i) = some (q, k) →
         Completes (.packetStart l) s fun t =>
           t = startOn s i k q ∧ (getTx t i).queue = (getTx s i).queue.erase q ∧
           (getTx t i).seq = ((getTx s i).seq + 1) % 65536 ∧
           (getTx t i).unacked = (getTx s i).unacked ++ [⟨{ q with pkt := { q.pkt with
             seq := (getTx s i).seq, hop := if i < 256 then q.pkt.hop else q.pkt.hop + 1 } }, k, nowBeat s, 0, false⟩]) ∧
       (∀ u k, linkLive s i = true → linkCircs s i ≠ [] →
         ((getTx s i).unacked.filter fun u => u.due).findSome? (fun u =>
           (idleCirc s (packetCircs s u.q.pkt (linkCircs s i))).map fun k => (u, k)) = some (u, k) →
         exec (.packetStart l) s = .next (replayOn s i k u)) ∧
       ((getTx s i).queue = [] → (∀ u ∈ (getTx s i).unacked, u.due = false) → exec (.packetStart l) s = .next s) ∧
       exec (.creditReturn l) s = .next (returnCredit s i) ∧
       ((getRx s i).freed = 0 → returnCredit s i = s) ∧
       (∀ u, (getTx s i).unacked.find? (fun u => !u.due && decide (u.at_ + (if i < 256 then 200 else 1000) ≤ nowBeat s)) = some u →
         linkLive s i = true → exec (.replayTimeout l) s = .next (replayOne s i u))) ∧
     (∀ (site : Fin 16) (v : Via), Completes (.packetCrcFail site v) s fun t =>
       ∃ p, p.op = opNAK ∧ (getTx t (backLink (viaLink site v))).queue =
         (getTx s (backLink (viaLink site v))).queue ++ [⟨p, true, none, nowBeat s⟩]) ∧
     (∀ (site : Fin 16), Completes (.throttleExpire site) s fun t =>
       SMap.get t.throttles [] site = (SMap.get s.throttles [] site).filter (fun x => decide (s.time.tempoNo < x.expires)) ∧
       (∀ x ≠ site.val, SMap.get t.throttles [] x = SMap.get s.throttles [] x)))

/-! ## Coherence messages, copies and multicast (R203 to R212, R320 to R324, R338 to R347, R351) -/

namespace Sys2Proof.Machine

/-- A coherence message arrives for a cluster and a line of this module: at the line's home from the cluster (`atHome`), or
at the cluster from the home. -/
structure CohArrival (s : State) (a : Arrival) (op : Nat) (atHome : Bool) (cl l : Nat) : Prop extends Fresh s a where
  op : a.pkt.op = op
  canvas : arrLink a < 256
  up : siteResetting s a.site = false
  cluster : cluAt (if atHome then a.pkt.srcSite else a.site) a.pkt.tag = some cl
  line : pktLine s a.pkt = some l
  home : atHome = true → lineHome l = a.site
  aligned : pktAligned a.pkt = true

end Sys2Proof.Machine

/-- R209, R210: what each coherence message does at the home of its line, or at the cache of its cluster. R212, R297: a home
that cannot serve the line answers a request with COMP and its status (log entry 27, DEDUCED). R207, R209: the first GET_S for
a line that no cache holds makes its sender the owner, with the line's bytes on the way to it; a granted line is held in the
state granted while its cache is ON; an INVAL that came after the line's grant takes a line that is not pinned out of its
cache (R210). -/
def Obligations.CoherenceProtocol : Prop :=
  (∀ (a : Arrival) (s : State) (cl l : Nat),
     let r := drainSub (received s a) a.pkt.epoch
     let w := pktWord a.pkt
     let ep := a.pkt.epoch
     let done := fun (t : State) => Host.Outcome.next (φ := Fault) (ρ := Refusal) (released t a)
     (homeRefuses r l = none →
       (CohArrival s a opGET_S true cl l → exec (.getS a) s = done (dirGet r ⟨cl, false, ep⟩ l)) ∧
       (CohArrival s a opGET_M true cl l → exec (.getM a) s = done (dirGet r ⟨cl, true, ep⟩ l)) ∧
       (CohArrival s a opLINE_PUT_M true cl l →
         exec (.linePutM a) s = done (dirPut r cl l ep (some (a.pkt.payload.take 128))))) ∧
     (∀ st, homeRefuses r l = some st →
       (CohArrival s a opGET_S true cl l → exec (.getS a) s = done (cohComp r cl l 0 ep st)) ∧
       (CohArrival s a opGET_M true cl l → exec (.getM a) s = done (cohComp r cl l 0 ep st)) ∧
       (CohArrival s a opLINE_PUT_M true cl l → exec (.linePutM a) s = done (cohComp r cl l 3 ep st))) ∧
     (CohArrival s a opPUT_E true cl l → exec (.putE a) s = done (dirPut r cl l ep none)) ∧
     (CohArrival s a opINVAL false cl l → exec (.inval a) s = done (cacheTold r cl l opINVAL a.pkt.ctr ep)) ∧
     (CohArrival s a opRECALL_S false cl l → exec (.recallS a) s = done (cacheTold r cl l opRECALL_S a.pkt.ctr ep)) ∧
     (CohArrival s a opRECALL_I false cl l → exec (.recallI a) s = done (cacheTold r cl l opRECALL_I a.pkt.ctr ep)) ∧
     (CohArrival s a opCOH_ACK true cl l →
       (hasBit w 0 = true → exec (.cohAck a) s = done r) ∧
       (hasBit w 0 = false → (getDir s l).busy = none → exec (.cohAck a) s = done r) ∧
       (hasBit w 0 = false → ∀ q need, (getDir s l).busy = some (q, need) →
         exec (.cohAck a) s = done (dirAck r cl l a.pkt.ctr (!q.excl && (getDir s l).state == 2)))) ∧
     (CohArrival s a opGRANT_M false cl l → exec (.grantM a) s = done (cacheGranted r cl l 3 a.pkt.ctr none a.pkt.status)) ∧
     (CohArrival s a opLINE_GRANT false cl l → exec (.lineGrant a) s = done
       (cacheGranted r cl l (max 1 (a.pkt.complete % 4)) a.pkt.ctr (some (a.pkt.payload.take 128)) a.pkt.status)) ∧
     (CohArrival s a opLINE_RETURN true cl l → ∀ q need, (getDir s l).busy = some (q, need) →
       exec (.lineReturn a) s = done (if hasBit need cl ∧ (getDir s l).txn = a.pkt.ctr then
         dirAck (dramPutLine r l (a.pkt.payload.take 128)) cl l a.pkt.ctr (!q.excl) else r))) ∧
  (∀ (s : State) (cl l : Nat),
     (∀ ep, (getDir s l).state = 0 → (getDir s l).busy = none → (getDir s l).waiting = [] →
       (s.dirs.filter fun e => lineStack e.1 == lineStack l && e.1 % dirSets == l % dirSets && e.2.entry).length < 16 →
       homeRefuses s l = none → lineUe s l = none →
       let t := dirGet s ⟨cl, false, ep⟩ l
       (getDir t l).state = 2 ∧ (getDir t l).owner = cl ∧ t.mem = s.mem ∧
       ∃ p, (getTx t (linkCanvas (lineHome l) (cluSite cl))).queue =
           (getTx s (linkCanvas (lineHome l) (cluSite cl))).queue ++ [⟨p, true, none, nowBeat s⟩] ∧
         p.op = opLINE_GRANT ∧ p.payload = dramLine s l ∧ p.complete = 2) ∧
     (∀ f st txn bs, findFill s cl l = some f → f.ops = [] → f.inval = none → cacheOn s cl = true →
       SMap.find s.cluResets cl = none → (∀ w ∈ s.fills, w.cluster = cl → w.sent = true) →
       findLine (cacheGranted s cl l st txn (some bs) 0) cl l = some ⟨st, bs, false, txn, none⟩) ∧
     (∀ x txn ep, findLine s cl l = some x → x.pinned = false → txnBefore txn x.txn = false → findFill s cl l = none →
       findLine (cacheTold s cl l opINVAL txn ep) cl l = none))

/-- R181, R339: a copy ends once each of its packets is answered or has failed. R322, R324: a multicast target is tried again
alone, and the packet is complete when every target has its status. R346: the oldest update on its way to a site reaches its
shadow. R351: entries of the deduplication window past their time are dropped. R320: a written group leaves the caches. R341:
a word of a descriptor is written at once unless a copy uses it. -/
def Obligations.CopiesAndMulticast : Prop :=
  ∀ (s : State),
    (∀ id r, findCopy s id = some r →
      ((∀ x, r.kind ≠ .moveLoad x) → exec (.copyComplete id) s = .next (if r.waiting = 0 then pumpSite (copyEnd s r) r.site else s)) ∧
      ((copyEnd s r).copies = s.copies.filter fun x => x.id != r.id)) ∧
    (∀ n m, s.mcs[n]? = some m →
      (∀ t x, m.targets[t]? = some x → x.status.isSome = true ∨ nowBeat s < x.since + getF s FAB_MC_CTRL_WAIT 0 0 →
        exec (.mcTargetRetry n t) s = .next s) ∧
      (∀ t x l q, m.targets[t]? = some x → x.status = none → x.since + getF s FAB_MC_CTRL_WAIT 0 0 ≤ nowBeat s →
        x.aside = false → mcQueued s m x.word = some (l, q) →
        exec (.mcTargetRetry n t) s = .next (modTarget (drainSub (putTx s l { getTx s l with
          queue := (getTx s l).queue.erase q }) q.pkt.epoch) m t fun x => { x with aside := true, since := nowBeat s })) ∧
      ((∃ t ∈ m.targets, t.status = none) → exec (.mcComplete n) s = .next s) ∧
      ((∀ t ∈ m.targets, ∃ c ≤ 1, t.status = some c) → m.rec_ = 0 →
        exec (.mcComplete n) s = .next (copyAnswer { s with mcs := s.mcs.eraseIdx n } m.copyId .ok))) ∧
    (∀ (site : Fin 16),
      exec (.dedupExpire site) s =
        .next (putDedups s site ((dedupsAt s site).filter fun d => decide (s.time.tempoNo < d.expires))) ∧
      (∀ x obj v, (s.shadowMsgs.find? fun m => m.1 == site.val) = some (x, obj, v) →
        Completes (.shadowUpdate site) s fun t => t.shadowMsgs = s.shadowMsgs.erase (x, obj, v) ∧
          ∀ h, shadowOf s site obj = some h → ∃ h', shadowOf t site obj = some h' ∧ h'.val = v)) ∧
    (∀ (q : Requester) (v : BitVec 32), Allowed s q cFAB 0 FAB_MC_INVAL.off v.toNat →
      Completes (.mcInval q v) s fun t => ∀ site < 16,
        SMap.find t.mcCache (site * 4096 + bitsOf v.toNat 11 0) = none) ∧
    (∀ (q : Requester) (site : Fin 16) (v : BitVec 32), Allowed s q cPRT site PRT_CPY_DATA.off v.toNat →
      let w := stored s cPRT site PRT_CPY_DATA.off v.toNat
      let idx := getF w PRT_CPY_IDX site 0
      let n := SMap.get w.copyLoad 0 site
      let u := if descInUse w site idx then { w with copyHeld := w.copyHeld ++ [(site.val, idx, n, v.toNat)] }
        else putDescWord w site idx n v.toNat
      exec (.copyTableData q site v) s = .next (replied (if n < 7 then { u with copyLoad := SMap.set u.copyLoad 0 site (n + 1) }
        else setF { u with copyLoad := SMap.set u.copyLoad 0 site 0 } PRT_CPY_IDX site 0 ((idx + 1) % 1024))
        q cPRT site PRT_CPY_DATA.off))

/-! ## Routing versions, congestion maps, node number, sync registers (R309 to R320, R331, R366) -/

/-- R310 to R313, R331, R366: a write of `FAB_RT_DATA` fills an entry of a FREE version, and of another version raises an
event; COPY_ACTIVE begins a copy into a FREE version, and EPOCH_ARM latches a switch at least 4 tempos ahead. A write of
`FAB_NODE` sets the node number where no port is in DISCOVER, HELD or ACTIVE. A write of `SYN_ADD` adds to the selected
object. R311 to R313: the copy of the ACTIVE version makes the other FREE with the same entries; at the boundary latched every
site injects under the other version, and the old one drains until its packets are gone and its hold has passed. R316 to R319:
in a tempo whose count is a multiple of 16 every site's record reaches the fabric manager, which copies the map to its address
(FAB_CMAP_ADDR as a global address is the model's choice, log entry 138), and grants, releases and throttles by it. -/
def Obligations.FabricControl : Prop :=
  (∀ (q : Requester) (v : BitVec 32) (s : State),
     let w := fun o => stored s cFAB 0 o v.toNat
     let done := fun o (t : State) => Host.Outcome.next (φ := Fault) (ρ := Refusal) (replied t q cFAB 0 o)
     (Allowed s q cFAB 0 FAB_RT_DATA.off v.toNat →
       let s1 := w FAB_RT_DATA.off
       let ver := getF s1 FAB_RT_IDX_VER 0 0
       exec (.rtDataWrite q v) s = done FAB_RT_DATA.off (if verState s1 ver = vsFree then
         { s1 with routes := SMap.set s1.routes 0 (ver * 16384 + getF s1 FAB_RT_IDX_NODE 0 0) (v.toNat % 2 ^ 18) }
         else raise s1 cFAB 0 9)) ∧
     (Allowed s q cFAB 0 FAB_CTRL_EPOCH_ARM.off v.toNat →
       let s1 := w FAB_CTRL_EPOCH_ARM.off
       let o := 1 - getF s1 FAB_EPOCH_STAT_CUR 0 0
       let t := getF s1 FAB_EPOCH_AT 0 0
       (hasBit v.toNat 4 = true → hasBit v.toNat 0 = false →
         exec (.rtCopyActive q v) s = done FAB_CTRL_EPOCH_ARM.off (
           if verState s1 o = vsFree ∧ s1.rtArmed = none then setVer s1 o vsCopying else raise s1 cFAB 0 9)) ∧
       (hasBit v.toNat 4 = false → hasBit v.toNat 0 = true →
         exec (.epochArm q v) s = done FAB_CTRL_EPOCH_ARM.off (
           if verState s1 o = vsFree ∧ beatsSince s1 t ≤ -400 then
             setF { s1 with rtArmed := some t } FAB_EPOCH_STAT_ARMED 0 0 1
           else raise s1 cFAB 0 10))) ∧
     (Allowed s q cFAB 0 FAB_NODE_NODE.off v.toNat →
       let open_ := ∃ n < 16, getF s VLK_STAT_STATE n 0 = 3 ∨ getF s VLK_STAT_STATE n 0 = 4 ∨ getF s VLK_STAT_STATE n 0 = 5
       Completes (.nodeWrite q v) s fun t =>
         (open_ → getF t FAB_NODE_NODE 0 0 = getF s FAB_NODE_NODE 0 0) ∧
         (¬open_ → getF t FAB_NODE_NODE 0 0 = bitsOf v.toNat 13 0 ∧ getF t FAB_NODE_NODE_SET 0 0 = 1)) ∧
     (∀ (page : Fin 128), Allowed s q cSYN page SYN_ADD.off v.toNat →
       SMap.get s.hold 0 (pairKey q cSYN page SYN_ADD.off) = 0 →
       exec (.synAddWrite q page v) s = .next (replied (syncAdd
         { s with hold := SMap.set s.hold 0 (pairKey q cSYN page SYN_ADD.off) 0 } (512 * page + getF s SYN_IDX page 0) v.toNat)
         q cSYN page SYN_ADD.off))) ∧
  (∀ (s : State),
     let o := 1 - getF s FAB_EPOCH_STAT_CUR 0 0
     (verState s o = vsCopying → getF s FAB_EPOCH_STAT_CUR 0 0 < 2 → SMap.wf (0 : Nat) s.routes = true →
       Completes (.rtCopyDone) s fun t => verState t o = vsFree ∧
         ∀ node < 16384, routeEntry t o node = routeEntry s (1 - o) node) ∧
     (∀ t, s.rtArmed = some t → 0 ≤ beatsSince s t → getF s FAB_EPOCH_STAT_CUR 0 0 < 2 →
       Completes (.epochSwitch) s fun u => getF u FAB_EPOCH_STAT_CUR 0 0 = o ∧ verState u o = vsActive ∧
         verState u (1 - o) = vsDraining ∧ u.rtArmed = none ∧ u.rtSwitched = s.time.tempoNo) ∧
     (∀ t, s.rtArmed = some t → beatsSince s t < 0 → exec .epochSwitch s = .next s) ∧
     (atBoundary s = true → verState s o = vsDraining → getF s FAB_DRAIN 0 o = 0 →
       s.rtSwitched + getF s FAB_EPOCH_HOLD 0 0 ≤ s.time.tempoNo →
       exec .versionFree s = .next (raise (setVer s o vsFree) cFAB 0 1)) ∧
     (s.time.count % 16 = 0 → s.mapAt ≠ s.time.tempoNo + 1 → managerDown s 1 = false → Completes .cmapGather s fun t =>
       t.mapRecs = (List.range 16).map (cmapRecord s) ∧ t.mapAt = s.time.tempoNo + 1 ∧ t.mapActed = false) ∧
     (s.mapAt ≠ 0 → s.mapCopied = false → getF s FAB_CTRL_CMAP_COPY_EN 0 0 = 1 → managerDown s 1 = false →
       let g := getF s FAB_CMAP_SEQ 0 0
       let bs := s.mapRecs.flatMap fun r => r.flatMap (bytesLE 4)
       exec .mapCopy s = .next (wrapF { forAll (List.range 4) s (fun s i =>
         deviceWrite s 0 (getF s FAB_CMAP_ADDR 0 0 + g % 2 * 4096 + 1024 * i) ((bs.drop (1024 * i)).take 1024))
         with mapCopied := true } FAB_CMAP_SEQ 0 0 1)) ∧
     (s.mapAt ≠ 0 → s.mapActed = false → managerDown s 1 = false →
       let t := { s with mapActed := true }
       let t := if getF s FAB_CTRL_DEMAND_EN 0 0 = 1 then demandGrants (demandReleases t) else t
       exec .fmDemandAction s = .next (if getF t FAB_CTRL_THROTTLE_EN 0 0 = 1 then mapThrottles t else t)))

/-! ## Veryen ports (R352 to R363) -/

/-- R355: EN lets a port that is OFF ask to leave it, and without EN a port goes to OFF, by link failure where it carries
packets, unless it is FAILED. ACCEPT takes a port in HELD to ACTIVE; RETRAIN and DOWN take an ACTIVE one through link failure
to DETECT, after DOWN for 1 ms at least. R363: NOTICE announces a module reset for `FAB_RST_AT` through every ACTIVE port, and
CANCEL before that tempo withdraws it. Each holds where the write asks for nothing else. -/
def Obligations.PortControl : Prop :=
  ∀ (q : Requester) (n : Fin 16) (v : BitVec 32) (s : State),
    let w := stored s cVLK n VLK_CTRL_EN.off v.toNat
    let done := fun (t : State) => Host.Outcome.next (φ := Fault) (ρ := Refusal) (replied t q cVLK n VLK_CTRL_EN.off)
    let x := stored s cFAB 0 FAB_RST_CTRL_NOTICE.off v.toNat
    let fab := fun (t : State) => Host.Outcome.next (φ := Fault) (ρ := Refusal) (replied t q cFAB 0 FAB_RST_CTRL_NOTICE.off)
    (Allowed s q cVLK n VLK_CTRL_EN.off v.toNat →
      (v.toNat % 2 = 1 → v.toNat / 4 % 8 = 0 →
        exec (.portEnable q n v) s = done (
          if portReady w n = true ∧ govHas w (fun k => k == .port n) = false then govRequest w (.port n) else w)) ∧
      (v.toNat % 2 = 0 → v.toNat / 4 % 8 = 0 →
        exec (.portEnable q n v) s = done (if portState w n = vpFailed then w else govDrop (
          if portState w n = vpOff then w
          else if portState w n = vpActive ∨ portState w n = vpDraining then linkFail w n vpOff
          else showLambdas (setPortState w n vpOff) n) fun k => k == .port n)) ∧
      (v.toNat % 2 = 1 → v.toNat / 4 % 8 = 1 →
        (portState w n = vpHeld → exec (.portAccept q n v) s = done (portTry (portUpNow w n) n)) ∧
        (portState w n ≠ vpHeld → exec (.portAccept q n v) s = done (portTry w n))) ∧
      (v.toNat % 2 = 1 → v.toNat / 4 % 8 = 2 →
        (portState w n = vpActive → exec (.portRetrain q n v) s = done (portTry (linkFail w n vpDetect) n)) ∧
        (portState w n ≠ vpActive → exec (.portRetrain q n v) s = done (portTry w n))) ∧
      (v.toNat % 2 = 1 → v.toNat / 4 % 8 = 4 → portState w n = vpActive →
        exec (.portDown q n v) s = done (portTry
          (linkFail (putPort w n { getPort w n with notBefore := w.time.tempoNo + 1000 }) n vpDetect) n) ∧
        ((getTx w (linkPort n)).queue = [] → Completes (.portDown q n v) s fun t => portState t n = vpDetect ∧
          getTx t (linkPort n) = TxLink.init ∧ getRx t (linkPort n) = RxLink.init ∧
          getPort t n = { getPort w n with notBefore := w.time.tempoNo + 1000, idents := 0 }))) ∧
    (Allowed s q cFAB 0 FAB_RST_CTRL_NOTICE.off v.toNat →
      (v.toNat % 4 = 1 → let at_ := getF x FAB_RST_AT 0 0
        exec (.resetNotice q v) s = fab (sendNotice (setF { x with rstAt := some at_ } FAB_RST_CTRL_ARMED 0 0 1) at_)) ∧
      (v.toNat % 4 = 2 →
        (∀ at_, s.rstAt = some at_ → beatsSince s at_ < 0 →
          exec (.resetCancel q v) s = fab (sendNotice (setF { x with rstAt := none } FAB_RST_CTRL_ARMED 0 0 0) 0)) ∧
        ((s.rstAt = none ∨ ∃ at_, s.rstAt = some at_ ∧ 0 ≤ beatsSince s at_) → exec (.resetCancel q v) s = fab x)))

/-- R354, R355: a port in DETECT trains where it sees light on at least 8 wavelengths, and looks again 1 ms later where it
does not; a wavelength locks on a training word that carries its own number; with 8 good in each direction the port goes to
DISCOVER, and otherwise back to DETECT after 400 µs. R355, R356: of two consecutive IDENT frames the second takes it to
ACTIVE, or to HELD where the partner is refused. A partner that changes while ACTIVE is taken through link failure. R355,
R357, R359: an ACTIVE port that loses its light, or runs on fewer wavelengths than `VLK_CFG.MIN_LAMBDA` either way, takes link
failure to DETECT, and one in HELD goes to DETECT. A wavelength that fails leaves RXMAP, is recorded in `VLK_LFAIL`, and IDENT
is sent. A failed laser takes the port to FAILED. R363: the NOTICE is repeated every 100 tempos; at its tempo every ACTIVE
port drains, and 20 tempos later no port is left but in OFF or FAILED. -/
def Obligations.PortProgress : Prop :=
  (∀ (n : Fin 16) (s : State),
     let p := getPort s n
     (∀ light : Fin (2 ^ 18), portState s n = vpDetect → p.notBefore ≤ s.time.tempoNo →
       (popCount 18 light < 8 →
         exec (.portDetect n light) s = .next (putPort s n { p with notBefore := s.time.tempoNo + 1000 })) ∧
       (8 ≤ popCount 18 light → Completes (.portDetect n light) s fun t => portState t n = vpTrain ∧
         getPort t n = { p with locked := 0, trainPort := none, notBefore := 0, trainAt := s.time.tempoNo } ∧
         t.out = ((List.range 18).map fun l => Out.portTraining n l (portWord n l)).reverse ++ s.out)) ∧
     (∀ (l : Fin 18) (w : Fin (2 ^ 64)), portState s n = vpTrain →
       (portWordOk w = true → bitsOf w 24 20 = l → p.trainPort = none ∨ p.trainPort = some (bitsOf w 19 16) →
         exec (.portTrainingWord n l w) s = .next
           (putPort s n { p with locked := p.locked ||| 2 ^ l.val, trainPort := some (bitsOf w 19 16) })) ∧
       (portWordOk w = false ∨ bitsOf w 24 20 ≠ l → exec (.portTrainingWord n l w) s = .next s)) ∧
     (∀ l < 18, portWordOk (portWord n l) = true ∧ bitsOf (portWord n l) 24 20 = l ∧ bitsOf (portWord n l) 19 16 = n) ∧
     (∀ far : Fin (2 ^ 18), portState s n = vpTrain →
       (8 ≤ popCount 18 p.locked → 8 ≤ popCount 18 far → Completes (.portTrainDone n far) s fun t =>
         portState t n = vpDiscover ∧ getPort t n = { p with rxGood := p.locked, peerMap := far, idents := 0 } ∧
         ∀ l < 18, hasBit (getF t VLK_LFAIL n 0) l = (hasBit (getF s VLK_LFAIL n 0) l && !hasBit p.locked l)) ∧
       (popCount 18 p.locked < 8 ∨ popCount 18 far < 8 → exec (.portTrainDone n far) s = .next s) ∧
       (p.trainAt + 400 ≤ s.time.tempoNo →
         Completes (.portTrainTimeout n) s fun t => portState t n = vpDetect ∧ getPort t n = p) ∧
       (s.time.tempoNo < p.trainAt + 400 → exec (.portTrainTimeout n) s = .next s)) ∧
     (∀ f : Fin (2 ^ 256),
       let r := recordPeer (putPort s n { p with idents := p.idents + 1, peerMap := bitsOf f 55 38 }) n f
       let refused := getF r VLK_CTRL_AUTO n 0 = 0 ∨ (bitsOf f 17 16 ≠ 1 ∧ (hasBit f 36 = false ∨
         bitsOf f 35 22 = getF r FAB_NODE_NODE 0 0 ∨
         (getF r VLK_EXPECT_EN n 0 = 1 ∧ bitsOf f 35 22 ≠ getF r VLK_EXPECT_NODE n 0)))
       (identOk f = true → portState s n = vpDiscover →
         (p.idents = 0 → exec (.identFrame n f) s = .next r) ∧
         (1 ≤ p.idents → refused → exec (.identFrame n f) s = .next (raise (setPortState r n vpHeld) cVLK n 2)) ∧
         (1 ≤ p.idents → ¬refused → exec (.identFrame n f) s = .next (portUpNow r n))) ∧
       (identOk f = false → portState s n = vpDiscover →
         exec (.identFrame n f) s = .next (putPort s n { p with idents := 0 })) ∧
       (identOk f = true → portState s n = vpActive →
         bitsOf f 127 64 ≠ getF s VLK_PEER_SERIAL n 0 ∨ bitsOf f 63 56 ≠ p.peerGen →
         exec (.identFrame n f) s = .next (linkFail s n vpDiscover))) ∧
     ((portState s n = vpDiscover ∨ portState s n = vpHeld ∨ portState s n = vpActive) →
       p.identAt = 0 ∨ p.identAt + 1000 ≤ nowBeat s →
       exec (.identSend n) s = .next (emit (putPort s n { p with identAt := nowBeat s }) (.ident n (identFrame s n)))) ∧
     (p.identAt ≠ 0 → nowBeat s < p.identAt + 1000 → exec (.identSend n) s = .next s)) ∧
  (∀ (n : Fin 16) (s : State),
     let st := portState s n
     (∀ dark : Bool,
       (st = vpActive → (dark = true ∨ getF s VLK_STAT_TX_LAMBDAS n 0 < getF s VLK_CFG_MIN_LAMBDA n 0 ∨
         getF s VLK_STAT_RX_LAMBDAS n 0 < getF s VLK_CFG_MIN_LAMBDA n 0) →
         exec (.linkFailure n dark) s = .next (linkFail s n vpDetect)) ∧
       (st = vpHeld → exec (.linkFailure n dark) s = .next (if dark then setPortState s n vpDetect else s))) ∧
     (∀ w : Fin 18, st = vpDiscover ∨ st = vpHeld ∨ st = vpActive →
       (hasBit (getPort s n).rxGood w = false → exec (.wavelengthFailure n w) s = .next s) ∧
       (hasBit (getPort s n).rxGood w = true → Completes (.wavelengthFailure n w) s fun t =>
         (getPort t n).rxGood = clearBit (getPort s n).rxGood w ∧ hasBit (getF t VLK_LFAIL n 0) w = true ∧
         portState t n = portState s n)) ∧
     exec (.portLaserFailure n) s = .next (if st = vpFailed then s
       else if st = vpActive ∨ st = vpDraining then linkFail s n vpFailed else showLambdas (setPortState s n vpFailed) n) ∧
     (∀ at_, s.rstAt = some at_ →
       (beatsSince s at_ < 0 → exec .noticeRepeat s = .next (if s.noticeAt + 100 ≤ s.time.tempoNo then sendNotice s at_ else s)) ∧
       (0 ≤ beatsSince s at_ → exec .noticeRepeat s = .next s ∧
         exec .portsDrain s = .next (let t := dropForwarding s
           forAll ((List.range 16).filter fun m => portState t m == vpActive) t fun t m => setPortState t m vpDraining)) ∧
       (atBoundary s = true → 2000 ≤ beatsSince s at_ → s.modRst = 0 →
         (∀ m < 16, (getTx s (linkPort m)).queue = []) → Completes .portsDark s fun t => t.rstAt = none ∧ getF t FAB_RST_CTRL_ARMED 0 0 = 0 ∧
           ∀ m < 16, portState t m = vpOff ∨ portState t m = vpFailed) ∧
       (atBoundary s = true → 2000 ≤ beatsSince s at_ → s.modRst = 2 →
         exec .portsDark s = .next (moduleReset { setF (portsDark s) FAB_RST_CTRL_ARMED 0 0 0 with rstAt := none }))) ∧
     (s.rstAt = none → exec .noticeRepeat s = .next s ∧ exec .portsDrain s = .next s ∧ exec .portsDark s = .next s))

/-! ## Resets, the partition map, capacity (R44 to R46, R416 to R426) -/

/-- R417, R418, R422, R423: GO in `MGT_RST_CTRL` triggers a reset of the cluster, partition or module named. A trigger is
refused with RST_DENY where it names nothing that can be reset, and absorbed by a reset that covers it; otherwise the reset is
recorded, and a partition's begins at a boundary. RELEASE lets a held partition leave. Each holds where the write asks for
nothing else. R418, R422, R416, R46: at a boundary the steps of a partition's reset are over once its stacks have ended
theirs; with HOLD it is then held, without it or once released it ends with RESET_DONE. A site that loses its rail is FAILED
once and for all. A logical core that is retired fails. -/
def Obligations.Resets : Prop :=
  (∀ (q : Requester) (v : BitVec 32) (s : State), Allowed s q cMGT 0 MGT_RST_CTRL_GO.off v.toNat →
     let w := stored s cMGT 0 MGT_RST_CTRL_GO.off v.toNat
     let done := fun (t : State) => Host.Outcome.next (φ := Fault) (ρ := Refusal) (replied t q cMGT 0 MGT_RST_CTRL_GO.off)
     let n := bitsOf v.toNat 4 0
     let denied := raiseFor (setF w MGT_RST_STAT_LAST 0 0 2) cMGT 0 20 .noPart
     let absorbed := setF w MGT_RST_STAT_LAST 0 0 3
     let hold := hasBit v.toNat 27
     let scrub := hasBit v.toNat 26
     (v.toNat / 2 ^ 28 = 8 →
       (partOf w (cluSite n) = none → exec (.clusterReset q v) s = done denied) ∧
       (partOf w (cluSite n) ≠ none → siteResetting w (cluSite n) = true ∨ (SMap.find w.cluResets n).isSome = true →
         exec (.clusterReset q v) s = done absorbed) ∧
       (partOf w (cluSite n) ≠ none → siteResetting w (cluSite n) = false → SMap.find w.cluResets n = none →
         exec (.clusterReset q v) s = done (cluResetCheck (flushCache (forAll (cluCores n)
           (showClusters { w with cluResets := SMap.insert w.cluResets n w.time.tempoNo }) fun s c =>
             if coreState s c = csFailed ∨ coreState s c = csSpare then s else coreReset s c) n) n))) ∧
     (v.toNat / 2 ^ 28 = 9 →
       (7 < n → exec (.partitionReset q v) s = done denied) ∧
       (n ≤ 7 → widerReset w = true ∨ (SMap.find w.resets n).isSome = true → exec (.partitionReset q v) s = done absorbed) ∧
       (n ≤ 7 → widerReset w = false → SMap.find w.resets n = none → sitesOf w n = [] →
         exec (.partitionReset q v) s = done (
           if hold then putReset w n (some ⟨none, true, scrub, false, false⟩) else setF w MGT_RST_STAT_LAST 0 0 1)) ∧
       (n ≤ 7 → widerReset w = false → SMap.find w.resets n = none → sitesOf w n ≠ [] →
         let t := putReset w n (some ⟨none, hold, scrub, false, false⟩)
         exec (.partitionReset q v) s = done (if atBoundary s then resetBegin t n else t))) ∧
     (v.toNat / 2 ^ 28 = 10 →
       (inputReady w = false → exec (.moduleReset q v) s = done denied) ∧
       (inputReady w = true → s.modRst = 1 ∨ s.modRst = 2 → exec (.moduleReset q v) s = done absorbed) ∧
       (inputReady w = true → s.modRst ≠ 1 → s.modRst ≠ 2 → exec (.moduleReset q v) s = done { w with modRst := 1 })) ∧
     (v.toNat / 2 ^ 30 = 1 →
       (∀ r, SMap.find w.resets n = some r → r.done = true → n < 8 → w.therm.estop = none →
         exec (.partitionRelease q v) s = done (putReset w n (some { r with release := true }))) ∧
       (SMap.find w.resets n = none → exec (.partitionRelease q v) s = done w))) ∧
  (∀ (s : State),
     (∀ k : Fin 32,
       (SMap.find s.resets k = none ∨ atBoundary s = false → exec (.partitionResetDone k) s = .next s) ∧
       (∀ r, SMap.find s.resets k = some r → atBoundary s = true →
         (r.done = true → r.release = true → exec (.partitionResetDone k) s = .next (resetLeave s k)) ∧
         (r.done = true → r.release = false → exec (.partitionResetDone k) s = .next s) ∧
         (∀ t, r.done = false → r.tempo0 = some t → t < s.time.tempoNo → stacksBusy s (resetSites s k) = false →
           let u := if r.scrub then scrubSites s (resetSites s k) else s
           (r.hold = true → r.release = false →
             exec (.partitionResetDone k) s = .next (putReset u k (some { r with done := true }))) ∧
           (r.hold = false → Completes (.partitionResetDone k) s fun t => t = resetLeave u k ∧
             getF t MGT_RST_STAT_LAST 0 0 = 1)))) ∧
     (∀ site : Fin 16,
       (siteFailed s site = true → exec (.siteRailFailure site) s = .next s) ∧
       (siteFailed s site = false → exec (.siteRailFailure site) s = .next (
         let t := samplersReset (seqReset { s with railDown := setBit s.railDown site } site) [site.val] .uncorrectable
         let t := absorbSite (forAll (siteCores site) t stopCore) site .uncorrectable
         let t := engineReset (forAll (siteClus site) t cluLinesLost) site
         parkSite (match siteStack site with
           | some k => stackFail t k
           | none => t) site))) ∧
     (∀ (q : Requester) (v : BitVec 32), Allowed s q cMGT 0 MGT_RETIRE_GO.off v.toNat → hasBit v.toNat 31 = true →
       let w := stored s cMGT 0 MGT_RETIRE_GO.off v.toNat
       exec (.retire q v) s = .next (replied (match corOfLid w (bitsOf v.toNat 11 0) with
         | some c => failCore w c
         | none => w) q cMGT 0 MGT_RETIRE_GO.off)))

/-- R424, R425: a new map is taken for the next boundary where every assignment that it changes passes between partitions held
in reset, or refused with MAP_DENY. R44, R45: at a boundary the capacity of the module is published, once; where it has
changed `DEV_CAP_GEN` advances. -/
def Obligations.PartitionsAndCapacity : Prop :=
  ∀ (s : State),
    (∀ (q : Requester) (v : BitVec 32), Allowed s q cMGT 0 MGT_PART_MAP.off v.toNat →
      let key := pairKey q cMGT 0 MGT_PART_MAP.off
      let h := SMap.get s.hold 0 key
      let w := { s with hold := SMap.set s.hold 0 key 0 }
      let new := (if h = 0 then viewF s q MGT_PART_MAP 0 0 / 2 ^ 32 else h - 1) * 2 ^ 32 + v.toNat
      exec (.partMapWrite q v) s = .next (replied (
        if mapOk w (w.mapNext.getD (getF w MGT_PART_MAP 0 0)) new = true then { w with mapNext := some new }
        else raiseFor w cMGT 0 23 .noPart) q cMGT 0 MGT_PART_MAP.off)) ∧
    (∀ old new, mapOk s old new = true ↔ ∀ x < 16,
      let a := bitsOf old (4 * x + 3) (4 * x)
      let b := bitsOf new (4 * x + 3) (4 * x)
      let held := fun n => n < 8 ∨ ∃ r, SMap.find s.resets (n % 8) = some r ∧ r.done = true ∧ r.hold = true ∧ r.release = false
      a = b ∨ (held a ∧ held b)) ∧
    (∀ new, s.mapNext = some new →
      (atBoundary s = false → exec .partMapApply s = .next s) ∧
      (atBoundary s = true → (∀ x < 16, hasBit (getF s MGT_PART_MAP 0 0) (4 * x + 3) = true → hasBit new (4 * x + 3) = true) →
        Completes .partMapApply s fun t => getF t MGT_PART_MAP 0 0 = new % 2 ^ 64 ∧ t.mapNext = none ∧ t.mem = s.mem)) ∧
    (atBoundary s = false ∨ s.capAt = s.time.tempoNo + 1 → exec .capacityPublish s = .next s) ∧
    (atBoundary s = true → s.capAt ≠ s.time.tempoNo + 1 →
      let cores := if bootDone s 5 then coreCount s else 0
      let mem := if bootDone s 3 then ((List.range 8).map fun k => getF s MST_CAP_MIB k 0).sum else 0
      Completes .capacityPublish s fun t =>
        getF t DEV_CAP_CORES_CORES 0 0 = cores % 2 ^ DEV_CAP_CORES_CORES.width ∧
        getF t DEV_CAP_MEM 0 0 = mem % 2 ^ DEV_CAP_MEM.width ∧
        (getF s DEV_CAP_CORES_CORES 0 0 ≠ cores ∨ getF s DEV_CAP_MEM 0 0 ≠ mem →
          getF t DEV_CAP_GEN 0 0 = (getF s DEV_CAP_GEN 0 0 + 1) % 2 ^ DEV_CAP_GEN.width) ∧
        t.mem = s.mem)

/-! ## The Canvas (R249 to R290) -/

/-- R258 to R262, R265, R285: firmware's GRANT and RELEASE are ignored while BUSY, and otherwise issued from `PRT_GRANT_DESC`;
a descriptor that R260 refuses is refused with its code. The messages of a grant at the other end: it claims a ring or answers
with a refusal, which the issuer takes as its own; it records a READY stamp and a release. -/
def Obligations.GrantMessages : Prop :=
  ∀ (s : State),
    (∀ (q : Requester) (site : Fin 16) (v : BitVec 32), Allowed s q cPRT site PRT_GRANT_CTRL_GRANT.off v.toNat →
      let w := stored s cPRT site PRT_GRANT_CTRL_GRANT.off v.toNat
      let d := getF w PRT_GRANT_DESC site 0
      let busy := getF w PRT_GRANT_STAT_BUSY site 0 = 1
      let done := fun (t : State) => Host.Outcome.next (φ := Fault) (ρ := Refusal) (replied t q cPRT site PRT_GRANT_CTRL_GRANT.off)
      (v.toNat % 4 = 1 → exec (.firmwareGrant q site v) s = done (if busy then w else issueGrant w 2 site 0 d)) ∧
      (v.toNat % 4 = 2 → exec (.firmwareRelease q site v) s = done (if busy then w else issueRelease w 2 site 0 d))) ∧
    (∀ issuer origin entry d,
      let src := bitsOf d 15 12
      let dst := bitsOf d 19 16
      let bad := src = dst ∨ 61 < bitsOf d 11 6 ∨ floorPlace (bitsOf d 5 0) (bitsOf d 11 6) = true ∨ 2 ^ 29 ≤ d
      let no := fun code => refuseGrant s issuer origin entry code (if origin = src then dst else src) (bitsOf d 5 0) (bitsOf d 11 6)
      (bad → issueGrant s issuer origin entry d = no 7 ∧ issueRelease s issuer origin entry d = no 7) ∧
      (¬bad → origin ≠ src → origin ≠ dst → issueGrant s issuer origin entry d = no 5 ∧
        issueRelease s issuer origin entry d = no 5) ∧
      (¬bad → origin = src ∨ origin = dst → endShut s src = true ∨ endShut s dst = true →
        issueGrant s issuer origin entry d = no 9)) ∧
    (∀ (a : Arrival), Fresh s a →
      let r := drainSub (received s a) a.pkt.epoch
      let d := pktWord a.pkt
      let lane := bitsOf d 5 0
      let l := entryOf r lane (bitsOf d 11 6)
      let src := bitsOf d 15 12
      let dst := bitsOf d 19 16
      let dir := if a.site.val = src then 0 else 1
      let wants := fun (c : Claim) => c.origin != a.site.val && (if dir = 0 then c.txRing == 4 else c.rxRing == 4)
      let done := fun (t : State) => Host.Outcome.next (φ := Fault) (ρ := Refusal) (released t a)
      (a.pkt.op = opGRANT_MSG →
        (claimAt r lane l src dst wants = none → exec (.grantMsg a) s = done r) ∧
        (∀ c, claimAt r lane l src dst wants = some c → a.site.val = src ∨ a.site.val = dst →
          (claimRing r dir a.site lane l c.origin c.e = none →
            exec (.grantMsg a) s = done (grantMsg r opGRANT_REFUSE a.site c.origin (if dir = 0 then 3 else 4) d)) ∧
          (∀ t ring ready, claimRing r dir a.site lane l c.origin c.e = some (t, ring, ready) →
            let c' := if dir = 0 then { c with txRing := ring } else { c with rxRing := ring }
            let u := modClaim t lane l c fun _ => c'
            exec (.grantMsg a) s = done (if ready then ringLocked u lane l c' dir else u)))) ∧
      (a.pkt.op = opGRANT_REFUSE → exec (.grantRefuse a) s = done (
        match claimAt r lane l src dst fun c => c.origin == a.site.val with
        | none => r
        | some c => abandon r lane l c (a.pkt.ctr % 16))) ∧
      (a.pkt.op = opGRANT_READY → ∀ c, (getCirc r (circKey (a.pkt.ctr % 64) (a.pkt.ctr / 64 % 64))).next = none →
        (getCirc r (circKey (a.pkt.ctr % 64) (a.pkt.ctr / 64 % 64))).cur = some c → c.src ≠ c.dst →
        c.src = a.site.val ∨ c.dst = a.site.val →
        exec (.grantReady a) s = done (modClaim r (a.pkt.ctr % 64) (a.pkt.ctr / 64 % 64) c fun y =>
          if c.src = a.site.val then { y with rxSeen := some (stampBeats r d) } else { y with txSeen := some (stampBeats r d) })) ∧
      (a.pkt.op = opRELEASE_MSG → ∀ c, (getCirc r (circKey lane l)).cur = some c → (getCirc r (circKey lane l)).next = none →
        (getCirc r (circKey lane l)).relAt = none → c.src = src → c.dst = dst →
        exec (.releaseMsg a) s = done (setRelease r lane l (boundaryAfter r (max 1 (bitsOf d 27 20))) (4 * a.pkt.srcSite))))

/-- R262 to R265: a pending circuit takes effect at the boundary E, or the first at or after 20 beats past the later stamp of
both locks, while its lane has light; its entry is then FLOOR, RESERVE_USED, PINNED or DEMAND. Packet starts end for a release
at beat 89 of the tempo before it; at its boundary the entry and the rings are free. R262, R267: a claimed ring locks at a
heater code, and its end tells the other; not locked 5 µs after its claim, the time in the dark left out, it is swept again,
and not locked 8 µs after that, it fails and its claim is given up with code 8, or its circuit in service moves. R270, R276,
R277: four matching training words in a row accept a circuit, and a valid word of another identity, or a heater code further
than the window from the one that the ring's sets give, is a mislock; the words that a transmitter sends match. A ring that is
swept locks, and its circuit returns at a boundary once both rings have; or it fails 8 µs after its start. What code the sets
give is the model's choice (log entry 134). -/
def Obligations.CircuitsAndRings : Prop :=
  (∀ (lane l : Fin 64) (s : State),
     let k := circKey lane l
     let x := getCirc s k
     (∀ (c : Claim) a b e f, c.txLock = some a → c.rxLock = some b → c.txSeen = some e → c.rxSeen = some f →
       c.effectAt = some (max c.e ((max (max a b) (max e f) + 119) / 100))) ∧
     (atBoundary s = false ∨ getF s LAN_STAT_LIT lane 0 = 0 → exec (.circuitEffect lane l) s = .next s) ∧
     (∀ c, x.cur = some c → atBoundary s = true → getF s LAN_STAT_LIT lane 0 ≠ 0 → endShut s c.src = false →
       endShut s c.dst = false →
       (occState s lane l = ocPending →
         (∀ t, c.effectAt = some t → t ≤ s.time.tempoNo → Completes (.circuitEffect lane l) s fun u =>
           u = takeEffect s lane l c ∧ occState u lane l = if 62 ≤ l.val ∧ isSubst s lane l = false then ocReserveUsed
             else if c.floor then ocFloor else if c.pin then ocPinned else ocDemand) ∧
         ((c.effectAt = none ∨ ∃ t, c.effectAt = some t ∧ s.time.tempoNo < t) → exec (.circuitEffect lane l) s = .next s)) ∧
       (occState s lane l ≠ ocPending → x.held = true → ∀ t, x.backAt = some t → t ≤ s.time.tempoNo →
         exec (.circuitEffect lane l) s = .next (resumeCirc s lane l))) ∧
     (∀ t, x.relAt = some t →
       (t * 100 ≤ nowBeat s + 11 → exec (.releaseCutoff lane l) s = .next (putCirc s k { x with cut := true })) ∧
       (nowBeat s + 11 < t * 100 → x.cut = false → exec (.releaseCutoff lane l) s = .next s) ∧
       (atBoundary s = false ∨ s.time.tempoNo < t → exec (.releaseEffect lane l) s = .next s) ∧
       (∀ c, atBoundary s = true → t ≤ s.time.tempoNo → x.cur = some c → x.next = none → x.relBy % 4 ≠ 2 →
         (getTx s (linkCanvas c.src c.dst)).queue = [] → Completes (.releaseEffect lane l) s fun u =>
           (c.issuer ≠ 3 ∨ c.floor = true → getCirc u k = { Circ.init with lastSent := x.lastSent }) ∧
           occState u lane l = (if 62 ≤ l.val ∧ isSubst s lane l = false then ocReserve else ocFree))) ∧
     (x.relAt = none → exec (.releaseEffect lane l) s = .next s)) ∧
  (∀ (lane l : Fin 64) (s : State),
     let k := circKey lane l
     let x := getCirc s k
     (∀ (rx : Bool) (code : Fin 65536), let dir := if rx then 1 else 0
       (∀ c, tuningClaim s lane l dir = some c →
         let site := (c.ring dir).1
         let n := 4 * lane.val + (c.ring dir).2
         (getF s (ringSt dir) site n = rgClaimed ∨ getF s (ringSt dir) site n = rgSweep →
           exec (.ringLock lane l rx code) s =
             .next (circBack (ringLocked (setRing (setHeater s dir site n code) dir site n rgReady) lane l c dir) lane l)) ∧
         (getF s LAN_STAT_LIT lane 0 ≠ 0 → c.resweep = false → 500 ≤ c.tuned s lane →
           exec (.tuneResweep lane l rx) s = .next (modClaim (setRing (setHeater s dir site n 0) dir site n rgSweep) lane l c
             fun y => { y with resweep := true })) ∧
         (c.tuned s lane < 500 → exec (.tuneResweep lane l rx) s = .next s) ∧
         (getF s LAN_STAT_LIT lane 0 ≠ 0 → c.resweep = true → 1300 ≤ c.tuned s lane →
           let f := ringFail s dir site n
           exec (.tuneFail lane l rx) s = .next (
             if (getCirc f k).cur = some c ∧ (getCirc f k).held = true then putCirc f k { getCirc f k with due := true }
             else let u := raise (raise (abandon f lane l c 8) cPRT c.src 2) cPRT c.dst 2
               if c.floor then placeFloor u c.src c.dst else u))) ∧
       (tuningClaim s lane l dir = none → exec (.ringLock lane l rx code) s = .next s ∧
         exec (.tuneResweep lane l rx) s = .next s ∧ exec (.tuneFail lane l rx) s = .next s)) ∧
     (∀ w : Fin (2 ^ 64), occServes (occState s lane l) = true →
       (wordOk w = false → exec (.trainingWord lane l w) s =
         .next (putCirc s k { x with words := if x.words < 4 then 0 else 4 })) ∧
       (wordOk w = true → wordMatches s lane l w = true → exec (.trainingWord lane l w) s =
         .next (putCirc s k { x with words := min 4 (x.words + 1) })) ∧
       (wordOk w = true → wordMatches s lane l w = false → exec (.trainingWord lane l w) s = .next (mislock s lane l 1 1))) ∧
     (∀ w, getF s LAN_OCC_SRC lane l < 16 → getF s LAN_OCC_DST lane l < 16 → getF s LAN_OCC_EFFECT lane l < 2 ^ 16 →
       (trainCirc s lane l).out = .training lane l w :: s.out → wordOk w = true ∧ wordMatches s lane l w = true) ∧
     (∀ (c : Claim), (c.tuned s lane = c.ran + (if getF s LAN_STAT_LIT lane 0 = 1 then nowBeat s - c.claimedAt else 0))) ∧
     (∀ (rx came : Bool) (code : Fin 65536) (word : Fin (2 ^ 64)) (c : Claim), x.cur = some c →
       let dir := if rx then 1 else 0
       let site := (c.ring dir).1
       let n := 4 * lane.val + (c.ring dir).2
       let u := setHeater s dir site n code
       let breach := getF u PRT_WINDOW site 0 < gap (heaterOf u dir site n) (expectCode u dir site n l)
       let other := came = true ∧ rx = true ∧ wordOk word = true ∧ wordMatches u lane l word = false
       ((4 ≤ (c.ring dir).2 ∨ ringCoupled s dir site n = false) → exec (.mislock lane l rx code came word) s = .next s) ∧
       ((c.ring dir).2 < 4 → ringCoupled s dir site n = true →
         (¬breach → ¬other → exec (.mislock lane l rx code came word) s = .next u) ∧
         (breach → ¬other → exec (.mislock lane l rx code came word) s = .next (mislock u lane l dir 2)) ∧
         (¬breach → other → exec (.mislock lane l rx code came word) s = .next (mislock u lane l dir 1)) ∧
         (breach → other → exec (.mislock lane l rx code came word) s = .next (mislock u lane l dir 3)) ∧
         (breach → occServes (occState s lane l) = true → s.calSlots = [] → ringGet s dir site n 0 < 2 →
           Completes (.mislock lane l rx code came word) s fun t => (getCirc t k).held = true ∧ (getCirc t k).due = true ∧
             getF t (ringSt dir) site n = rgHeldOut ∧ ringGet t dir site n 0 = ringGet s dir site n 0 + 1))) ∧
     (∀ c, x.cur = some c → x.held = true → occServes (occState s lane l) = true →
       (∀ dir < 2, (c.ring dir).2 < 4 ∧ (getF s (ringSt dir) (c.ring dir).1 (4 * lane + (c.ring dir).2) = rgReady ∨
         getF s (ringSt dir) (c.ring dir).1 (4 * lane + (c.ring dir).2) = rgActive)) →
       circBack s lane l = putCirc s k { x with backAt := some ((nowBeat s + 119) / 100) }) ∧
     (∀ (rx : Bool) (code : Fin 65536), let dir := if rx then 1 else 0
       (∀ c site n, sweeping s lane l dir = some (c, site, n) → occState s lane l ≠ ocPending →
         let t := ringPut (setRing (setHeater s dir site n code) dir site n rgReady) dir site n 1 0
         exec (.sweepLock lane l rx code) s = .next (circBack t lane l)) ∧
       (∀ c site n, sweeping s lane l dir = some (c, site, n) → ringGet s dir site n 1 ≠ 0 →
         let f := ringFail s dir site n
         exec (.sweepTimeout lane l rx) s = .next (if nowBeat s + 1 < ringGet s dir site n 1 + 900 then s
           else putCirc f k { getCirc f k with due := true })) ∧
       (sweeping s lane l dir = none → exec (.sweepLock lane l rx code) s = .next s ∧
         exec (.sweepTimeout lane l rx) s = .next s)))

/-- R278 to R284, R289: a group that loses its light is dark, its source is FAILED, and the lowest source in STANDBY feeds it;
at a boundary its lanes are lit again. A switch is armed by a source in STANDBY, and takes its group at the boundary of
`LSR_SWITCH_AT`. A waveguide that fails takes its lane out of service. R271: `PRT_HEAT_RATE` follows the heater codes of the
coupled rings. R546, R547: a wire that fails gives way to the lowest-numbered free spare. -/
def Obligations.LightAndWires : Prop :=
  ∀ (s : State),
    (∀ g : Fin 4,
      (groupSource s g = none → exec (.lightLoss g) s = .next s ∧ exec (.groupResume g) s = .next s) ∧
      (∀ i j, groupSource s g = some i → standby s = some j → Completes (.lightLoss g) s fun t =>
        getF t LSR_STAT_STATE i 0 = 4 ∧ getF t LSR_STAT_LOCK i 0 = 0 ∧ getF t LSR_STAT_STATE j 0 = 3 ∧
        getF t LSR_STAT_FEED j 0 = g ∧ ∀ n ∈ groupLanes g, getF t LAN_STAT_LIT n 0 = 0 ∧ getF t LAN_STAT_SOURCE n 0 = j) ∧
      (∀ i, groupSource s g = some i → atBoundary s = true → Completes (.groupResume g) s fun t =>
        ∀ n ∈ groupLanes g, getF s LAN_STAT_SOURCE n 0 ≠ 7 → laneDead s n = false →
          getF s LAN_STAT_LIT n 0 ≠ 1 → getF t LAN_STAT_LIT n 0 = 1)) ∧
    (∀ (q : Requester) (i : Fin 6) (v : BitVec 32), Allowed s q cLSR i LSR_CTRL_EN.off v.toNat →
      let w := stored s cLSR i LSR_CTRL_EN.off v.toNat
      v.toNat % 2 = 1 → hasBit v.toNat 7 = true → getF w LSR_STAT_STATE i 0 = 2 →
      exec (.plannedSwitchArm q i v) s = .next (replied
        { setF (setF w LSR_CTRL_TAKE i 0 (bitsOf v.toNat 6 4)) LSR_CTRL_EN i 0 1 with lsrArmed := setBit s.lsrArmed i }
        q cLSR i LSR_CTRL_EN.off)) ∧
    (∀ i : Fin 6, let g := getF s LSR_CTRL_TAKE i 0
      (atBoundary s = true → hasBit s.lsrArmed i = true → s.time.count = getF s LSR_SWITCH_AT i 0 →
        getF s LSR_STAT_STATE i 0 = 2 → g ≤ 3 → Completes (.plannedSwitch i) s fun t =>
          getF t LSR_STAT_STATE i 0 = 3 ∧ getF t LSR_STAT_FEED i 0 = g ∧
          (∀ o, groupSource s g = some o → getF t LSR_STAT_FEED o 0 = 7) ∧
          ∀ n ∈ groupLanes g, getF t LAN_STAT_LIT n 0 = 0 ∧ getF t LAN_STAT_SOURCE n 0 = i) ∧
      (atBoundary s = false ∨ hasBit s.lsrArmed i = false → exec (.plannedSwitch i) s = .next s) ∧
      (getF s LSR_STAT_STATE i 0 = 1 → exec (.sourceWarmupDone i) s =
        .next (raise (setF (setF s LSR_STAT_STATE i 0 2) LSR_STAT_LOCK i 0 1) cLSR i 4))) ∧
    (∀ lane : Fin 64, exec (.waveguideFailure lane) s =
      .next (if laneDead s lane then s else laneOut (fuseRepair s 0x11 0 lane) lane)) ∧
    (∀ (site : Fin 16) (r : Fin 512) (code : Fin 65536),
      let dir := r.val / 256
      let n := r.val % 256
      let coupled := (([0, 1].flatMap fun d => (List.range 256).filter fun n => getF s (ringSt d) site n == rgActive)).length
      let change : Int := code.val - getF s (ringHeat dir) site n
      getF s (ringSt dir) site n = rgActive → Completes (.heatRate site [(r, code)]) s fun t =>
        getF t PRT_HEAT_RATE_RATE site 0 = ofSigned 16 (-(change * heatCoef site) / (256 * coupled)) ∧
        getF t (ringHeat dir) site n = code.val) ∧
    (∀ (w : Fin 2048) (errs resent : Fin 65536),
      (1024 ≤ w.val → SMap.get s.seamErrs 0 w + errs.val < getF s SEA_THR 0 0 →
        exec (.wireFailure w errs resent false) s =
          .next { s with seamErrs := SMap.set s.seamErrs 0 w (SMap.get s.seamErrs 0 w + errs.val) }) ∧
      (∀ p, w.val < 1792 → wireState s w = 0 → freeSpare s = some p →
        Completes (.wireFailure w errs resent true) s fun t => wireState t w = 1 ∧ wirePeer t w = some p ∧
          wireState t p = 3 ∧ wirePeer t p = some w.val ∧ SMap.get t.seamErrs 0 w = 0))

/-! ## The Tempo (R48 to R71, R88 to R91) -/

namespace Sys2Proof.Machine

/-- Every list in force in `s` is suspended in `t`: at once in the first clock of a beat, else at the next beat boundary (R69). -/
abbrev AllSuspend (s t : State) : Prop := ∀ x < 16,
  (s.time.clk = 0 → seqActive t x = false) ∧ (seqActive t x = true → (getSeq t x).suspReq.isSome = true)

end Sys2Proof.Machine

/-- R54, R55, R59, R70: the last 128 bits received are a frame when they begin with SYNC or the device holds frame lock. Two
valid frames in order give frame lock; two invalid ones in a row drop it. A count received in order that is not the local one
takes its place where the frame says NEW_EPOCH or at the second in a row, with frame lock or without; in LOCKED with
COUNT_JUMP, which suspends every sequencer. A received SUSPEND is followed. R50, R63, R67 to R71: the device locks once its
loops have, with frame lock and an equal count where its role receives frames. A lost Tempo takes it to HOLDOVER, and the
limit of holdover to SUSPENDED, where every sequencer is suspended. An input that returns within 10 ns and agrees slews, until
the boundary is within 100 ps; any other is adopted at once. A limit that has been reached comes before either. -/
def Obligations.TempoSignals : Prop :=
  (∀ (s : State),
     let f := s.tempo.rxBits
     let now := (bitsOf f 79 16 + 127) % 2 ^ 64
     let ready := framedRole s = true ∧ tmpState s ≠ tmOff ∧ 128 ≤ s.tempo.rxSince ∧
       (s.tempo.flock = true ∨ bitsOf f 15 0 = 0xD2B4)
     (¬ready → exec .frameReceived s = .next s) ∧
     (ready → frameValid f = false →
       (s.tempo.badFrames = 0 → exec .frameReceived s = .next
         (raise (putTempo s { s.tempo with lastFrame := none, rxSince := 0, badFrames := 1, differs := false }) cTMP 0 5)) ∧
       (1 ≤ s.tempo.badFrames → Completes .frameReceived s fun t =>
         t.tempo.flock = false ∧ t.tempo.badFrames = 0 ∧ t.time = s.time ∧ getF t TMP_STAT_FRAME_OK 0 0 = 0)) ∧
     (ready → frameValid f = true →
       (s.tempo.flock = false → s.tempo.lastFrame ≠ some ((bitsOf f 79 16 + 2 ^ 64 - 128) % 2 ^ 64) →
         Completes .frameReceived s fun t => t.tempo.flock = false ∧ t.tempo.lastFrame = some (bitsOf f 79 16) ∧
           (s.tempo.compare = true ∨ (hasBit f 81 = false ∧ s.tempo.differs = false) → t.time = s.time) ∧
           (s.tempo.compare = false → hasBit f 81 = true ∨ s.tempo.differs = true → t.time.count = now)) ∧
       (s.tempo.flock = false → s.tempo.lastFrame = some ((bitsOf f 79 16 + 2 ^ 64 - 128) % 2 ^ 64) →
         Completes .frameReceived s fun t => t.tempo.flock = true ∧ t.tempo.rxCount = some now ∧
           (s.tempo.compare = false → t.time.count = now)) ∧
       (s.tempo.flock = true → s.time.count = now → Completes .frameReceived s fun t => t.time = s.time ∧
         t.tempo.rxCount = some now ∧ t.tempo.badFrames = 0 ∧ getF t TMP_STAT_HOP 0 0 = bitsOf f 87 84) ∧
       (s.tempo.flock = true → s.tempo.compare = false → s.time.count ≠ now → tmpState s = tmLocked →
         (hasBit f 81 = true ∨ s.tempo.differs = true → Completes .frameReceived s fun t =>
           t.time = { s.time with count := now } ∧ AllSuspend s t) ∧
         (hasBit f 81 = false → s.tempo.differs = false → Completes .frameReceived s fun t =>
           t.time = s.time ∧ t.tempo.differs = true))) ∧
     (s.tempo.suspendDue = false → exec .suspendFollow s = .next s) ∧
     (s.tempo.suspendDue = true → Completes .suspendFollow s fun t => t.tempo.suspendDue = false ∧ t.time = s.time ∧
       AllSuspend s t)) ∧
  (∀ (s : State),
     let agrees := framedRole s = false ∨ s.tempo.rxCount = some s.time.count
     (tmpState s = tmAcquiring → s.tempo.slewing = false → framedRole s = false ∨ s.tempo.flock = true → agrees →
       Completes .referenceLock s fun t => t.time = s.time ∧
         tmpState t = if s.tempo.role = roleLocal then tmLocal else tmLocked) ∧
     (tmpState s ≠ tmAcquiring → exec .referenceLock s = .next s) ∧
     (s.tempo.role ≠ roleLocal → tmpState s = tmLocked ∨ tmpState s = tmAcquiring →
       Completes (.tempoLost false) s fun t => tmpState t = tmHoldover ∧ getF t TMP_HOLD_ELAPSED 0 0 = 0 ∧
         t.tempo.flock = false ∧ getF t TMP_STAT_FRAME_OK 0 0 = 0 ∧ t.time = s.time) ∧
     (s.tempo.role = roleLocal ∨ s.tempo.missedMarks < 3 → exec (.tempoLost true) s = .next s) ∧
     (tmpState s = tmHoldover → getF s TMP_HOLD_LIMIT 0 0 ≤ getF s TMP_HOLD_ELAPSED 0 0 →
       Completes .holdoverLimit s fun t => tmpState t = tmSuspended ∧ t.time = s.time ∧ AllSuspend s t) ∧
     (tmpState s ≠ tmHoldover ∨ getF s TMP_HOLD_ELAPSED 0 0 < getF s TMP_HOLD_LIMIT 0 0 → exec .holdoverLimit s = .next s) ∧
     (∀ (phase : Int) (beat : Fin 100), tmpState s = tmHoldover ∨ tmpState s = tmSuspended ∨
         (tmpState s = tmAcquiring ∧ s.tempo.compare = true ∧ framedRole s = true) →
       framedRole s = false ∨ s.tempo.flock = true → let h := holdLimit s
       (agrees → phase.natAbs ≤ 10000 → exec (.tempoReturn phase beat) s = .next
         (putTempo (setF h TMP_PHASE_ERR 0 0 (ofSigned 32 phase)) { h.tempo with slewing := true })) ∧
       (¬agrees ∨ 10000 < phase.natAbs → Completes (.tempoReturn phase beat) s fun t =>
         t.time = ⟨if framedRole s then s.tempo.rxCount.getD s.time.count else s.time.count, beat, 0, s.time.tempoNo⟩ ∧
         tmpState t = (if s.tempo.role = roleLocal then tmLocal else tmLocked) ∧ ∀ x < 16, seqActive t x = false)) ∧
     (∀ phase : Int,
       (s.tempo.slewing = true → phase.natAbs < 100 → Completes (.holdoverExit phase) s fun t => t.tempo.slewing = false ∧
         tmpState t = (if s.tempo.role = roleLocal then tmLocal else tmLocked) ∧ t.time = s.time) ∧
       (s.tempo.slewing = false ∨ 100 ≤ phase.natAbs → exec (.holdoverExit phase) s = .next (holdLimit s))) ∧
     ((tmpState s ≠ tmHoldover ∨ getF s TMP_HOLD_ELAPSED 0 0 < getF s TMP_HOLD_LIMIT 0 0) → holdLimit s = s))

/-- R50, R58: a change of ROLE or FRAMED is refused while a list is in force, and otherwise takes effect at a boundary, where
the device acquires the Tempo in its new role. APPLY_EPOCH is refused in a role that receives marks, for a count that begins
no frame, or while a sequencer is active, and otherwise sets the count at a frame start. R52, R57, R67, R68: a boundary ends
the tempo: the count advances by one, beat and clock are 0, and then every unit takes what the boundary brings it. In the
SOURCED role a mark received within 2 beats of the boundary expected sets it, and any while the Tempo is acquired without a
count to compare (log entry 129). A mark that is missed is counted, and a tempo in holdover advances `TMP_HOLD_ELAPSED`. -/
def Obligations.TempoCommands : Prop :=
  (∀ (s : State),
     let active := ∃ x < 16, seqActive s x = true
     let changed := getF s TMP_CTRL_ROLE 0 0 ≠ s.tempo.role ∨ getF s TMP_CTRL_FRAMED 0 0 ≠ s.tempo.framed
     (∀ (q : Requester) (v : BitVec 32), Allowed s q cTMP 0 TMP_CTRL_ROLE.off v.toNat →
       let w := stored s cTMP 0 TMP_CTRL_ROLE.off v.toNat
       let done := fun (t : State) => Host.Outcome.next (φ := Fault) (ρ := Refusal) (replied t q cTMP 0 TMP_CTRL_ROLE.off)
       let role := bitsOf v.toNat 1 0
       let fr := bitOf v.toNat 6
       (hasBit v.toNat 7 = false → role ≠ getF s TMP_CTRL_ROLE 0 0 ∨ fr ≠ getF s TMP_CTRL_FRAMED 0 0 →
         (active → exec (.roleWrite q v) s = done (raise w cTMP 0 10)) ∧
         (¬active → exec (.roleWrite q v) s = done (setF (setF w TMP_CTRL_ROLE 0 0 role) TMP_CTRL_FRAMED 0 0 fr))) ∧
       (hasBit v.toNat 7 = true → role = getF s TMP_CTRL_ROLE 0 0 → fr = getF s TMP_CTRL_FRAMED 0 0 →
         let e := getF s TMP_EPOCH_SET 0 0
         let busy := ∃ x < 16, seqState s x = mvChecking ∨ seqState s x = mvArmed ∨ seqState s x = mvRunning
         (s.tempo.role = roleFollower ∨ s.tempo.role = roleSourced ∨ e % 128 ≠ 0 ∨ busy →
           exec (.applyEpoch q v) s = done (raise w cTMP 0 8)) ∧
         (s.tempo.role ≠ roleFollower → s.tempo.role ≠ roleSourced → e % 128 = 0 → ¬busy →
           exec (.applyEpoch q v) s = done (putTempo w { s.tempo with epochNext := some (e, s.tempo.role), epochStale := false }))) ∧
       (role = getF s TMP_CTRL_ROLE 0 0 → fr = getF s TMP_CTRL_FRAMED 0 0 → exec (.roleWrite q v) s = .next s)) ∧
     ((atBoundary s = false ∨ ¬changed → exec .roleApply s = .next s) ∧
       (atBoundary s = true → changed → Completes .roleApply s fun t =>
         t.tempo.role = getF s TMP_CTRL_ROLE 0 0 ∧ t.tempo.framed = getF s TMP_CTRL_FRAMED 0 0 ∧ tmpState t = tmAcquiring ∧
         t.tempo.flock = false ∧ t.tempo.compare = true ∧ t.time = s.time ∧ t.mem = s.mem)) ∧
     (s.tempo.epochNext = none ∨ atBoundary s = false ∨ s.time.count % 128 ≠ 0 → exec .epochApply s = .next s) ∧
     (∀ v role, s.tempo.epochNext = some (v, role) → atBoundary s = true → s.time.count % 128 = 0 →
       Completes .epochApply s fun t => t.tempo.epochNext = none ∧
         (s.tempo.epochStale = false → role = s.tempo.role → t.time = { s.time with count := v }) ∧
         (s.tempo.epochStale = true ∨ role ≠ s.tempo.role → t.time = s.time))) ∧
  (∀ (s : State) (mark : Option Bool),
     let a := tempoAdvance (hostFlushAll s) mark
     let t := tempoAdvance s mark
     let u := suspendDue (forAll (List.range 8) (fillBuckets a) stackBoundary)
     let b := moduleBoundary (resetsBegin (canvasBoundary (calBoundary u)))
     let expected := s.tempo.role = roleSourced ∧ ((tmpState s = tmLocked ∧ 98 ≤ s.time.beat) ∨
       (tmpState s = tmAcquiring ∧ (framedRole s = false ∨ s.tempo.compare = false)))
     exec (.tempoBoundary mark) s = .next (beatCounts (msixBoundary (thermBoundary (updBoundary b)))) ∧
     (∀ bit, expected → exec (.tempoMark bit) s = exec (.tempoBoundary (some bit)) s) ∧
     (∀ bit, ¬expected → exec (.tempoMark bit) s = .next s) ∧
     (t.time = ⟨(s.time.count + 1) % 2 ^ 64, 0, 0, s.time.tempoNo + 1⟩ ∧ t.mem = s.mem ∧ t.cores = s.cores ∧
       (markedRole s = true → tmpState s = tmLocked ∨ tmpState s = tmAcquiring →
         t.tempo.missedMarks = if mark.isSome then 0 else s.tempo.missedMarks + 1) ∧
       (framedRole s = true → s.tempo.rxBits < 2 ^ 128 → ∀ b < 128, hasBit t.tempo.rxBits b =
         if b = 127 then mark == some true else hasBit s.tempo.rxBits (b + 1)) ∧
       (tmpState s = tmHoldover → getF t TMP_HOLD_ELAPSED 0 0 % 2 ^ 32 =
         min (2 ^ 32 - 1) (getF s TMP_HOLD_ELAPSED 0 0 + 1)) ∧
       t.tempo.role = s.tempo.role ∧ tmpState t = tmpState s))

/-! ## Samplers (R370 to R379, R394 to R397) -/

/-- R372, R373: an armed set starts its run when the start counter has reached it, with the rows that its members select, and
the next run waits for the next step of the counter. R374 to R379: a run with a failed member or a failed read ends with that
status, and one with no candidate above −infinity with UNCORRECTABLE; a greedy run chooses the first of its ranked candidates,
and a sampling run the candidate that its draw reaches. R394, R395: a scan reads a block of scores when the counter allows,
keeps the highest of them, and gives the slot back; once every member has read its scores the lead writes the merged list. -/
def Obligations.SamplerProgress : Prop :=
  (∀ (lead : Fin 8) (s : State),
     let d := lead.val
     let n := SMap.get s.smpStarted 0 d
     let st := getF s SMP_START_STRIDE d 0
     let v := (getSync s (getF s SMP_START_SYNC d 0)).visible s
     let ready := smpLead s d = d ∧ getF s SMP_STAT_STATE d 0 = 1 ∧ getF s SMP_CTRL_MODE d 0 = 0 ∧ smpHeld s d = false ∧
       reached v (st * (n + 1)) = true
     (¬ready → exec (.samplerRunStart lead) s = .next s) ∧
     (ready → ∀ k, runRows s d = .ok s k →
       (∀ t rows, smpRows s d k = .ok t rows → Completes (.samplerRunStart lead) s fun u =>
         SMap.get u.smpStarted 0 d = n + 1 ∧ SMap.find u.smpRuns d = some ⟨n, nowBeat t, rows, 0⟩ ∧
         ∀ x ∈ smpMembers t d, getF u SMP_STAT_STATE x 0 = 2 ∧
           getF u SMP_STAT_PENDING x 0 = if startsBeyond v st (n + 1) = 0 then 0 else 1) ∧
       (∀ t e, smpRows s d k = .fail t e → Completes (.samplerRunStart lead) s fun u =>
         SMap.find u.smpRuns d = some ⟨n, nowBeat t, [], e.code⟩)) ∧
     (SMap.find s.smpRuns d = none → exec (.samplerRunDone lead) s = .next s) ∧
     (∀ r, SMap.find s.smpRuns d = some r →
       (∀ e, setStatus s (smpMembers s d) = some e → exec (.samplerRunDone lead) s = .next (smpEnd s d r e.code none)) ∧
       (setStatus s (smpMembers s d) = none → r.status ≠ 0 →
         exec (.samplerRunDone lead) s = .next (smpEnd s d r r.status none)) ∧
       (∀ row, setStatus s (smpMembers s d) = none → r.status = 0 → r.rows = [row] → getF s SMP_CTRL_EXT_IN d 0 = 0 →
         let cs := smpProbs (getF s SMP_TOPP d 0) row
         let u := uniform s d r.n 0
         (rowAlive row = false → exec (.samplerRunDone lead) s = .next (smpEnd s d r Status.uncorrectable.code none)) ∧
         (rowAlive row = true → getF s SMP_CTRL_EXT_OUT d 0 = 1 →
           exec (.samplerRunDone lead) s = .next (smpEnd (extWrite s d [row]) d r 0 none)) ∧
         (rowAlive row = true → getF s SMP_CTRL_EXT_OUT d 0 ≠ 1 →
           exec (.samplerRunDone lead) s = .next (if smpGreedy s d = true then smpEnd s d r 0 cs.head?
             else smpEnd u.2 d r 0 (choose cs u.1)))))) ∧
  (∀ (s : State),
     (∀ (d : Fin 8) c, SMap.find s.scans d.val = some c →
       let v := (getSync s (getF s SMP_START_SYNC d 0)).visible s
       let n := getF s SMP_SCAN_BLK_ENTRIES d 0
       let a := getF s SMP_SCAN_RING d 0 + c.blocks % max 1 (getF s SMP_SCAN_BLK_BLOCKS d 0) * (4 * n)
       let begun := if c.blocks = 0 then { c with start := nowBeat s } else c
       (scanOver s d = true ∨ reached v (c.base + c.blocks + 1) = false → exec (.scanBlockRead d) s = .next s) ∧
       (scanOver s d = false → reached v (c.base + c.blocks + 1) = true → siteStatus s (dieSite d) = none →
         (∀ t e, devRead (setSmpState s d 2) (dieSite d) a (4 * n) = .fail t e → exec (.scanBlockRead d) s =
           .next { t with scans := SMap.insert t.scans d { begun with status := e.code } }) ∧
         (∀ t bs, devRead (setSmpState s d 2) (dieSite d) a (4 * n) = .ok t bs →
           let m := min n (getF t SMP_SCAN_TOTAL d 0 - c.scores)
           let scores := words32 bs m
           let id := getF t SMP_SCAN_IDB d 0 + c.scores
           let x := { begun with
             blocks := c.blocks + 1
             scores := c.scores + m
             top := scores.zipIdx.foldl (fun l x => topInsert (getF t SMP_TOPK d 0) l (x.1, id + x.2)) c.top }
           (∀ x ∈ scores, f32isNan x = false) → exec (.scanBlockRead d) s = .next
             (inject { t with scans := SMap.insert t.scans d x } (dieSite d)
               (syncPkt t opSYNC_ADD (getF t SMP_EXT_SYNC d 0) 1) (.engine (dieSite d)))))) ∧
     (∀ (lead : Fin 8),
       let ms := smpMembers s lead
       let cs := ms.filterMap fun d => SMap.find s.scans d
       (SMap.find s.scans lead.val = none → exec (.scanDone lead) s = .next s) ∧
       (smpLead s lead = lead → (SMap.find s.scans lead.val).isSome = true →
         (∀ e, setStatus s ms = some e → exec (.scanDone lead) s = .next (scanEnd s lead e.code [])) ∧
         (setStatus s ms = none → (∀ d ∈ ms, scanOver s d = true) → (∀ c ∈ cs, c.status = 0) →
           exec (.scanDone lead) s = .next (scanEnd s lead 0
             (cs.foldl (fun t c => c.top.foldl (topInsert (getF s SMP_TOPK lead 0)) t) []))) ∧
         (setStatus s ms = none → (∃ d ∈ ms, scanOver s d = false) → exec (.scanDone lead) s = .next s))))

/-! ## Gambit contexts (R380 to R392, R398) -/

/-- R370, R379, R394, R396: ARM is refused with an event where the sampler is not in its set or the settings do not agree,
changes nothing during a run, and otherwise arms every member with no run counted. DISARM takes the set to IDLE at once, or
after the current run. ABORT ends a run with CANCELLED. Each holds where the write asks for nothing else. R383, R398: EN is
refused where the layout overlaps that of an enabled context, and otherwise enables the context with no round counted; ABORT
ends a round with CANCELLED; CLEAR leaves state 4. R380, R382: a reseed is counted, or its failure; a failed entropy source
raises its event. -/
def Obligations.SamplerAndGambitControl : Prop :=
  (∀ (q : Requester) (d : Fin 8) (v : BitVec 32) (s : State), Allowed s q cSMP d SMP_CTRL_ARM.off v.toNat →
     let w := smpStored (stored s cSMP d SMP_CTRL_ARM.off v.toNat) d SMP_CTRL_ARM.off v.toNat
     let done := fun (t : State) => Host.Outcome.next (φ := Fault) (ρ := Refusal) (replied t q cSMP d SMP_CTRL_ARM.off)
     let ms := smpMembers w d
     let lead := smpLead w d
     let running := ∃ x ∈ ms, 2 ≤ getF w SMP_STAT_STATE x 0
     (v.toNat % 8 = 1 →
       (d.val ∉ ms → exec (.samplerArm q d v) s = done (raise w cSMP d 4)) ∧
       (d.val ∈ ms → running → exec (.samplerArm q d v) s = done w) ∧
       (d.val ∈ ms → ¬running → armOk w ms lead = false →
         exec (.samplerArm q d v) s = done (forAll ms w fun t x => raise t cSMP x 4)) ∧
       (d.val ∈ ms → ¬running → armOk w ms lead = true → Completes (.samplerArm q d v) s fun t =>
         SMap.get t.smpStarted 0 lead = 0 ∧ ∀ x ∈ ms, getF t SMP_STAT_STATE x 0 = 1 ∧ getF t SMP_STAT_PENDING x 0 = 0 ∧
           ((SMap.find t.scans x).isSome = true ↔ getF w SMP_CTRL_MODE x 0 = 2))) ∧
     (v.toNat % 8 = 2 →
       (∀ r, SMap.find w.smpRuns lead = some r →
         exec (.samplerDisarm q d v) s = done { w with smpDisarm := SMap.set w.smpDisarm false lead true }) ∧
       (SMap.find w.smpRuns lead = none → getF w SMP_STAT_STATE d 0 = 1 → d.val ∈ ms →
         Completes (.samplerDisarm q d v) s fun t => ∀ x ∈ ms, getF t SMP_STAT_STATE x 0 = 0 ∧ SMap.find t.scans x = none)) ∧
     (v.toNat % 8 = 4 →
       (∀ r, SMap.find w.smpRuns lead = some r →
         exec (.samplerAbort q d v) s = done (smpEnd w lead r Status.cancelled.code none)) ∧
       (SMap.find w.smpRuns lead = none → SMap.find w.scans lead = none → exec (.samplerAbort q d v) s = done w))) ∧
  (∀ (s : State),
     (∀ (q : Requester) (c : Fin 8) (v : BitVec 32), Allowed s q cGMB 0 (0x100 + 0x40 * c.val) v.toNat →
       let w := stored s cGMB 0 (0x100 + 0x40 * c.val) v.toNat
       let done := fun (t : State) =>
         Host.Outcome.next (φ := Fault) (ρ := Refusal) (replied t q cGMB 0 (0x100 + 0x40 * c.val))
       let off := getF w GMB_CTX_CTRL_EN 0 c = 0
       let meets := ∃ e < 8, e ≠ c.val ∧ getF w GMB_CTX_CTRL_EN 0 e = 1 ∧ ctxMeet w c e = true
       (v.toNat % 8 = 1 →
         (getF w GMB_CTX_CTRL_EN 0 c = 1 ∨ meets → exec (.gmbEnable q c v) s = done w) ∧
         (off → ¬meets → Completes (.gmbEnable q c v) s fun t => getF t GMB_CTX_CTRL_EN 0 c = 1 ∧
           SMap.get t.gmbStarted 0 c = 0 ∧ (getF w GMB_CTX_STAT_STATE 0 c = 0 → getF t GMB_CTX_STAT_STATE 0 c = 1))) ∧
       (v.toNat % 8 = 3 →
         (SMap.find w.gmbRuns c.val = none → exec (.gmbAbort q c v) s = done (gmbEnable w c)) ∧
         (∀ r, SMap.find w.gmbRuns c.val = some r → exec (.gmbAbort q c v) s =
           done (gmbEnable (gmbFail w c (r.desc % 2 ^ 32) r.start Status.cancelled.code 1) c))) ∧
       (v.toNat % 8 = 5 → exec (.gmbClear q c v) s =
         done (gmbEnable (if getF w GMB_CTX_STAT_STATE 0 c = 4 then setGmbState w c 0 else w) c))) ∧
     (∀ (q : Requester) (v : BitVec 32), Allowed s q cGMB 0 GMB_RNG_CTRL.off v.toNat → v.toNat % 2 = 1 →
       let w := stored s cGMB 0 GMB_RNG_CTRL.off v.toNat
       exec (.reseed q v) s = .next (replied (if getF w GMB_RNG_STAT_ENTROPY_OK 0 0 = 1 then wrapF w GMB_RNG_RESEEDS 0 0 1
         else bumpF w GMB_RNG_STAT_FAILS 0 0 1) q cGMB 0 GMB_RNG_CTRL.off)) ∧
     exec (.autoReseed true) s = .next (wrapF (setF s GMB_RNG_STAT_ENTROPY_OK 0 0 1) GMB_RNG_RESEEDS 0 0 1) ∧
     exec (.autoReseed false) s = .next (bumpF (setF s GMB_RNG_STAT_ENTROPY_OK 0 0 0) GMB_RNG_STAT_FAILS 0 0 1) ∧
     exec .entropyFail s = .next (raiseFor (setF s GMB_RNG_STAT_ENTROPY_OK 0 0 0) cGMB 0 4 .all))

/-- R383, R384, R389: a round starts when its start counter has reached it; a descriptor that R389 refuses, or a layout with
no room left, ends it with ADDRESS_INVALID and nothing committed. R386 to R392: a round with a failed member or a failed read
ends with that status and nothing committed. In greedy mode the drafts accepted are the leading ones of a branch that are the
top candidates of their rows; the branch chosen accepts most, the lowest on a tie; and the token after them is the top
candidate of the next row. -/
def Obligations.GambitRounds : Prop :=
  (∀ (c : Fin 8) (s : State),
     let n := SMap.get s.gmbStarted 0 c
     let lead := gmbLead s c
     let v := (getSync s (getF s GMB_CTX_START_SYNC 0 c)).visible s
     let ready := getF s GMB_CTX_CTRL_EN 0 c ≠ 0 ∧ getF s GMB_CTX_STAT_STATE 0 c < 2 ∧ SMap.find s.gmbRuns c.val = none ∧
       (∀ d ∈ smpMembers s lead, getF s SMP_STAT_STATE d 0 < 2) ∧ reached v (getF s GMB_CTX_START_STRIDE 0 c * (n + 1)) = true
     (¬ready → exec (.roundStart c) s = .next s) ∧
     (ready → ∀ t bs, devRead s (dieSite lead) (getF s GMB_CTX_DESC 0 c) 128 = .ok t bs →
       let d := ofBytesLE bs
       let u := { t with gmbStarted := SMap.set t.gmbStarted 0 c (n + 1) }
       let l := gmbLead u c
       (descBad d (smpGreedy u l) = true →
         exec (.roundStart c) s = .next (gmbFail u c (d % 2 ^ 32) (nowBeat u) Status.addressInvalid.code 1)) ∧
       (descBad d (smpGreedy u l) = false → ctxFull u c = true → exec (.roundStart c) s = .next
         (gmbFail (raiseFor u cGMB 0 2 (ctxBelongs u c)) c (d % 2 ^ 32) (nowBeat u) Status.addressInvalid.code 1)) ∧
       (descBad d (smpGreedy u l) = false → ctxFull u c = false →
         ∀ x rows, smpRows u l ((descRows d).getD 0) = .ok x rows → Completes (.roundStart c) s fun y =>
           SMap.find y.gmbRuns c = some ⟨n, nowBeat u, d, rows, 0, none⟩ ∧ getF y GMB_CTX_STAT_STATE 0 c = 2))) ∧
  (∀ (c : Fin 8) (s : State),
     (SMap.find s.gmbRuns c.val = none → exec (.roundEnd c) s = .next s) ∧
     (∀ r, SMap.find s.gmbRuns c.val = some r →
       let lead := gmbLead s c
       let top := fun b i => ((r.rows.getD (rowIdx r.desc b i) []).headD (0, 0)).2
       let good := fun b i => dDraft r.desc (draftIdx r.desc b (i + 1)) = top b i
       (∀ b a toks, r.chosen = some (b, a, toks) → exec (.roundEnd c) s = .next (gmbCommit s c r b a toks)) ∧
       (∀ e, r.chosen = none → setStatus s (smpMembers s lead) = some e →
         exec (.roundEnd c) s = .next (gmbFail s c (r.desc % 2 ^ 32) r.start e.code 1)) ∧
       (r.chosen = none → setStatus s (smpMembers s lead) = none → r.status ≠ 0 →
         exec (.roundEnd c) s = .next (gmbFail s c (r.desc % 2 ^ 32) r.start r.status 1)) ∧
       (r.chosen = none → setStatus s (smpMembers s lead) = none → r.status = 0 → getF s SMP_CTRL_EXT_IN lead 0 = 0 →
         (∀ row ∈ r.rows, rowAlive row = true) → smpGreedy s lead = true → 0 < dNb r.desc →
         ∃ b a toks, b < dNb r.desc ∧ a ≤ dLen r.desc b ∧ toks.length = a + 1 ∧
           (∀ i < a, good b i ∧ toks[i]? = some (top b i)) ∧ toks[a]? = some (top b a) ∧ (a < dLen r.desc b → ¬good b a) ∧
           (∀ b' < dNb r.desc, ∃ i ≤ a, (i = dLen r.desc b' ∨ (i < dLen r.desc b' ∧ ¬good b' i)) ∧ (b' < b → i < a)) ∧
           exec (.roundEnd c) s = .next (gmbCommit { setGmbState s c 3 with
             gmbRuns := SMap.insert s.gmbRuns c { r with chosen := some (b, a, toks) } } c
             { r with chosen := some (b, a, toks) } b a toks))))

/-! ## Power-on reset, bring-up, fuses (R400 to R411) -/

/-- R400, R410, R411, R417: power-on reset keeps the fuses, the images and the test record, and clears everything else, memory
with it; bring-up begins at step 1. An entry that was being blown is lost. A write of ADD queues an entry with its CHECK, or
is refused where the bank is full or the entry is malformed; entries are blown in order. R400 to R402, R490: a step of
bring-up completes once, after the steps that it depends on, and `MGT_BOOT_STAT` and `MGT_BOOT_MS` show it; a cause of failure
that belongs to it, no image to boot, no stack or no core left stops bring-up in FAILED. -/
def Obligations.PowerOnAndBringup : Prop :=
  (∀ (s : State),
     (∀ days orderly, Completes (.powerOnReset days orderly) s fun t =>
       t.mem = [] ∧ t.cores = State.reset.cores ∧ t.time = State.reset.time ∧ t.syncs = State.reset.syncs ∧
       t.fuseFactory = s.fuseFactory ∧ (s.fuseQueue = [] → t.fuseBank = s.fuseBank) ∧ t.fuseQueue = [] ∧
       t.image0 = s.image0 ∧ t.image1 = s.image1 ∧ t.pending = s.pending ∧ getF t MGT_BOOT_STAT_STEP 0 0 = 1 ∧
       getF t SEC_SVN_FLOOR 0 0 = getF s SEC_SVN_FLOOR 0 0 % 2 ^ SEC_SVN_FLOOR.width ∧
       (∀ r, s.testRec = some r → ∃ r', t.testRec = some r' ∧ r'.serial = r.serial ∧ r'.crc = r.crc ∧
         r'.age = r.age + (s.time.tempoNo - r.at_) + days * dayTempos ∧ r'.clean = (orderly || (bootDone s 1 && r.clean)))) ∧
     (∀ (q : Requester) (v : BitVec 32), Allowed s q cFUS 0 FUS_CTRL.off v.toNat → hasBit v.toNat 0 = true →
       let w := stored s cFUS 0 FUS_CTRL.off v.toNat
       let e := getF w FUS_ADD 0 0 % 2 ^ 56
       let bad := fuseMax ≤ w.fuseBank.length + w.fuseQueue.length ∨ fuseKind (e % 32) = false ∨ bitsOf e 7 5 ≠ 0 ∨
         bitsOf e 55 44 ≠ 0
       (bad → exec (.fuseAdd q v) s = .next (replied (raiseFor w cFUS 0 3 .noPart) q cFUS 0 FUS_CTRL.off)) ∧
       (¬bad → exec (.fuseAdd q v) s = .next (replied (fuseQueueAdd w (e + fuseCheck e * 2 ^ 56)) q cFUS 0 FUS_CTRL.off))) ∧
     (s.fuseQueue = [] → exec .fuseBlowDone s = .next s) ∧
     (∀ e rest, s.fuseQueue = e :: rest → Completes .fuseBlowDone s fun t => t.fuseBank = s.fuseBank ++ [e] ∧
       t.fuseQueue = rest ∧ getF t FUS_STAT_BUSY 0 0 = if rest = [] then 0 else 1)) ∧
  (∀ (step : Fin 6) (ms : Fin (2 ^ 20)) (found : List (Fin (2 ^ 56))) (fail : Fin 7) (r0 r1 : Bool) (s : State),
     let i : Instr := .bringupStepDone step ms found fail r0 r1
     let ready := step ≠ 0 ∧ bootDone s step = false ∧ getF s MGT_BOOT_STAT_STEP 0 0 ≠ 15 ∧
       (∀ k ∈ bootDeps step, bootDone s k = true) ∧ s.modRst ≠ 2 ∧ (step = 3 → stacksBusy s (List.range 16) = false)
     let ok := fail = 0 ∨ failStep fail ≠ step.val
     let shows := fun (t : State) => bootDone t step = true ∧ getF t MGT_BOOT_MS 0 (step.val - 1) = ms.val
     (¬ready → exec i s = .next s) ∧
     (ready → ¬ok → exec i s = .next (bootFailed s step fail)) ∧
     (ready → ok → step = 1 →
       ((bootImage s r0 r1).2 = false → exec i s = .next (bootFailed (bootImage s r0 r1).1 1 1)) ∧
       ((bootImage s r0 r1).2 = true → Completes i s shows)) ∧
     (ready → ok → step = 2 ∨ step = 4 → Completes i s shows) ∧
     (ready → ok → step = 3 →
       let t := bootStep s 3 ms (found.map (·.val))
       shows t ∧ exec i s = .next (if (List.range 8).all (stackFailed t) = true then bootFailed s 3 6 else t)) ∧
     (ready → ok → step = 5 →
       let t := bootStep s 5 ms (found.map (·.val))
       shows t ∧ exec i s = .next (if coreCount t = 0 then bootFailed s 5 5 else t)) ∧
     (∀ code, getF (bootFailed s step code) MGT_BOOT_STAT_STEP 0 0 = 15))

/-! ## The twins (R430 to R448) -/

/-- R434 to R438, R442, R448, R560: a report that names the active twin of a PAIRED pair castles it, one that names the
standby resynchronises it, and a mismatch that blames neither resynchronises the standby; both named, the pair restarts, as it
does when its heartbeat is late. The pin, which is timed only from step 1 of bring-up on (R560), and CASTLE castle a PAIRED
pair and are refused by any other. R440 to R444, R490: a resynchronised pair is PAIRED; a failed attempt counts, and past the
limit retires the standby. A restarted pair boots the image in force or the other slot's. An update starts on a PAIRED pair
with a valid slot, castles at its boundary once the standby is READY, and is given up on ABORT, its timeout or an overflow of
the journal. -/
def Obligations.Twins : Prop :=
  (∀ (n : Fin 2) (s : State),
     let st := pairSt s n
     let late := (getTwin s n).beat + getF s ARB_HB_PERIOD 0 0 ≤ s.time.tempoNo
     let castled := fun (t : State) => pairActive t n = 1 - pairActive s n ∧ pairSt t n = twResync ∧
       getF t ARB_LAST_FROM 0 0 = pairActive s n % 2 ∧ getF t ARB_LAST_PAIR 0 0 = n.val
     (∀ (mismatch : Bool) (a b : Fin 4),
       let act := if pairActive s n = 0 then a else b
       let sby := if pairActive s n = 0 then b else a
       (twRestart ≤ st → exec (.arbiterReport n mismatch a b) s = .next s) ∧
       (st = twPaired →
         (act ≠ 0 → sby = 0 → Completes (.arbiterReport n mismatch a b) s fun t => castled t ∧
           getF t ARB_LAST_CAUSE 0 0 = act.val) ∧
         (act = 0 → sby ≠ 0 → exec (.arbiterReport n mismatch a b) s = .next (setPair (arbEvent s n 2 1) n twResync)) ∧
         (act ≠ 0 → sby ≠ 0 → Completes (.arbiterReport n mismatch a b) s fun t => pairSt t n = twRestart) ∧
         (act = 0 → sby = 0 → exec (.arbiterReport n mismatch a b) s = .next (if mismatch then
           setPair (raiseFor (bumpF s ARB_DIVERGE 0 0 1) cARB 0 8 .noPart) n twResync else s)))) ∧
     exec (.heartbeatWrite n) s = .next (putTwin s n { getTwin s n with beat := s.time.tempoNo }) ∧
     (¬late → exec (.heartbeatTimeout n) s = .next s) ∧
     (twRestart ≤ st → exec (.managementRestart n) s = .next s) ∧
     (st < twRestart → (Completes (.managementRestart n) s fun t => pairSt t n = twRestart) ∧
       (late → exec (.heartbeatTimeout n) s = exec (.managementRestart n) s)) ∧
     (∀ (q : Requester) (v : BitVec 32), Allowed s q cARB 0 ARB_CTRL_CASTLE.off v.toNat →
       let w := stored s cARB 0 ARB_CTRL_CASTLE.off v.toNat
       let done := fun (t : State) => Host.Outcome.next (φ := Fault) (ρ := Refusal) (replied t q cARB 0 ARB_CTRL_CASTLE.off)
       (v.toNat % 4 = 1 → exec (.arbCastle q v) s = done (if pairSt w (getF w ARB_CTRL_PAIR 0 0) = twPaired then
         castle w (getF w ARB_CTRL_PAIR 0 0) 5 else raiseFor w cARB 0 10 .noPart)) ∧
       (v.toNat % 4 = 2 → exec (.arbRestart q v) s = done (restartPair w (getF w ARB_CTRL_PAIR 0 0)))) ∧
     (∀ ns, let p := setF s ARB_FORCE_STAT_PIN 0 0 1
       (ns < 1000 ∨ 100000000 ≤ ns ∨ pinTimed s = false → exec (.forcePin ns) s = .next p) ∧
       (pinTimed s = true → 1000 ≤ ns → ns ≤ 10000000 → getF s ARB_CFG_FORCE_EN 0 0 ≠ 1 →
         exec (.forcePin ns) s = .next (bumpF p ARB_FORCE_STAT_PULSES 0 0 1)) ∧
       (pinTimed s = true → 1000 ≤ ns → ns ≤ 10000000 → getF s ARB_CFG_FORCE_EN 0 0 = 1 → pairSt s 0 = twPaired → pairSt s 1 = twPaired →
         Completes (.forcePin ns) s fun t => pairActive t n = 1 - pairActive s n ∧ pairSt t n = twResync)) ∧
     (pinTimed s = true → getF s ARB_CFG_FORCE_EN 0 0 = 1 → st < twRestart → Completes .forcePinRestart s fun t => pairSt t n = twRestart ∧
       getF t ARB_FORCE_STAT_PIN 0 0 = 0)) ∧
  (∀ (s : State),
     (∀ n : Fin 2,
       (pairSt s n ≠ twResync → exec (.resyncDone n) s = .next s ∧ exec (.resyncAttemptFail n) s = .next s) ∧
       (pairSt s n = twResync →
         (Completes (.resyncDone n) s fun t => pairSt t n = twPaired ∧ (getTwin t n).pairedAt = s.time.tempoNo ∧
           (∀ u, s.update = some u → u.pair = n → getF s ARB_UPD_STAT_PHASE 0 0 = 5 →
             t.update = none ∧ getF t ARB_UPD_STAT_PHASE 0 0 = 6)) ∧
         (let a := satAdd 8 (getF s ARB_PAIR_STAT_ATTEMPTS 0 n) 1
          Completes (.resyncAttemptFail n) s fun t => getF t ARB_PAIR_STAT_ATTEMPTS 0 n = a ∧
           pairSt t n = if getF s ARB_CFG_RESYNC_MAX 0 0 < a then twSolo else twResync)) ∧
       exec (.attemptsReset n) s = .next (if pairSt s n = twPaired ∧ (getTwin s n).pairedAt + dayTempos ≤ s.time.tempoNo then
         setF s ARB_PAIR_STAT_ATTEMPTS 0 n 0 else s) ∧
       (∀ (able r0 r1 : Bool),
         (pairSt s n ≠ twRestart → exec (.restartDone n able r0 r1) s = .next s) ∧
         (pairSt s n = twRestart →
           ((bootImage s r0 r1).2 = false ∨ able = false → Completes (.restartDone n able r0 r1) s fun t =>
             pairSt t n = twFailed) ∧
           ((bootImage s r0 r1).2 = true → able = true → Completes (.restartDone n able r0 r1) s fun t => pairSt t n =
             if getF s ARB_PAIR_STAT_A_OK 0 n = 1 ∧ getF s ARB_PAIR_STAT_B_OK 0 n = 1 then twPaired else twSolo)))) ∧
     (∀ (q : Requester) (v : BitVec 32), Allowed s q cARB 0 ARB_UPD_CTRL_START.off v.toNat →
       let w := stored s cARB 0 ARB_UPD_CTRL_START.off v.toNat
       let done := fun (t : State) => Host.Outcome.next (φ := Fault) (ρ := Refusal) (replied t q cARB 0 ARB_UPD_CTRL_START.off)
       let n := getF w ARB_UPD_CTRL_PAIR 0 0
       let slot := getF w ARB_UPD_CTRL_SLOT 0 0
       let refused := s.update ≠ none ∨ pairSt w n ≠ twPaired ∨ getF w (imgRes slot) 0 0 ≠ 1 ∨
         -1000000 < toSigned 64 ((w.time.count + 2 ^ 64 - getF w ARB_UPD_AT 0 0) % 2 ^ 64)
       (v.toNat % 4 = 1 →
         (refused → exec (.updateStart q v) s = done (arbEvent (setF w ARB_UPD_STAT_REASON 0 0 7) n 7 6)) ∧
         (¬refused → Completes (.updateStart q v) s fun t => t.update = some ⟨n, slot, s.time.tempoNo⟩ ∧
           getF t ARB_UPD_STAT_PHASE 0 0 = 1 ∧ getF t ARB_UPD_CTRL_READY 0 0 = 0 ∧ pairSt t n = twUpdating)) ∧
       (v.toNat % 4 = 2 → exec (.updateAbort q v) s = done (updGiveUp w 1))) ∧
     (s.update = none → exec .updateReady s = .next s ∧ exec .updateCastle s = .next s ∧ exec .updateTimeout s = .next s ∧
       exec .journalOverflow s = .next s) ∧
     (∀ u, s.update = some u →
       let phase := getF s ARB_UPD_STAT_PHASE 0 0
       let due := atBoundary s = true ∧ 0 ≤ beatsSince s (getF s ARB_UPD_AT 0 0)
       (phase = 1 ∨ phase = 2 → exec .updateReady s =
         .next (setF (setF s ARB_UPD_CTRL_READY 0 0 1) ARB_UPD_STAT_PHASE 0 0 3)) ∧
       (¬due → exec .updateCastle s = .next s) ∧
       (pairSt s u.pair = twUpdating → due → phase = 3 → Completes .updateCastle s fun t =>
         pairActive t u.pair = 1 - pairActive s u.pair ∧ getF t SEC_IMG_STAT_IN_FORCE 0 0 = u.slot % 2 ∧
         getF t ARB_UPD_STAT_PHASE 0 0 = 5) ∧
       (pairSt s u.pair = twUpdating → due → phase ≠ 3 → exec .updateCastle s = .next (resync (updAbort s 2) u.pair)) ∧
       (pairSt s u.pair = twUpdating → exec .journalOverflow s = .next (resync (updAbort s 4) u.pair) ∧
         (u.start + 1000 * getF s ARB_UPD_TMO 0 0 ≤ s.time.tempoNo →
           exec .updateTimeout s = .next (resync (updAbort s 3) u.pair))) ∧
       (s.time.tempoNo < u.start + 1000 * getF s ARB_UPD_TMO 0 0 → exec .updateTimeout s = .next s)))

/-! ## Power (R449 to R455) -/

/-- R450, R462: an input out of its range, but not beyond its limits, is counted and raised once, and a module emergency stop
begins once, with its cause. R452: at a boundary the governor admits the requests at the head of its queue whose steps fit the
current and the power left; a head that exceeds the whole current is admitted alone, and its excess is owed. R453 to R455:
above the cap for two tempos the die named goes one step down. A write of `PWR_DIE_CLK` or `PWR_HALF_CLK` makes every ratio
follow: a lower one takes effect by its own command for a die and at once for a half, and a higher one asks the governor for a
step. -/
def Obligations.GovernorCommands : Prop :=
  (∀ (s : State),
     (∀ mv : Fin 65536,
       let out := (34000 ≤ mv.val ∧ mv.val < 36000) ∨ (44000 < mv.val ∧ mv.val ≤ 46000)
       (out → s.gov.inputBad = false → exec (.inputRange mv) s = .next
         (raise (bumpF { s with gov := { s.gov with inputBad := true } } PWR_IN_FAULT 0 0 1) cPWR 0 1)) ∧
       (¬out ∨ s.gov.inputBad = true → exec (.inputRange mv) s = .next s)) ∧
     (s.gov.inputBad = true → exec .inputBackInRange s =
       .next { s with gov := { s.gov with inputBad := false, backAt := s.time.tempoNo } }) ∧
     (s.gov.inputBad = false → exec .inputBackInRange s = .next s) ∧
     (∀ cause : Fin 5, cause = 1 ∨ cause = 2 ∨ cause = 4 →
       (s.therm.estop.isSome = true → exec (.moduleEstop cause) s = .next (if cause = 4 ∨ s.gov.inputBad = true then s
         else bumpF { s with gov := { s.gov with inputBad := true } } PWR_IN_FAULT 0 0 1)) ∧
       (s.therm.estop = none → Completes (.moduleEstop cause) s fun t => t.therm.estop = some s.time.tempoNo ∧
         getF t PWR_ESTOP_CAUSE 0 0 = cause.val)) ∧
     (∀ (q : Requester) (v : BitVec 32), Allowed s q cPWR 0 PWR_ESTOP_GO.off v.toNat → hasBit v.toNat 0 = true →
       let w := stored s cPWR 0 PWR_ESTOP_GO.off v.toNat
       exec (.estopGo q v) s = .next (replied (if s.therm.estop.isSome = true then w else
         estopStep (setF { w with therm := { w.therm with estop := some w.time.tempoNo } } PWR_ESTOP_CAUSE 0 0 3) 0)
         q cPWR 0 PWR_ESTOP_GO.off)) ∧
     (∀ (mv : Fin 65536) (ma : Fin (2 ^ 20)) (w : Fin 65536),
       (atBoundary s = false ∨ s.gov.lastAt = s.time.tempoNo + 1 → exec (.governorAdmit mv ma w) s = .next s) ∧
       (atBoundary s = true → s.gov.lastAt ≠ s.time.tempoNo + 1 → s.gov.inputBad = true → s.gov.atSource = [] →
         Completes (.governorAdmit mv ma w) s fun t => t.gov.queue = s.gov.queue ∧ t.gov.lastAt = s.time.tempoNo + 1 ∧
           getF t PWR_GOV_STAT_ADMITTED 0 0 = 0 ∧ getF t PWR_IN_V 0 0 = mv.val ∧ t.cores = s.cores) ∧
       (atBoundary s = true → s.gov.lastAt ≠ s.time.tempoNo + 1 → exec (.governorAdmit mv ma w) s = .next (governorAdmit s mv ma w))) ∧
     (∀ mv slew clean cur pow queue,
       let p := takeHead s mv slew true clean cur pow queue
       let sum := fun (f : Nat → Nat) => (p.1.map fun r => f (govStep s r.kind)).sum
       (∃ n, p.1 = queue.take n) ∧ sum (stepPower s) ≤ pow ∧
       (p.2 = 0 → sum (fun m => stepCurrent s m mv) ≤ cur) ∧
       (p.2 ≠ 0 → clean = true ∧ p.1.length = 1 ∧ sum (fun m => stepCurrent s m mv) = slew + p.2))) ∧
  (∀ (s : State),
     (∀ d : Fin 8,
       (s.gov.overCap < 2 → exec (.capReached d) s = .next s) ∧
       (2 ≤ s.gov.overCap → Completes (.capReached d) s fun t => t.gov.overCap = 0 ∧
         SMap.get t.ratios 0 (8 + d) = min 2 (SMap.get s.ratios 0 (8 + d) + 1))) ∧
     (∀ (q : Requester) (v : BitVec 32), Allowed s q cPWR 0 PWR_DIE_CLK.off v.toNat →
       exec (.ratioRequest q v) s = .next (replied (forAll (List.range 8) (setF (stored s cPWR 0 PWR_DIE_CLK.off v.toNat)
         PWR_DIE_CLK 0 0 (((List.range 8).map fun d => min 2 (v.toNat / 4 ^ d % 4) * 4 ^ d).sum)) noteRatio)
         q cPWR 0 PWR_DIE_CLK.off)) ∧
     (∀ (q : Requester) (v : BitVec 32), Allowed s q cPWR 0 PWR_HALF_CLK_WEST_REQ.off v.toNat →
       let w := stored s cPWR 0 PWR_HALF_CLK_WEST_REQ.off v.toNat
       exec (.halfRatioRequest q v) s = .next (replied (followHalf (followHalf w 0) 1) q cPWR 0 PWR_HALF_CLK_WEST_REQ.off)) ∧
     (∀ d,
       (getF s CDI_CLK_RATIO d 0 < dieWant s d → noteRatio s d = s) ∧
       (dieWant s d < getF s CDI_CLK_RATIO d 0 → govHas s (fun k => k == .dieRatio d) = false →
         noteRatio s d = govRequest s (.dieRatio d))) ∧
     (∀ h, h < 2 →
       (getF s (halfField h) 0 0 < halfWant s h → halfWant s h < 4 →
         getF (followHalf s h) (halfField h) 0 0 = halfWant s h) ∧
       (halfWant s h < getF s (halfField h) 0 0 → govHas s (fun k => k == .halfRatio h) = false →
         followHalf s h = govRequest s (.halfRatio h))))

/-! ## Heat (R457 to R463) -/

/-- R457 to R463: the round, in a tempo whose count is a multiple of 2,000, takes the readings, finds levels, stops and
maxima, gives ratios back, and starts the counts of the next one; a round that is late raises ROUND_LATE. The fast check runs
once at a boundary. A site that is to stop is absorbed and parked at its drain limit; its stop ends when it is cool and calm,
and is refused with an event when it is not. -/
def Obligations.HeatAndStops : Prop :=
  ∀ (s : State),
    (∀ (late : Bool) readings lines powers,
      let n := s.time.tempoNo + 1 - s.therm.lastRound
      let may := atBoundary s = true ∧ s.time.count % 2000 = 0 ∧ managerDown s 0 = false
      (¬may → exec (.housekeepingRound late readings lines powers) s = .next s) ∧
      (may → exec (.housekeepingRound true readings lines powers) s =
        .next (raise s cTHM 0 7)) ∧
      (may → s.therm.lastRound = s.time.tempoNo + 1 → exec (.housekeepingRound false readings lines powers) s = .next s) ∧
      (may → s.therm.lastRound ≠ s.time.tempoNo + 1 →
        let chans := readings.foldl (fun m r => if chHeld s r.1 = true ∨ SMap.get s.therm.failed false r.1 = true then m
          else SMap.insert m r.1 (r.2.1.val * 2 ^ 16 + r.2.2.toNat)) s.therm.chans
        let t := { s with therm := { s.therm with chans := chans, rise := [], lastRound := s.time.tempoNo + 1 } }
        let t := roundRestore (roundHeat t s.therm.chans n)
        let t := forAll (List.range 6) t fun t i =>
          roundSource t i ((lines.filter fun l => l.1 == i).map fun l => (l.2.1.val, l.2.2.val))
        let t := forAll (List.range 16) t fun t k =>
          roundPort t k ((powers.filter fun l => l.1 == k).map fun l => (l.2.1.val, l.2.2.val))
        let t := wrapF (roundCounts t) THM_ROUND_CNT 0 0 1
        exec (.housekeepingRound false readings lines powers) s =
          .next (raise (if flowLow t then estopBegin t 4 else t) cTHM 0 6))) ∧
    (atBoundary s = false ∨ s.therm.fastAt = s.time.tempoNo + 1 → exec .thermalFastCheck s = .next s) ∧
    (atBoundary s = true → s.therm.fastAt ≠ s.time.tempoNo + 1 → exec .thermalFastCheck s = .next
      (forAll (List.range 16) { s with therm := { s.therm with fastAt := s.time.tempoNo + 1 } } fun t x =>
        let h := (toSigned 16 (getF t PRT_HEAT_RATE_RATE x 0) :: SMap.get t.therm.heat [] x).take 15
        let t := applyLevel { t with therm := { t.therm with heat := SMap.set t.therm.heat [] x h } } x
        match SMap.find t.therm.haltAt x with
        | some b => if b + getF t THM_FAST_STOP_WAIT 0 0 ≤ t.time.tempoNo + 1 ∧ 2 ≤ levelOf t x then siteStop t x false else t
        | none => t)) ∧
    (∀ u < 16, s.calSlots = [] → getF s THM_LEVEL 0 0 < 2 ^ 32 → SMap.get s.therm.slow 0 u ≤ 3 →
      levelOf (applyLevel s u) u = max (SMap.get s.therm.slow 0 u) (fastLevel s u) ∧
      ∀ x < 16, x ≠ u → levelOf (applyLevel s u) x = levelOf s x) ∧
    (∀ site : Fin 16,
      (SMap.find s.stops site = none → exec (.stopDrainLimit site) s = .next s) ∧
      (∀ r, SMap.find s.stops site = some r →
        (atBoundary s = false ∨ r.parked = true ∨ s.time.tempoNo < r.tempo0 + r.drain →
          exec (.stopDrainLimit site) s = .next s) ∧
        (atBoundary s = true → r.parked = false → r.tempo0 + r.drain ≤ s.time.tempoNo →
          let t := siteUnassigned (govDrop (absorbSite s site .fenced) (govOfSite site)) site
          exec (.stopDrainLimit site) s = .next { t with stops := SMap.insert t.stops site { r with parked := true } }))) ∧
    (∀ (q : Requester) (v : BitVec 32), Allowed s q cTHM 0 THM_STOP_CLR.off v.toNat →
      let w := stored s cTHM 0 THM_STOP_CLR.off v.toNat
      let asked := (List.range 16).filter fun x => hasBit v.toNat x && siteFenced w x
      let done := fun (t : State) => Host.Outcome.next (φ := Fault) (ρ := Refusal) (replied t q cTHM 0 THM_STOP_CLR.off)
      (asked = [] → exec (.stopClear q v) s = done w) ∧
      (∀ x, asked = [x] → exec (.stopClear q v) s = done (if stopCool w x = true then stopEnd w x else raise w cTHM 0 8)))

/-! ## Calibration (R464 to R469) -/

/-- R464 to R467: the standing window opens at every site at its tempo. A slot starts at a boundary inside a window where its
item exists and nothing is in its way, and ends with the outcome of its two passes: the mean where they repeat, one of them
where it alone is plausible, and otherwise a refusal, which leaves the taps as they are. R275, R467, R468: an item is stale
once its last accepted result is older than its limit, or its taps are extrapolated at its present temperature, and not
otherwise; staleness is counted. -/
def Obligations.CalibrationCommands : Prop :=
  (∀ (s : State),
     exec .calWindowOpen s = .next (if atBoundary s = true ∧ managerDown s 0 = false ∧ getF s CAL_CTRL_STANDING 0 0 ≠ 0 ∧
       s.time.count % getF s CAL_WIN_PERIOD 0 0 = getF s CAL_WIN_OFS 0 0 then
       forAll (List.range 16) s fun t x => openWindow t x (getF t CAL_CTRL_CLASSES 0 0) (getF t CAL_WIN_LEN 0 0) else s) ∧
     (∀ (cls : Fin 4) (site : Fin 16) (item : Fin 4096),
       let may := atBoundary s = true ∧ managerDown s 0 = false ∧ calItem s cls site item = true ∧ slotRoom s cls site item = true
       (¬may → exec (.calSlotStart cls site item) s = .next s) ∧
       (may → cls = 0 → exec (.calSlotStart cls site item) s = .next (ringSlot s site item)) ∧
       (may → cls = 1 → exec (.calSlotStart cls site item) s = .next (portSlot s site item)) ∧
       (may → cls = 2 → exec (.calSlotStart cls site item) s = .next (laneSlot s site item)) ∧
       (may → cls = 3 → Completes (.calSlotStart cls site item) s fun t =>
         t.calSlots = s.calSlots ++ [⟨3, site, item, s.time.tempoNo, none, none, false⟩])) ∧
     (∀ (site : Fin 16) (item : Fin 4096) (near far : Measured),
       let found := s.calSlots.find? fun x => x.cls == 3 && x.site == site.val && x.item == item.val
       (found = none → exec (.calSlotDone 3 site item near far) s = .next s) ∧
       (∀ x, found = some x →
         (atBoundary s = false ∨ s.time.tempoNo < x.from_ + 1 → exec (.calSlotDone 3 site item near far) s = .next s) ∧
         (atBoundary s = true → x.from_ + 1 ≤ s.time.tempoNo → x.other = none → x.circ = none → x.free = false →
           let q := calResult s 3 site item none near
           exec (.calSlotDone 3 site item near far) s = .next (raise (slotOver q.1 x q.2) cCAL 0 0)))) ∧
     (∀ cls site item (m : Measured),
       let n := calTaps cls
       let a := (m.p1.map fun x => x.toInt).take n
       let b := (m.p2.map fun x => x.toInt).take n
       let set := (tapsAt s cls site item m.temp.toInt).1
       let same := a.length = n ∧ b.length = n ∧ ∀ k < n, repeats cls k (a.getD k 0) (b.getD k 0) = true
       let good := fun (p : List Int) => p.length = n ∧ set.length = n ∧
         ∀ k < n, plausible s cls site k (set.getD k 0) (p.getD k 0) = true
       (same → judge s cls site item m = ((a.zip b).map fun p => (p.1 + p.2) / 2, 1)) ∧
       (¬same → good a → ¬good b → judge s cls site item m = (a, 2)) ∧
       (¬same → ¬good a → good b → judge s cls site item m = (b, 2)) ∧
       (¬same → (good a ↔ good b) → (judge s cls site item m).2 = 3 ∧
         (calResult s cls site item none m).2 = 3 ∧
         (SMap.get s.calFails 0 (calKey cls site item) + 1 < getF s CAL_FAIL_MAX 0 0 →
           (calResult s cls site item none m).1.calSets = s.calSets)))) ∧
  (∀ (s : State),
     (∀ (site : Fin 16) (rx : Bool) (n : Fin 256), let item := (if rx then 256 else 0) + n.val
       let old := calItem s 0 site item = true ∧ calLimit s 0 site < calAge s 0 site item
       (old → Completes (.calStale site rx n) s fun t => SMap.get t.calStale false (calKey 0 site item) = true) ∧
       (¬old → exec (.calStale site rx n) s = .next s)) ∧
     (∀ (cls : Fin 4) (site : Fin 16) (item : Fin 4096) (temp : BitVec 20),
       let stale := calItem s cls site item = true ∧ (calLimit s cls site < calAge s cls site item ∨
         (tapsAt s cls site item temp.toInt).2 = true)
       let k := calKey cls site item
       (¬stale → exec (.calItemStale cls site item temp) s = .next s) ∧
       (stale → SMap.get s.calStale false k = true → exec (.calItemStale cls site item temp) s = .next s) ∧
       (stale → SMap.get s.calStale false k = false → Completes (.calItemStale cls site item temp) s fun t =>
         SMap.get t.calStale false k = true ∧ (getF s CAL_STAT_STALE 0 0 + 1 < 2 ^ CAL_STAT_STALE.width →
           getF t CAL_STAT_STALE 0 0 = getF s CAL_STAT_STALE 0 0 + 1))))

/-! ## The host port (R476 to R486, R501 to R503, R516, R557) -/

/-- R478, R479, R503: an access to a window of BAR2 that holds injects the request that the window stands for; a poisoned one
is dropped, one in a module reset or outside its sizes or base completes with a status, and a failed read returns all-ones.
R483: at a scan instant an area is read once; the entries whose phase is valid become items in order, and a read that fails or
takes longer than 10 µs takes none. -/
def Obligations.HostWindows : Prop :=
  ∀ (s : State),
    (∀ q x bytes w,
      let cmd := fun poisoned => Instr.bar2Access q x bytes poisoned w
      let size := if w.isSome then 0 else bytes.val
      (bar2Window q x = none → exec (cmd false) s = .next s ∧ exec (cmd true) s = .next s) ∧
      (∀ p y, bar2Window q x = some (p, y) →
        let good := bar2Size w.isSome y bytes = true ∧ bar2Base s p = true
        let ga := getF s HST_W2_BASE 0 p + y
        exec (cmd true) s = .next (bar2Done (barDrop (draw s).2 (funcNo q) x (draw s).1 true) (funcNo q) x size .ok (2 ^ 512 - 1)) ∧
        (2 ≤ s.modRst → exec (cmd false) s = .next (bar2Done s (funcNo q) x size .targetResetting (2 ^ 512 - 1))) ∧
        (s.modRst < 2 → ¬good → exec (cmd false) s = .next (bar2Done s (funcNo q) x size .accessDenied (2 ^ 512 - 1))) ∧
        (s.modRst < 2 → good → exec (cmd false) s = .next
          (inject s (gaSite ga) (bar2Pkt ga bytes (w.map (·.val))) (.bar2 (funcNo q) x size)))) ∧
      (∀ f o n st v, st.success = false → n ≠ 0 → (bar2Done s f o n st v).out.head? =
        some (.bar2 f (2 ^ (8 * n) - 1) .ok))) ∧
    (∀ p : Fin 8, let a := getArea s p
      (scanInstant s p = false ∨ a.lastScan = nowBeat s + 1 ∨ 2 ≤ s.modRst → exec (.hostScan p) s = .next s) ∧
      (scanInstant s p = true → a.lastScan ≠ nowBeat s + 1 → s.modRst < 2 →
        exec (.hostScan p) s = .next (mbxPush (scanArea (hostFlush s p) p) p)) ∧
      (a.scan = none → exec (.scanReadDone p []) s = .next s ∧ exec (.scanReadTimeout p true) s = .next s) ∧
      (∀ t h n es, a.scan = some (t, h, n) →
        (t + 16000 < nowClk s → exec (.scanReadDone p es) s = .next (scanFailed s p)) ∧
        (nowClk s ≤ t + 16000 → areaState s p = saActive →
          let taken := ((es.map (·.val)).take n).takeWhile fun e => bitOf e 8 == getF s HST_SQ_STAT_PHASE 0 p
          let items := (List.range taken.length).map fun k => itemOf (a.next + k) (taken.getD k 0)
          let t := putArea s p { a with scan := none, items := a.items ++ items, next := a.next + taken.length }
          exec (.scanReadDone p es) s = .next (hostFlush (badItems (headMoves t p taken.length) p 256) p)) ∧
        exec (.scanReadTimeout p true) s = .next (scanFailed s p) ∧
        (t + 16000 ≤ nowClk s → exec (.scanReadTimeout p false) s = .next (scanFailed s p)) ∧
        (nowClk s < t + 16000 → exec (.scanReadTimeout p false) s = .next s)))

/-- R482 to R484: the next item of an area starts with its operation: NOP completes, a sync item is performed at its object's
site and a copy item starts its table entry, each only for the partition's own site; a register item is checked as the area's
owner; FENCE waits until every earlier item has completed. What has completed is then written. -/
def Obligations.HostItems : Prop :=
  ∀ (p : Fin 8) (s : State),
    let done := fun (t : State) => Host.Outcome.next (φ := Fault) (ρ := Refusal) (hostFlush (badItems t p 256) p)
    (∀ i, nextItem s p = some i →
      let ends := fun st => done (completeItem s p i.idx st 0)
      let begun := beginItem s p i.idx
      let q : Requester := if vfEnabled s p then .vf p else .pf
      let obj := i.a0 % 65536
      let site := i.a0 % 16
      let idx := bitsOf i.a0 25 16
      (i.op = 0 → exec (.hostNop p) s = ends .ok) ∧
      (i.op = 1 → exec (.hostSyncAdd p) s = if partOf s (syncSite obj) = some p.val then
        done (inject begun (syncSite obj) (syncPkt s opSYNC_ADD obj (i.a1 % 2 ^ 48)) (.host p i.idx)) else ends .accessDenied) ∧
      (i.op = 2 → exec (.hostSyncSet p) s = if partOf s (syncSite obj) = some p.val then
        done (inject begun (syncSite obj) (syncPkt s opSYNC_SET obj (i.a1 % 2 ^ 48)) (.host p i.idx)) else ends .accessDenied) ∧
      (i.op = 3 →
        (partOf s site ≠ some p.val → exec (.hostCopyStart p) s = ends .accessDenied) ∧
        (∀ st, partOf s site = some p.val → siteStatus s site = some st → exec (.hostCopyStart p) s = ends st) ∧
        (partOf s site = some p.val → siteStatus s site = none →
          let waits := (descReq (copyDesc s site idx)).units ≠ 0 ∧ tableMay s site idx = none
          (descOk s site idx = false →
            exec (.hostCopyStart p) s = done (completeItem (tableStart s site idx) p i.idx .addressInvalid 0)) ∧
          (descOk s site idx = true → ¬waits →
            exec (.hostCopyStart p) s = done (completeItem (tableStart s site idx) p i.idx .ok 0)) ∧
          (descOk s site idx = true → waits → exec (.hostCopyStart p) s = done s))) ∧
      (i.op = 4 → let r := regAccess begun q true (i.a0 % 2 ^ 28) 4 (some (i.a1 % 2 ^ 32))
        exec (.hostRegWrite p) s = done (hostItemDone r.1 p i.idx r.2.1 0)) ∧
      (i.op = 5 → let r := regAccess begun q true (i.a0 % 2 ^ 28) 4 none
        exec (.hostRegRead p) s = done (hostItemDone r.1 p i.idx r.2.1 (r.2.2 % 2 ^ 32))) ∧
      (i.op = 6 → let earlier := (getArea s p).items.filter fun j => decide (j.idx < i.idx)
        ((∀ j ∈ earlier, itemDone s p j.idx = true) → exec (.hostFence p) s = ends .ok) ∧
        ((∃ j ∈ earlier, itemDone s p j.idx = false) → exec (.hostFence p) s = done s)) ∧
      (i.op ≠ 0 → exec (.hostNop p) s = .next s)) ∧
    (nextItem s p = none → exec (.hostNop p) s = .next s ∧ exec (.hostFence p) s = .next s)

/-- R481, R484, R485, R501: EN of an area restarts it at head 0 and phase 1, ACTIVE or, with the link down, PAUSED; a write of
the completion head lets held completions go; EN of a mailbox takes its base count. R501, R502, R557: the link goes down with
its areas PAUSED, and up with its width, speed and functions; a function reset disables the areas of its function. R516: a
vector that is ready is sent at a boundary and not again before its interval. -/
def Obligations.HostLink : Prop :=
  ∀ (s : State),
    (∀ (q : Requester) (p : Fin 8) (v : BitVec 32),
      (Allowed s q cHST 0 (0x108 + 0x40 * p.val) v.toNat → hasBit v.toNat 31 = true →
        let w := stored s cHST 0 (0x108 + 0x40 * p.val) v.toNat
        let t := cqDiscard (hostFlush w p) p
        let t := setF (setF t HST_SQ_STAT_HEAD 0 p 0) HST_SQ_STAT_PHASE 0 p 1
        let t := putArea t p { getArea t p with scan := none }
        exec (.sqEnable q p v) s = .next (replied (setF t HST_SQ_STAT_STATE 0 p
          (if getF t HST_LINK_STATE 0 0 = 2 then saActive else saPaused)) q cHST 0 (0x108 + 0x40 * p.val))) ∧
      (Allowed s q cHST 0 (0x11C + 0x40 * p.val) v.toNat → exec (.cqHeadWrite q p v) s = .next
        (replied (hostFlush (stored s cHST 0 (0x11C + 0x40 * p.val) v.toNat) p) q cHST 0 (0x11C + 0x40 * p.val))) ∧
      (Allowed s q cHST 0 (0x12C + 0x40 * p.val) v.toNat → hasBit v.toNat 31 = true →
        let w := stored s cHST 0 (0x12C + 0x40 * p.val) v.toNat
        exec (.mailboxEnable q p v) s = .next (replied (setF (putArea w p { getArea w p with
          mbxBase := (getSync w (getF w HST_MBX_CFG_SYNC 0 p)).val, pushed := 0 }) HST_MBX_CNT_PUSHED 0 p 0)
          q cHST 0 (0x12C + 0x40 * p.val)))) ∧
    (getF s HST_LINK_STATE 0 0 = 0 → exec .linkDown s = .next s ∧ exec (.perst true) s = .next s) ∧
    (getF s HST_LINK_STATE 0 0 ≠ 0 → exec (.perst true) s = exec .linkDown s ∧ Completes .linkDown s fun t =>
      getF t HST_LINK_STATE 0 0 = 0 ∧ ∀ p < 8, (getArea t p).scan = none ∧ (getArea t p).items = (getArea s p).items ∧
        areaState t p = if areaState s p = saActive then saPaused else areaState s p) ∧
    (∀ (width speed : Fin 16) (vfs : BitVec 8),
      (width = 1 ∨ width = 2 ∨ width = 4 → 1 ≤ speed → speed ≤ 6 → Completes (.linkUp width speed vfs) s fun t =>
        getF t HST_LINK_STATE 0 0 = 2 ∧ getF t HST_LINK_WIDTH 0 0 = width.val ∧ getF t HST_LINK_SPEED 0 0 = speed.val ∧
        ∀ p < 8, vfEnabled t p = hasBit vfs.toNat p) ∧
      (speed = 0 → exec (.linkUp width speed vfs) s = .next s)) ∧
    (∀ f : Fin 9, (∀ p < 8, areaOwner s p ≠ f) → Completes (.flr f) s fun t => t = raiseFor (latchesCleared s (1 + f)) cHST 0 7
      (if f = 0 then .noPart else .part (f.val - 1)) ∧ (∀ p < 8, getArea t p = getArea s p) ∧
      ∀ q c i o, Requester.no q = 1 + f.val → c < 32 → i < 2048 → o < 4096 →
        SMap.get t.hiLatch 0 (pairKey q c i o) = 0 ∧ SMap.get t.hold 0 (pairKey q c i o) = 0) ∧
    (∀ (f : Fin 9) (p : Fin 8), areaOwner s p = f → Completes (.flr f) s fun t =>
      areaState t p = saDisabled ∧ (getArea t p).scan = none) ∧
    exec (.perst false) s = .next (forAll (List.range 9) s fun t f => flr t f false) ∧
    (∀ (f : Fin 9) (vec : Fin 32),
      let v := f.val * 32 + vec.val
      let last := SMap.get s.msix.last 0 v
      let may := atBoundary s = true ∧ v ∈ s.msix.ready ∧ (last = 0 ∨ last + getF s ERR_MSIX_MOD 0 0 ≤ s.time.tempoNo + 1)
      (may → Completes (.msixSend f vec false) s fun t => t.out = .msix f vec :: s.out ∧ v ∉ t.msix.ready ∧
        SMap.get t.msix.last 0 v = s.time.tempoNo + 1) ∧
      (¬may → exec (.msixSend f vec false) s = .next s) ∧ exec (.msixSend f vec true) s = .next s)

/-! ## Images, debug, attestation, the sideband (R487 to R500) -/

/-- R489 to R492, R496: VERIFY begins a check of a slot unless one runs, and its end gives the slot its result; an image
update goes to the slot not in force and is verified. SVN_COMMIT raises the floor to the running version, and only for the PF.
In AUTH an unlock record that holds opens debug access; any other, or one in LOCKED, makes a new nonce. -/
def Obligations.Images : Prop :=
  ∀ (s : State),
    (∀ (q : Requester) (v : BitVec 32), Allowed s q cSEC 0 SEC_IMG_CTRL_VERIFY.off v.toNat →
      let w := stored s cSEC 0 SEC_IMG_CTRL_VERIFY.off v.toNat
      let run := getF w SEC_SVN_RUNNING 0 0
      let done := fun (t : State) => Host.Outcome.next (φ := Fault) (ρ := Refusal) (replied t q cSEC 0 SEC_IMG_CTRL_VERIFY.off)
      (hasBit v.toNat 0 = true → hasBit v.toNat 2 = false →
        exec (.imageVerify q v) s = done (if s.verify.isSome then w else { w with verify := some (bitOf v.toNat 1) })) ∧
      (hasBit v.toNat 0 = false → hasBit v.toNat 2 = true →
        (q = .pf → getF w SEC_SVN_FLOOR 0 0 < run → exec (.svnCommit q v) s =
          done (raiseFor (raiseFor (setF w SEC_SVN_FLOOR 0 0 run) cSEC 0 2 .noPart) cSEC 0 5 .noPart)) ∧
        (q ≠ .pf ∨ run ≤ getF w SEC_SVN_FLOOR 0 0 → exec (.svnCommit q v) s = done w))) ∧
    (∀ readOk : Bool,
      (s.verify = none → exec (.imageVerifyDone readOk) s = .next s) ∧
      (∀ slot, s.verify = some slot → Completes (.imageVerifyDone readOk) s fun t => t.verify = none ∧
        getF t (imgRes slot) 0 0 = match imgAt s slot with
          | none => 8
          | some m => if readOk then imgCheck s m else 7) ∧
      (∀ header body,
        let slot := 1 - getF s SEC_IMG_STAT_IN_FORCE 0 0
        s.update = none → Completes (.pldmFwUpdate false header body readOk) s fun t =>
          imgAt t slot = some ⟨header, body.take 8384512⟩ ∧ (slot = 0 → t.image1 = s.image1) ∧ (slot = 1 → t.image0 = s.image0) ∧
          getF t SEC_IMG_STAT_IN_FORCE 0 0 = getF s SEC_IMG_STAT_IN_FORCE 0 0 ∧
          t.out = .message "PLDM_FW_UPDATE" [1] :: s.out)) ∧
    (∀ record,
      let mode := getF s SEC_PROV_DEBUG 0 0
      (mode = 0 → exec (.debugUnlock false record) s = .next (emit s (.message "DEBUG_UNLOCK" [0]))) ∧
      (mode = 1 → unlockGood s record = true → Completes (.debugUnlock false record) s fun t => getF t SEC_DBG_STAT 0 0 = 1 ∧
        getF t SEC_DBG_NONCE 0 0 = getF s SEC_DBG_NONCE 0 0) ∧
      (mode ≠ 0 → mode ≠ 1 ∨ unlockGood s record = false → Completes (.debugUnlock false record) s fun t =>
        getF t SEC_DBG_STAT 0 0 = getF s SEC_DBG_STAT 0 0 ∧ getF t SEC_DBG_NONCE 0 0 = (draw s).1 % 2 ^ 64))

/-- R457, R497 to R500, R508: the device answers the requests of attestation and of the sideband, the signed ones with the
alias key, and a message of the sideband counts. Nothing else changes: neither memory nor a core nor a register but the count,
except by the register access and the address that a message carries. -/
def Obligations.Attestation : Prop :=
  ∀ (s : State),
    let same := fun (t : State) => t.mem = s.mem ∧ t.cores = s.cores ∧ t.regs = s.regs ∧ t.syncs = s.syncs
    let tells := fun (c : Instr) kind data => exec c s = .next (emit s (.message kind data))
    let signs := fun (c : Instr) kind (data : List Nat) => Completes c s fun t => same t ∧
      t.out = .message kind (data ++ [Config.ecdsaSign (measurement s 2) (Config.sha256 (data.flatMap (bytesLE 32))) (draw s).1])
        :: s.out
    let chain := Config.certChain (measurement s 2)
    let sb := setF s MGT_SB_MSGS 0 0 (getF s MGT_SB_MSGS 0 0 + 1)
    tells (.getVersion false) "VERSION" [0x12, 0x11] ∧
    tells (.getCapabilities false) "CAPABILITIES" [1, 1, 1, 0, 0] ∧
    tells (.negotiateAlgorithms false true true) "ALGORITHMS" [] ∧
    (∀ ecdsa sha, (ecdsa && sha) = false → tells (.negotiateAlgorithms false ecdsa sha) "ERROR" []) ∧
    tells (.getDigests false) "DIGESTS" [Config.sha256 chain] ∧
    (∀ ofs len, tells (.getCertificate false 0 ofs len) "CERTIFICATE" (((chain.drop ofs).take len).map (·.toNat))) ∧
    (∀ slot ofs len nonce, slot ≠ 0 → tells (.getCertificate false slot ofs len) "ERROR" [] ∧
      tells (.challenge false slot nonce) "ERROR" []) ∧
    (∀ nonce, signs (.challenge false 0 nonce) "CHALLENGE_AUTH" [Config.sha256 chain, nonce] ∧
      signs (.getMeasurements false 0 nonce) "MEASUREMENTS" [6, nonce] ∧
      signs (.getMeasurements false 0xFF nonce) "MEASUREMENTS" (((List.range 6).map fun n => measurement s (n + 1)) ++ [nonce.val]) ∧
      (∀ index : Fin 256, 1 ≤ index → index ≤ 6 →
        signs (.getMeasurements false index nonce) "MEASUREMENTS" [measurement s index, nonce]) ∧
      (∀ index : Fin 256, 6 < index → index ≠ 0xFF → tells (.getMeasurements false index nonce) "ERROR" [])) ∧
    exec (.getVersion true) s = .next (emit sb (.message "VERSION" [0x12, 0x11])) ∧
    (∀ cmd, exec (.pldmBase cmd) s = .next (emit sb (.message "PLDM_BASE" [cmd, 0b100101]))) ∧
    (∀ (cls : Fin 32) (n : Fin 2048), n.val < (classRow cls).count →
      exec (.pldmPlatform true cls n) s = .next (emit sb (.message "STATE_SENSOR" [pgState sb cls n]))) ∧
    (∀ (cls : Fin 32) (n : Fin 2048), n.val < 1024 → exec (.pldmPlatform false cls n) s =
      .next (emit sb (.message "NUMERIC_SENSOR" [SMap.get s.therm.chans 0 n % 2 ^ 16]))) ∧
    (∀ ofs, exec (.sidebandRegAccess ofs none) s = exec (.readLoLatch .sideband ofs 4) sb) ∧
    (∀ ofs v, exec (.sidebandRegAccess ofs (some v)) s = exec (.registerWrite .sideband ofs 4 false v) sb) ∧
    (∀ eid, exec (.eidAssign eid) s = .next (setF sb MGT_SB_EID 0 0 eid))

/-! ## The error log and the events of a page (R514 to R527, R535 to R543) -/

/-- R515, R520: the log writes the report that has waited longest: the first since a clear into entry 0, and any later one at
the head of the ring of 255, where an entry that software has not taken loses its detail. The reports that units hold enter
the intake as it has room. R521, R522: a write of `ERR_RD_IDX` latches the entry for its requester alone, which then reads its
words; a VF latches no entry of another partition, and may make that write whatever its mask holds. R526: `ERR_FIND` finds the
lowest instance at or above START that holds a signalled event. -/
def Obligations.ErrorLog : Prop :=
  (∀ (s : State),
     (s.log.intake = [] → exec .logWrite s = .next s) ∧
     (∀ r rest, s.log.intake = r :: rest → Completes .logWrite s fun t =>
       (s.log.first = none → t.log.first = some r ∧ t.log.ring = s.log.ring) ∧
       (∀ f, s.log.first = some f → t.log.first = some f ∧ t.log.ring = (r :: s.log.ring).take 255 ∧
         (∀ o : Report, 255 ≤ s.log.ring.length → s.log.ring.getLast? = some o → o.cls < 16 → getF s ERR_READ 0 0 < o.seq →
           getF t ERR_STAT_LOST_DETAIL 0 0 = 1 ∧ getF t ERR_OVF 0 o.cls = satAdd 32 (getF s ERR_OVF 0 o.cls) 1)) ∧
       t.log.intake = rest ++ s.log.held.take (64 - rest.length) ∧ t.log.held = s.log.held.drop (64 - rest.length) ∧
       (∀ p < 8, r.part = some p → vfEnabled s p = true → (p + 1) * 32 ∈ t.msix.pend) ∧
       t.mem = s.mem ∧ t.cores = s.cores ∧ getF t ERR_SEQ 0 0 = getF s ERR_SEQ 0 0) ∧
     (∀ (q : Requester) (v : BitVec 32), Allowed s q cERR 0 ERR_CTRL_CLEAR.off v.toNat →
       let done := fun (t : State) => Host.Outcome.next (φ := Fault) (ρ := Refusal) (replied t q cERR 0 ERR_CTRL_CLEAR.off)
       (hasBit v.toNat 0 = true → hasBit v.toNat 1 = false → exec (.logClear q v) s =
         done { s with log := { s.log with first := none, ring := [] } }) ∧
       (hasBit v.toNat 0 = false → hasBit v.toNat 1 = true → Completes (.logClearCnt q v) s fun t => t.log = s.log ∧
         (∀ n < 16, getF t ERR_CNT 0 n = 0 ∧ getF t ERR_OVF 0 n = 0) ∧
         (∀ n < 8, getF t ERR_PART_CNT_CNT 0 n = 0 ∧ getF t ERR_PART_CNT_OVF 0 n = 0) ∧
         getF t ERR_SEQ 0 0 = getF s ERR_SEQ 0 0 ∧ getF t ERR_STAT_LOST_DETAIL 0 0 = getF s ERR_STAT_LOST_DETAIL 0 0))) ∧
  (∀ (s : State),
     (∀ (q : Requester) (v : BitVec 32), Allowed s q cERR 0 ERR_RD_IDX.off v.toNat →
       let n := v.toNat % 256
       let entry := if n = 0 then s.log.first else s.log.ring[n - 1]?
       let mine := entry.filter fun r => match q with
         | .vf p => r.part == some p.val
         | _ => true
       Completes (.logReadLatch q v) s fun t =>
         viewF t q ERR_RD_IDX 0 0 = n ∧ t.log = s.log ∧ t.mem = s.mem ∧ t.regs = s.regs ∧
         (∀ w < 8, viewF t q ERR_RD_DATA 0 w = match mine with
           | some r => r.word w
           | none => 0) ∧
         (∀ p, p ≠ q → viewF t p ERR_RD_IDX 0 0 = viewF s p ERR_RD_IDX 0 0 ∧
           ∀ w < 8, viewF t p ERR_RD_DATA 0 w = viewF s p ERR_RD_DATA 0 w)) ∧
     (∀ (p : Fin 8) (v : BitVec 32), s.modRst < 2 → getF s (PG_OWNER_EXCL cERR) 0 0 = 0 →
       Allowed s (.vf p) cERR 0 ERR_RD_IDX.off v.toNat) ∧
     (∀ (q : Requester) (v : BitVec 32), Allowed s q cERR 0 ERR_FIND_CLASS.off v.toNat →
       let cls := bitsOf v.toNat 31 27
       let start := bitsOf v.toNat 26 16
       let has := fun (t : State) i => ∃ b < 32, hasBit (getF t (PG_EVT_FLAG cls) i 0) b = true ∧ unmasked t cls i b = true
       Completes (.errFindSearch q v) s fun t => getF t ERR_FIND_CLASS 0 0 = cls ∧ getF t ERR_FIND_START 0 0 = start ∧
         t.mem = s.mem ∧ t.log = s.log ∧
         ∀ i < 2048, start ≤ i → has t i → viewF t q ERR_FIND_FOUND 0 0 = 1 ∧ start ≤ viewF t q ERR_FIND_INST 0 0 ∧
           ((t.regs.map Prod.fst).Pairwise (· < ·) → viewF t q ERR_FIND_INST 0 0 ≤ i)))

/-- R537 to R539: a forced event raises its bit as its source would: the flag, the tempo count, the count if it is selected
and not on hold, FORCED, and, where it is not masked, one report, but for the `ERR` page. Bits that the page does not define
are ignored. R13, R535, R537, R539: each 1 written to `PG_EVT_FLAG` clears its bit, unless the event is raised in the same
clock. A mask takes the bits of the page, and each set flag that it uncovers is signalled. A write of `PG_EVT_CNT_SEL` starts
the count anew, and SUM_CLR makes the sums 0. -/
def Obligations.PageEvents : Prop :=
  (∀ (q : Requester) (cls : Fin 32) (inst : Fin 2048) (v : BitVec 32) (s : State), Allowed s q cls inst 0x1C v.toNat →
     (v.toNat &&& evtBits cls = 0 → exec (.eventForce q cls inst v) s = .next (replied s q cls inst 0x1C)) ∧
     (∀ n < (classRow cls).evtTop, v.toNat &&& evtBits cls = 2 ^ n → hasBit (raisedNow s cls inst) n = false →
       Completes (.eventForce q cls inst v) s fun t =>
         let now := fun f => getF t f inst 0
         let was := fun f => getF s f inst 0
         now (PG_EVT_FLAG cls) = setBit (was (PG_EVT_FLAG cls)) n % 2 ^ 32 ∧
         now (PG_EVT_TEMPO cls) = s.time.count % 2 ^ 64 ∧
         now (PG_EVT_CNT cls) = (if (was (PG_EVT_CNT_SEL_ALL cls) = 1 ∨ was (PG_EVT_CNT_SEL_BIT cls) = n) ∧
           was (PG_CTRL_CNT_HOLD cls) = 0 then satAdd 32 (was (PG_EVT_CNT cls)) 1 else was (PG_EVT_CNT cls)) ∧
         now (PG_ERR_SUM_FORCED cls) = satAdd 8 (was (PG_ERR_SUM_FORCED cls)) 1 ∧
         now (PG_EVT_MASK cls) = was (PG_EVT_MASK cls) ∧ t.mem = s.mem ∧ t.cores = s.cores ∧ t.seqs = s.seqs ∧
         (hasBit (was (PG_EVT_MASK cls)) n = true → t.log = s.log ∧ t.msix = s.msix) ∧
         (hasBit (was (PG_EVT_MASK cls)) n = false → cls.val ∈ t.msix.pend ∧
           (cls.val = cERR → t.log = s.log) ∧
           (cls.val ≠ cERR → getF t ERR_SEQ 0 0 = (getF s ERR_SEQ 0 0 + 1) % 2 ^ 32 ∧
             getF t ERR_CNT 0 (logClass cls n) = satAdd 32 (getF s ERR_CNT 0 (logClass cls n)) 1)))) ∧
  (∀ (q : Requester) (cls : Fin 32) (inst : Fin 2048) (v : BitVec 32) (s : State),
     let raised := fun n => hasBit (raisedNow s cls inst) n
     let flag := getF s (PG_EVT_FLAG cls) inst 0
     let mask := getF s (PG_EVT_MASK cls) inst 0
     let done := fun o (t : State) => Host.Outcome.next (φ := Fault) (ρ := Refusal) (replied t q cls inst o)
     (Allowed s q cls inst 0x14 v.toNat → ∃ x, exec (.eventFlagClear q cls inst v) s = done 0x14 (setF s (PG_EVT_FLAG cls) inst 0 x) ∧
       ∀ n < 32, hasBit x n = (hasBit flag n && (!hasBit v.toNat n || raised n))) ∧
     (Allowed s q cls inst 0x18 v.toNat →
       let new := v.toNat &&& evtBits cls
       let shown := (List.range 32).filter fun n => hasBit mask n && !hasBit new n && hasBit flag n
       (shown = [] → exec (.eventMaskWrite q cls inst v) s = done 0x18 (setF s (PG_EVT_MASK cls) inst 0 new)) ∧
       Completes (.eventMaskWrite q cls inst v) s fun t => getF t (PG_EVT_MASK cls) inst 0 = new ∧
         (cls.val ≠ cERR → getF t (PG_EVT_FLAG cls) inst 0 = flag ∧
           getF t ERR_SEQ 0 0 % 2 ^ 32 = (getF s ERR_SEQ 0 0 + shown.length) % 2 ^ 32) ∧
         (shown ≠ [] → cls.val ∈ t.msix.pend) ∧ t.mem = s.mem ∧ t.cores = s.cores) ∧
     (Allowed s q cls inst 0x20 v.toNat → exec (.evtCntSelWrite q cls inst v) s = done 0x20 (
       setF (setF (setF s (PG_EVT_CNT_SEL_ALL cls) inst 0 (bitOf v.toNat 8)) (PG_EVT_CNT_SEL_BIT cls) inst 0 (v.toNat % 32))
         (PG_EVT_CNT cls) inst 0 (if getF s (PG_CTRL_CNT_HOLD cls) inst 0 = 1 then 0
           else if hasBit v.toNat 8 then ((List.range 32).filter raised).length
           else if raised (v.toNat % 32) then 1 else 0))) ∧
     (Allowed s q cls inst 0x08 v.toNat → hasBit v.toNat 0 = true → exec (.sumClear q cls inst v) s = done 0x08 (
       let w := setF s (PG_CTRL_CNT_HOLD cls) inst 0 (bitOf v.toNat 8)
       setF (setF (setF w (PG_ERR_SUM_VIOL cls) inst 0 0) (PG_ERR_SUM_FORCED cls) inst 0 0) (PG_ERR_SUM_REASON cls) inst 0 0)))

/-- R540 to R542: the management core writes `PG_OWNER`, unless it is sealed, and the management core and the PF set bits of
`PG_SEAL`. A write of either that is not allowed changes neither: it is counted with its REASON, and counted and recorded as a
refusal. -/
def Obligations.Ownership : Prop :=
  ∀ (q : Requester) (cls : Fin 32) (inst : Fin 2048) (v : BitVec 32) (s : State),
    let done := fun o (t : State) => Host.Outcome.next (φ := Fault) (ρ := Refusal) (replied t q cls inst o)
    let owner := [PG_OWNER_EXCL cls, PG_OWNER_KIND cls, PG_OWNER_VF cls, PG_SEAL_OWNER cls, PG_SEAL_RWS cls]
    let reaches := fun o => inst.val < (classRow cls).count ∧ s.modRst < 2 ∧ admitted s q cls inst o (some v.toNat) = true
    let refused := fun (t : State) reason =>
      (∀ f ∈ owner, getF t f inst 0 = getF s f inst 0) ∧ t.mem = s.mem ∧ t.cores = s.cores ∧
      getF t (PG_ERR_SUM_VIOL cls) inst 0 = satAdd 8 (getF s (PG_ERR_SUM_VIOL cls) inst 0) 1 ∧
      getF t (PG_ERR_SUM_REASON cls) inst 0 = reason ∧ getF t SEC_DENY 0 0 = satAdd 32 (getF s SEC_DENY 0 0) 1 ∧
      getF t SEC_DENY_LAST_CLASS 0 0 = cls.val ∧ getF t SEC_DENY_LAST_INST 0 0 = inst.val
    (q = .mgmt → inst.val < (classRow cls).count → getF s (PG_SEAL_OWNER cls) inst 0 ≠ 1 →
      exec (.ownerWrite q cls inst v) s = done 0x30 (
        setF (setF (setF s (PG_OWNER_EXCL cls) inst 0 (bitOf v.toNat 31)) (PG_OWNER_KIND cls) inst 0 (bitsOf v.toNat 19 18))
          (PG_OWNER_VF cls) inst 0 (bitsOf v.toNat 13 10))) ∧
    (reaches 0x30 → q ≠ .mgmt → Completes (.ownerWrite q cls inst v) s fun t => refused t 3) ∧
    (reaches 0x30 → q = .mgmt → getF s (PG_SEAL_OWNER cls) inst 0 = 1 → Completes (.ownerWrite q cls inst v) s fun t => refused t 1) ∧
    (reaches 0x34 → q = .mgmt ∨ q = .pf → exec (.sealWrite q cls inst v) s = done 0x34 (
      setF (setF s (PG_SEAL_OWNER cls) inst 0 (getF s (PG_SEAL_OWNER cls) inst 0 ||| bitOf v.toNat 1))
        (PG_SEAL_RWS cls) inst 0 (getF s (PG_SEAL_RWS cls) inst 0 ||| bitOf v.toNat 0))) ∧
    (reaches 0x34 → q ≠ .mgmt → q ≠ .pf → Completes (.sealWrite q cls inst v) s fun t => refused t 3)

/-! ## Register accesses (R11 to R15, R60, R479, R493, R494, R528 to R531) -/

namespace Sys2Proof.Machine

/-- An access that has no effect changes at most the accounts of refusals: the `SEC`, `HST` and `ERR` pages, and `PG_ERR_SUM`
of the page. -/
def Unharmed (s t : State) : Prop :=
  t.mem = s.mem ∧ t.cores = s.cores ∧ t.seqs = s.seqs ∧ t.syncs = s.syncs ∧ t.stackSt = s.stackSt ∧ t.circs = s.circs ∧
  t.hold = s.hold ∧ t.hiLatch = s.hiLatch ∧ t.time = s.time ∧ t.pending = s.pending ∧
  ∀ (f : Field) (i n : Nat), f.cls < 32 → i < 2048 → f.off + n * f.stride < 4096 → f.lo < 32 →
    f.cls ∉ [cSEC, cHST, cERR] → f.off + n * f.stride ≠ 0x38 → getF t f i n = getF s f i n

end Sys2Proof.Machine

/-- R11, R529, R530: an access is checked in order, and the first check that fails gives its status: size and alignment,
existence, the rail of the site, a module reset, admission. R18: a core ID with a column above 8 is ADDRESS_INVALID, in
`MGT_RETIRE` too. R479, R494: an access that fails any check, a write of a VF outside its partition among them, has no effect
but for the accounts, and a failed read returns all-ones. A poisoned write of a host function is dropped. -/
def Obligations.AccessRefusals : Prop :=
  ∀ (s : State) (q : Requester) (ofs : Fin (2 ^ 28)) (bytes : Fin 65) (w : Option Nat),
    let fails := (regCheck s q false ofs bytes w).2
    let cls := ofsClass ofs
    let inst := ofsInst ofs
    let there := bytes.val = 4 ∧ ofs.val % 4 = 0 ∧ inst < (classRow cls).count
    let dark := 0x40 ≤ ofsReg ofs ∧ inDie cls = true ∧ ∃ x, siteOfInst cls inst = some x ∧ railOff s x = true
    let barred := 2 ≤ s.modRst ∧ hostBar q false = true ∧ servedInReset cls = false
    (bytes.val ≠ 4 ∨ ofs.val % 4 ≠ 0 → fails = some .accessDenied) ∧
    (bytes.val = 4 → ofs.val % 4 = 0 → (classRow cls).count ≤ inst → fails = some .addressInvalid) ∧
    (there → dark → fails = some .fenced) ∧
    (there → ¬dark → barred → fails = some .targetResetting) ∧
    (there → ¬dark → ¬barred → admitted s q cls inst (ofsReg ofs) w = false → fails = some .accessDenied) ∧
    (∀ v : BitVec 32, w = some v.toNat → there → ¬dark → ¬barred → cls = cMGT → ofsReg ofs = MGT_RETIRE_GO.off →
      admitted s q cls inst (ofsReg ofs) w = true → ownRefuses s q false cls inst (ofsReg ofs) v.toNat = 0 →
      hasBit v.toNat 31 = true → 9 ≤ v.toNat % 16 → fails = some .addressInvalid) ∧
    (∀ p, q = .vf p → (classRow cls).siteScoped = true → partOfInst s cls inst ≠ some p.val → fails ≠ none) ∧
    (∀ st, w = none → fails = some st → Completes (.readLoLatch q ofs bytes) s fun t => Unharmed s t ∧
      t.out.head? = some (.answer q ofs (2 ^ (8 * bytes.val) - 1) (if hostBar q false then .ok else st))) ∧
    (∀ (v : BitVec 32) st, w = some v.toNat → fails = some st → Completes (.registerWrite q ofs bytes false v) s fun t =>
      Unharmed s t ∧ (hostBar q false = true → getF t HST_DROP 0 0 = satAdd 32 (getF s HST_DROP 0 0) 1) ∧
      (hostBar q false = false → t.out.head? = some (.answer q ofs 0 st))) ∧
    (∀ v, hostBar q false = true → Completes (.registerWrite q ofs bytes true v) s fun t =>
      Unharmed s t ∧ getF t HST_DROP 0 0 = satAdd 32 (getF s HST_DROP 0 0) 1) ∧
    (∀ v, hostBar q false = false →
      exec (.registerWrite q ofs bytes true v) s = exec (.registerWrite q ofs bytes false v) s)

/-- R13: of a register with no action, an allowed write stores its RW fields, clears the W1C bits and sets the W1S bits that
are written as 1, and leaves every other field; here of the classes whose registers have no action. An allowed read of a
register that is no half of a pair returns its fields in their places, and changes nothing. -/
def Obligations.RegisterAccess : Prop :=
  ∀ (q : Requester) (ofs : Fin (2 ^ 28)) (s : State),
    let cls := ofsClass ofs
    let inst := ofsInst ofs
    let o := ofsReg ofs
    let alone := 0x40 ≤ o ∧ loAt cls o = none ∧ hiAt cls o = none
    (∀ v : BitVec 32, cls ∈ [cDEV, cCAL, cLAN, cSEA, cCDI, cMCH] → alone →
      regCheck s q false ofs 4 (some v.toNat) = (s, none) → ∃ t,
        exec (.registerWrite q ofs 4 false v) s = .next (if hostBar q false then t else emit t (.answer q ofs 0 .ok)) ∧
        t.mem = s.mem ∧ t.cores = s.cores ∧ t.log = s.log ∧ t.out = s.out ∧
        ∀ f ∈ blockFields cls, ∀ n i, i < 2048 → n < max 1 f.cnt → getF t f i n =
          let was := getF s f i n
          let x := bitsOf v.toNat f.hi f.lo
          if i = inst ∧ f.indexAt o = some n then match f.acc with
            | .rw => f.stored x % 2 ^ f.width
            | .rws => f.stored x % 2 ^ f.width
            | .w1c => (was - (was &&& x)) % 2 ^ f.width
            | .w1s => (was ||| x) % 2 ^ f.width
            | _ => was
          else was) ∧
    (alone → cls ≠ cERR → regCheck s q false ofs 4 none = (s, none) → exec (.readLoLatch q ofs 4) s =
      .next (emit s (.answer q ofs (((fieldsAt cls o).map fun p => viewF s q p.1 inst p.2 * 2 ^ p.1.lo).sum % 2 ^ 32) .ok)))

/-- R14: a read of a `_LO` register returns the lower half and latches the upper one for its requester, and a read of `_HI`
returns what is latched, or the upper half as it stands. R15: a write of `_HI` is held for its requester, and a write of `_LO`
commits both halves at once, the upper one as it was held or, if none was, as it stands. R60: a read of `TMP_COUNT_LO` latches
count, beat and clock. -/
def Obligations.RegisterPairs : Prop :=
  ∀ (q : Requester) (ofs : Fin (2 ^ 28)) (s : State) (f : Field) (n : Nat),
    let cls := ofsClass ofs
    let inst := ofsInst ofs
    let o := ofsReg ofs
    let key := pairKey q cls inst (f.off + n * f.stride)
    let done := fun (t : State) => Host.Outcome.next (φ := Fault) (ρ := Refusal)
      (if hostBar q false then t else emit t (.answer q ofs 0 .ok))
    let reads := 0x40 ≤ o ∧ regCheck s q false ofs 4 none = (s, none) ∧ (cls = cERR → errShown q o = true) ∧ f ≠ TMP_COUNT
    let latch := SMap.get s.hiLatch 0 key
    let held := SMap.get s.hold 0 key
    (loAt cls o = some (f, n) → reads → f.cls = cls → exec (.readLoLatch q ofs 4) s =
      .next (emit { s with hiLatch := SMap.set s.hiLatch 0 key (viewF s q f inst n / 2 ^ 32 + 1) }
        (.answer q ofs (viewF s q f inst n % 2 ^ 32) .ok))) ∧
    (hiAt cls o = some (f, n) → loAt cls o = none → reads → f.cls = cls → exec (.readLoLatch q ofs 4) s =
      .next (emit s (.answer q ofs ((if latch = 0 then viewF s q f inst n / 2 ^ 32 else latch - 1) % 2 ^ 32) .ok))) ∧
    (∀ v : BitVec 32, 0x40 ≤ o → f.cls = cls → regCheck s q false ofs 4 (some v.toNat) = (s, none) →
      (hiAt cls o = some (f, n) → loAt cls o = none → exec (.writeHiHold q ofs v) s =
        done { s with hold := SMap.set s.hold 0 key (v.toNat + 1) }) ∧
      (loAt cls o = some (f, n) → f ∉ [MGT_PART_MAP, SYN_VAL, SYN_ADD, SYN_THR, LAN_PIN] → exec (.writeLoCommit q ofs v) s =
        done (
          let upper := if held = 0 then viewF s q f inst n / 2 ^ 32 else held - 1
          let t := { s with hold := SMap.set s.hold 0 key 0 }
          if f.acc = .rw then setF t f inst n (f.stored (upper * 2 ^ 32 + v.toNat)) else t))) ∧
    (regCheck s q false (regOfs cTMP 0 TMP_COUNT.off) 4 none = (s, none) → Completes (.countLoRead q) s fun t =>
      t.out = .answer q (regOfs cTMP 0 TMP_COUNT.off) (s.time.count % 2 ^ 32) .ok :: s.out ∧ t.regs = s.regs ∧
      t.mem = s.mem ∧ t.time = s.time ∧
      ∀ u : State, u.tmpLatch = t.tmpLatch → s.time.beat < 100 → s.time.clk < 16 →
        readHi u q TMP_COUNT 0 0 = s.time.count / 2 ^ 32 ∧ viewF u q TMP_BEAT_BEAT 0 0 = s.time.beat ∧
        viewF u q TMP_BEAT_CLK 0 0 = s.time.clk)

/-! ## The block as a whole -/

/-- Every command completes, in every state and with every operand: none faults and none is refused, since each breach that
the manual names has an effect (a status, an event, a fault of a core); and it leaves the queue of the commands that wait as
it is. What each command then does is what the statements about it say. -/
def Obligations.EveryCommandCompletes : Prop :=
  ∀ (c : Instr) (s : State), ∃ t, exec c s = .next t ∧ t.pending = s.pending

/-- A step of the block takes the command at the front of the queue and runs it, with the rest of the queue waiting behind it
(the model's own rule for a block, log entry 1, DESIGN CHOICE). -/
def Obligations.StepRunsFrontCommand : Prop :=
  ∀ (c : Instr) (rest : List Instr) (s : State), step { s with pending := c :: rest } = exec c { s with pending := rest }

/-- R57, for an empty queue (the model's choice, log entry 1, DESIGN CHOICE): one core clock passes, 16 to a beat; the count
changes only at the boundary of a tempo, and after its last clock the tempo lasts until the boundary. R484: what host items
have completed is handed to their completion queues. Within a beat nothing else happens; a new beat brings what falls due with
it: the suspensions asked for, and the counts and limits kept by the beat. -/
def Obligations.IdleClock : Prop :=
  ∀ (s : State), s.pending = [] → ∃ t, step s = .next t ∧ t.pending = [] ∧
    t.time.count = s.time.count ∧ t.time.tempoNo = s.time.tempoNo ∧
    (s.time.clk < 15 → t.time.clk = s.time.clk + 1 ∧ t.time.beat = s.time.beat) ∧
    (15 ≤ s.time.clk → s.time.beat < 99 → t.time.clk = 0 ∧ t.time.beat = s.time.beat + 1 ∧ t = beatCounts (suspendDue
      (hostFlushAll { s with time := { s.time with beat := s.time.beat + 1, clk := 0 } }))) ∧
    (15 ≤ s.time.clk → 99 ≤ s.time.beat → t.time = s.time) ∧
    (s.time.clk < 15 ∨ 99 ≤ s.time.beat → t.mem = s.mem ∧ t.cores = s.cores ∧ t.syncs = s.syncs ∧ t.seqs = s.seqs ∧
      t.stackSt = s.stackSt ∧ t.circs = s.circs ∧ t.tempo = s.tempo ∧ t.log = s.log ∧ ∀ d ∈ t.hostDone, 8 ≤ d.1)

/-- At reset every register field holds its reset value, every byte of memory reads 0, every core has its registers 0 and its
accumulator banks and codebook slots invalid (R161), and no command waits. That a field without a value of its own in the
manual and memory before its clearing are 0 is the model's choice (log entry 3, DESIGN CHOICE). The memory of the device is in
its canonical form at reset. -/
def Obligations.ResetValues : Prop :=
  ((∀ (f : Field) (i n : Nat), getF State.reset f i n = f.reset i n) ∧
   (∀ a, readByte State.reset a = 0) ∧
   (∀ c, let k := getCore State.reset c
     (∀ r, k.s r = 0) ∧ (∀ r i, k.v r i = 0) ∧ k.asw = 0 ∧ k.fstat = 0 ∧ k.dstat = 0 ∧ k.accValid = 0 ∧ k.cbValid = 0) ∧
   (∀ x, getSync State.reset x = SyncObj.init) ∧ State.reset.time.count = 0 ∧ State.reset.out = [] ∧ State.reset.pending = []) ∧
  (Memory.wf State.reset.mem = true)

/-- Every step, whatever the command, keeps the memory of the device in its canonical form, so that equal memories are equal
data; and it leaves waiting what waited behind the command that it took, in its order. -/
def Obligations.StepKeepsMemoryForm : Prop :=
  ∀ (s t : State), Memory.wf s.mem = true → step s = .next t → Memory.wf t.mem = true ∧ t.pending = s.pending.tail

/-! ## Layouts: the instruction word of a core and the packet (R159, R160, R162, R292, R293, R295, R296) -/

namespace Sys2Proof.Machine

/-- An instruction with what its command gives beside the word left at its plainest: no error found. -/
def bare : Instr → Instr
  | .tmma c f _ _ => .tmma c f none ⟨.clean, 0⟩
  | .vld c fn f _ => .vld c fn f .clean
  | .vst c fn f => .vst c fn ⟨f.word, .clean⟩
  | .ld c fn f _ => .ld c fn f .clean
  | .st c fn f => .st c fn ⟨f.word, .clean⟩
  | .dcopy c f => .dcopy c ⟨f.word, .clean, 0⟩
  | i => i

/-- FN of VSEL, VBCAST and VCVT, which select nothing, is 0. -/
def fnZero : Instr → Bool
  | .vsel _ fn _ => fn == 0
  | .vbcast _ fn _ => fn == 0
  | .vcvt _ fn _ => fn == 0
  | _ => true

/-- The class, the operation code and the fields that only one header has are those of a packet of that class (R291, R297). -/
def classFits (p : Pkt) : Prop :=
  if p.data then p.badClass = false ∧ 32 ≤ p.op else p.cmpReq = false ∧ p.complete = 0

/-- The WRITE and the COMP of the worked example of R293 (09_packets_routing.md). -/
def exampleWrite (payload : List Byte) : Pkt :=
  { data := true, op := opWRITE, len := 16, epoch := 1, hop := 0, status := 0, srcSite := 10, srcNode := 0, mgrp := 0,
    arrEn := true, cmpReq := true, dst := 0x00024002456789C0, tag := 0x0A37, seq := 0x1F42, ctr := 0x9010,
    complete := 0xA004, badClass := false, resv := false, payload := payload }

end Sys2Proof.Machine

/-- R159, R162: the word of an instruction holds its opcode, its FN and every other field at its bits: reading a word's
instruction and writing it again gives the word, and the word of an instruction reads as it. The all-zero word is NOP. R160: a
reserved opcode, or an FN that selects no operation, reads as no instruction. The words of three worked examples are read.
R292, R293, R295: every field of a packet stands at its bits of the full or the compact header, and the bytes read back as the
packet; R296: its CRC stands in its place, and bytes whose CRC is wrong are no packet. The words of the worked example are
those of its packets. -/
def Obligations.Layouts : Prop :=
  ((∀ (c : Fin 1280) (w : Nat) (i : Instr), w < 2 ^ 64 → instrOf c w = some i → wordOf i = some w ∧ bare i = i) ∧
   (∀ (i : Instr) (w : Nat), wordOf i = some w → w < 2 ^ 64 ∧
     (fnZero i = true → ∃ c, instrOf c w = some (bare i)) ∧ (fnZero i = false → ∀ c, instrOf c w = none)) ∧
   (∀ (c : Fin 1280) (w : Nat), instrOf c w = none ↔
     let op := bitsOf w 63 58
     let fnA := bitsOf w 42 36
     let fnV := bitsOf w 37 32
     (0x0A ≤ op ∧ op ≤ 0x0F) ∨ (0x13 ≤ op ∧ op ≤ 0x17) ∨ (0x21 ≤ op ∧ op ≤ 0x27) ∨ (0x2D ≤ op ∧ op ≤ 0x2F) ∨ 0x35 ≤ op ∨
     (op = 0x01 ∧ (0x12 < fnA ∨ fnA = 0x0E ∨ fnA = 0x0F)) ∨ (op = 0x04 ∧ 0x05 < fnA) ∨ (op = 0x07 ∧ 0x02 < fnA) ∨
     (op = 0x30 ∧ 0x02 < fnA) ∨ (op = 0x32 ∧ 0x0B < fnA) ∨ (op = 0x1A ∧ 0x09 < fnV) ∨ (op = 0x1B ∧ 0x09 < fnV) ∨
     (op = 0x1C ∧ 0x03 < fnV) ∨ (op = 0x1E ∧ 0x02 < fnV) ∨ ((op = 0x1D ∨ op = 0x1F ∨ op = 0x20) ∧ 0 < fnV)) ∧
   (∀ c, instrOf c 0 = some (.nop c 0 ⟨0, 0, 0, 0, 0⟩)) ∧
   (∀ c, instrOf c 0x41A0254A80000000 =
     some (.tmma c ⟨1, 1, false, true, 0, 1, 5, 9, 10, 0, 0, 0⟩ none ⟨.clean, 0⟩)) ∧
   (∀ c, instrOf c 0xAB15A5BEF0205200 =
     some (.dcopy c ⟨⟨true, true, 0, 21, 20, 22, 15, true, false, 0xF020, 0x5200⟩, .clean, 0⟩))) ∧
  ((∀ p : Pkt, p.wf = true → classFits p → readPkt (pktBytes p) = some p ∧
     (pktBytes p).length = if p.data then 32 + 64 * p.len else 32) ∧
   (∀ (bs : List Byte) (p : Pkt), readPkt bs = some p →
     let n := if ofBytesLE (bs.take 1) % 4 = 2 then 28 else 20
     ofBytesLE ((bs.drop n).take 4) = crc32c (bs.take n ++ bs.drop (n + 4))) ∧
   (∀ payload, ofBytesLE ((pktBytes (exampleWrite payload)).take 24) =
     0x0030000002803002 + 0x00024002456789C0 * 2 ^ 64 + 0xA00490101F420A37 * 2 ^ 128) ∧
   (∀ dst seq ctr payload, let comp := { exampleWrite payload with
       data := false, op := opCOMP, len := 0, srcSite := 9, arrEn := false, cmpReq := false, dst := dst, seq := seq, ctr := ctr,
       complete := 0 }
     ofBytesLE ((pktBytes comp).take 8) = 0x0A37000009000125))
end

