-- ==== Sys2Proof/Laws/State.lean ====
section
/-! SUPPORT. Laws/State.lean: what the operations that put one part of the state back leave as it was, one lemma for each
field. -/

namespace Sys2Proof.Machine

variable (s : State)

@[simp] theorem setF_time (f : Field) (i n v : Nat) : (setF s f i n v).time = s.time := rfl
@[simp] theorem setF_tempo (f : Field) (i n v : Nat) : (setF s f i n v).tempo = s.tempo := rfl
@[simp] theorem setF_raised (f : Field) (i n v : Nat) : (setF s f i n v).raised = s.raised := rfl
@[simp] theorem setF_hiLatch (f : Field) (i n v : Nat) : (setF s f i n v).hiLatch = s.hiLatch := rfl
@[simp] theorem setF_hold (f : Field) (i n v : Nat) : (setF s f i n v).hold = s.hold := rfl
@[simp] theorem setF_tmpLatch (f : Field) (i n v : Nat) : (setF s f i n v).tmpLatch = s.tmpLatch := rfl
@[simp] theorem setF_errLatch (f : Field) (i n v : Nat) : (setF s f i n v).errLatch = s.errLatch := rfl
@[simp] theorem setF_errIdx (f : Field) (i n v : Nat) : (setF s f i n v).errIdx = s.errIdx := rfl
@[simp] theorem setF_log (f : Field) (i n v : Nat) : (setF s f i n v).log = s.log := rfl
@[simp] theorem setF_msix (f : Field) (i n v : Nat) : (setF s f i n v).msix = s.msix := rfl
@[simp] theorem setF_seqs (f : Field) (i n v : Nat) : (setF s f i n v).seqs = s.seqs := rfl
@[simp] theorem setF_moveMem (f : Field) (i n v : Nat) : (setF s f i n v).moveMem = s.moveMem := rfl
@[simp] theorem setF_moveEcc (f : Field) (i n v : Nat) : (setF s f i n v).moveEcc = s.moveEcc := rfl
@[simp] theorem setF_cores (f : Field) (i n v : Nat) : (setF s f i n v).cores = s.cores := rfl
@[simp] theorem setF_mem (f : Field) (i n v : Nat) : (setF s f i n v).mem = s.mem := rfl
@[simp] theorem setF_lost (f : Field) (i n v : Nat) : (setF s f i n v).lost = s.lost := rfl
@[simp] theorem setF_since (f : Field) (i n v : Nat) : (setF s f i n v).since = s.since := rfl
@[simp] theorem setF_ue (f : Field) (i n v : Nat) : (setF s f i n v).ue = s.ue := rfl
@[simp] theorem setF_bankJobs (f : Field) (i n v : Nat) : (setF s f i n v).bankJobs = s.bankJobs := rfl
@[simp] theorem setF_bankNext (f : Field) (i n v : Nat) : (setF s f i n v).bankNext = s.bankNext := rfl
@[simp] theorem setF_lines (f : Field) (i n v : Nat) : (setF s f i n v).lines = s.lines := rfl
@[simp] theorem setF_fills (f : Field) (i n v : Nat) : (setF s f i n v).fills = s.fills := rfl
@[simp] theorem setF_dirs (f : Field) (i n v : Nat) : (setF s f i n v).dirs = s.dirs := rfl
@[simp] theorem setF_syncs (f : Field) (i n v : Nat) : (setF s f i n v).syncs = s.syncs := rfl
@[simp] theorem setF_shadows (f : Field) (i n v : Nat) : (setF s f i n v).shadows = s.shadows := rfl
@[simp] theorem setF_shadowMsgs (f : Field) (i n v : Nat) : (setF s f i n v).shadowMsgs = s.shadowMsgs := rfl
@[simp] theorem setF_tags (f : Field) (i n v : Nat) : (setF s f i n v).tags = s.tags := rfl
@[simp] theorem setF_gens (f : Field) (i n v : Nat) : (setF s f i n v).gens = s.gens := rfl
@[simp] theorem setF_tagWait (f : Field) (i n v : Nat) : (setF s f i n v).tagWait = s.tagWait := rfl
@[simp] theorem setF_tx (f : Field) (i n v : Nat) : (setF s f i n v).tx = s.tx := rfl
@[simp] theorem setF_rx (f : Field) (i n v : Nat) : (setF s f i n v).rx = s.rx := rfl
@[simp] theorem setF_copies (f : Field) (i n v : Nat) : (setF s f i n v).copies = s.copies := rfl
@[simp] theorem setF_copyNext (f : Field) (i n v : Nat) : (setF s f i n v).copyNext = s.copyNext := rfl
@[simp] theorem setF_copyWait (f : Field) (i n v : Nat) : (setF s f i n v).copyWait = s.copyWait := rfl
@[simp] theorem setF_copyTab (f : Field) (i n v : Nat) : (setF s f i n v).copyTab = s.copyTab := rfl
@[simp] theorem setF_copyLoad (f : Field) (i n v : Nat) : (setF s f i n v).copyLoad = s.copyLoad := rfl
@[simp] theorem setF_copyHeld (f : Field) (i n v : Nat) : (setF s f i n v).copyHeld = s.copyHeld := rfl
@[simp] theorem setF_dedups (f : Field) (i n v : Nat) : (setF s f i n v).dedups = s.dedups := rfl
@[simp] theorem setF_hot (f : Field) (i n v : Nat) : (setF s f i n v).hot = s.hot := rfl
@[simp] theorem setF_hotAt (f : Field) (i n v : Nat) : (setF s f i n v).hotAt = s.hotAt := rfl
@[simp] theorem setF_routes (f : Field) (i n v : Nat) : (setF s f i n v).routes = s.routes := rfl
@[simp] theorem setF_rtArmed (f : Field) (i n v : Nat) : (setF s f i n v).rtArmed = s.rtArmed := rfl
@[simp] theorem setF_rtSwitched (f : Field) (i n v : Nat) : (setF s f i n v).rtSwitched = s.rtSwitched := rfl
@[simp] theorem setF_throttles (f : Field) (i n v : Nat) : (setF s f i n v).throttles = s.throttles := rfl
@[simp] theorem setF_mcs (f : Field) (i n v : Nat) : (setF s f i n v).mcs = s.mcs := rfl
@[simp] theorem setF_mcCache (f : Field) (i n v : Nat) : (setF s f i n v).mcCache = s.mcCache := rfl
@[simp] theorem setF_cmap (f : Field) (i n v : Nat) : (setF s f i n v).cmap = s.cmap := rfl
@[simp] theorem setF_mapAt (f : Field) (i n v : Nat) : (setF s f i n v).mapAt = s.mapAt := rfl
@[simp] theorem setF_mapRecs (f : Field) (i n v : Nat) : (setF s f i n v).mapRecs = s.mapRecs := rfl
@[simp] theorem setF_mapActed (f : Field) (i n v : Nat) : (setF s f i n v).mapActed = s.mapActed := rfl
@[simp] theorem setF_mapCopied (f : Field) (i n v : Nat) : (setF s f i n v).mapCopied = s.mapCopied := rfl
@[simp] theorem setF_stackSt (f : Field) (i n v : Nat) : (setF s f i n v).stackSt = s.stackSt := rfl
@[simp] theorem setF_circs (f : Field) (i n v : Nat) : (setF s f i n v).circs = s.circs := rfl
@[simp] theorem setF_ringData (f : Field) (i n v : Nat) : (setF s f i n v).ringData = s.ringData := rfl
@[simp] theorem setF_smpStarted (f : Field) (i n v : Nat) : (setF s f i n v).smpStarted = s.smpStarted := rfl
@[simp] theorem setF_gmbStarted (f : Field) (i n v : Nat) : (setF s f i n v).gmbStarted = s.gmbStarted := rfl
@[simp] theorem setF_gmbPending (f : Field) (i n v : Nat) : (setF s f i n v).gmbPending = s.gmbPending := rfl
@[simp] theorem setF_hostDone (f : Field) (i n v : Nat) : (setF s f i n v).hostDone = s.hostDone := rfl
@[simp] theorem setF_gov (f : Field) (i n v : Nat) : (setF s f i n v).gov = s.gov := rfl
@[simp] theorem setF_ratios (f : Field) (i n v : Nat) : (setF s f i n v).ratios = s.ratios := rfl
@[simp] theorem setF_substs (f : Field) (i n v : Nat) : (setF s f i n v).substs = s.substs := rfl
@[simp] theorem setF_sramSpares (f : Field) (i n v : Nat) : (setF s f i n v).sramSpares = s.sramSpares := rfl
@[simp] theorem setF_sramCe (f : Field) (i n v : Nat) : (setF s f i n v).sramCe = s.sramCe := rfl
@[simp] theorem setF_fuseBank (f : Field) (i n v : Nat) : (setF s f i n v).fuseBank = s.fuseBank := rfl
@[simp] theorem setF_fuseQueue (f : Field) (i n v : Nat) : (setF s f i n v).fuseQueue = s.fuseQueue := rfl
@[simp] theorem setF_dieClk (f : Field) (i n v : Nat) : (setF s f i n v).dieClk = s.dieClk := rfl
@[simp] theorem setF_resets (f : Field) (i n v : Nat) : (setF s f i n v).resets = s.resets := rfl
@[simp] theorem setF_cluResets (f : Field) (i n v : Nat) : (setF s f i n v).cluResets = s.cluResets := rfl
@[simp] theorem setF_stops (f : Field) (i n v : Nat) : (setF s f i n v).stops = s.stops := rfl
@[simp] theorem setF_railDown (f : Field) (i n v : Nat) : (setF s f i n v).railDown = s.railDown := rfl
@[simp] theorem setF_lcNext (f : Field) (i n v : Nat) : (setF s f i n v).lcNext = s.lcNext := rfl
@[simp] theorem setF_lsrArmed (f : Field) (i n v : Nat) : (setF s f i n v).lsrArmed = s.lsrArmed := rfl
@[simp] theorem setF_calWin (f : Field) (i n v : Nat) : (setF s f i n v).calWin = s.calWin := rfl
@[simp] theorem setF_calSlots (f : Field) (i n v : Nat) : (setF s f i n v).calSlots = s.calSlots := rfl
@[simp] theorem setF_calFails (f : Field) (i n v : Nat) : (setF s f i n v).calFails = s.calFails := rfl
@[simp] theorem setF_calLast (f : Field) (i n v : Nat) : (setF s f i n v).calLast = s.calLast := rfl
@[simp] theorem setF_calStale (f : Field) (i n v : Nat) : (setF s f i n v).calStale = s.calStale := rfl
@[simp] theorem setF_calSets (f : Field) (i n v : Nat) : (setF s f i n v).calSets = s.calSets := rfl
@[simp] theorem setF_calFirst (f : Field) (i n v : Nat) : (setF s f i n v).calFirst = s.calFirst := rfl
@[simp] theorem setF_ports (f : Field) (i n v : Nat) : (setF s f i n v).ports = s.ports := rfl
@[simp] theorem setF_rstAt (f : Field) (i n v : Nat) : (setF s f i n v).rstAt = s.rstAt := rfl
@[simp] theorem setF_noticeAt (f : Field) (i n v : Nat) : (setF s f i n v).noticeAt = s.noticeAt := rfl
@[simp] theorem setF_therm (f : Field) (i n v : Nat) : (setF s f i n v).therm = s.therm := rfl
@[simp] theorem setF_seam (f : Field) (i n v : Nat) : (setF s f i n v).seam = s.seam := rfl
@[simp] theorem setF_seamErrs (f : Field) (i n v : Nat) : (setF s f i n v).seamErrs = s.seamErrs := rfl
@[simp] theorem setF_smpRuns (f : Field) (i n v : Nat) : (setF s f i n v).smpRuns = s.smpRuns := rfl
@[simp] theorem setF_scans (f : Field) (i n v : Nat) : (setF s f i n v).scans = s.scans := rfl
@[simp] theorem setF_gmbRuns (f : Field) (i n v : Nat) : (setF s f i n v).gmbRuns = s.gmbRuns := rfl
@[simp] theorem setF_extBase (f : Field) (i n v : Nat) : (setF s f i n v).extBase = s.extBase := rfl
@[simp] theorem setF_smpDisarm (f : Field) (i n v : Nat) : (setF s f i n v).smpDisarm = s.smpDisarm := rfl
@[simp] theorem setF_mapNext (f : Field) (i n v : Nat) : (setF s f i n v).mapNext = s.mapNext := rfl
@[simp] theorem setF_modRst (f : Field) (i n v : Nat) : (setF s f i n v).modRst = s.modRst := rfl
@[simp] theorem setF_fuseFactory (f : Field) (i n v : Nat) : (setF s f i n v).fuseFactory = s.fuseFactory := rfl
@[simp] theorem setF_unsaved (f : Field) (i n v : Nat) : (setF s f i n v).unsaved = s.unsaved := rfl
@[simp] theorem setF_testRec (f : Field) (i n v : Nat) : (setF s f i n v).testRec = s.testRec := rfl
@[simp] theorem setF_image0 (f : Field) (i n v : Nat) : (setF s f i n v).image0 = s.image0 := rfl
@[simp] theorem setF_image1 (f : Field) (i n v : Nat) : (setF s f i n v).image1 = s.image1 := rfl
@[simp] theorem setF_twins (f : Field) (i n v : Nat) : (setF s f i n v).twins = s.twins := rfl
@[simp] theorem setF_update (f : Field) (i n v : Nat) : (setF s f i n v).update = s.update := rfl
@[simp] theorem setF_areas (f : Field) (i n v : Nat) : (setF s f i n v).areas = s.areas := rfl
@[simp] theorem setF_verify (f : Field) (i n v : Nat) : (setF s f i n v).verify = s.verify := rfl
@[simp] theorem setF_errSaved (f : Field) (i n v : Nat) : (setF s f i n v).errSaved = s.errSaved := rfl
@[simp] theorem setF_forcedAt (f : Field) (i n v : Nat) : (setF s f i n v).forcedAt = s.forcedAt := rfl
@[simp] theorem setF_denyAt (f : Field) (i n v : Nat) : (setF s f i n v).denyAt = s.denyAt := rfl
@[simp] theorem setF_capAt (f : Field) (i n v : Nat) : (setF s f i n v).capAt = s.capAt := rfl
@[simp] theorem setF_draws (f : Field) (i n v : Nat) : (setF s f i n v).draws = s.draws := rfl
@[simp] theorem setF_tap (f : Field) (i n v : Nat) : (setF s f i n v).tap = s.tap := rfl
@[simp] theorem setF_out (f : Field) (i n v : Nat) : (setF s f i n v).out = s.out := rfl
@[simp] theorem setF_pending (f : Field) (i n v : Nat) : (setF s f i n v).pending = s.pending := rfl

@[simp] theorem emit_time (o : Out) : (emit s o).time = s.time := rfl
@[simp] theorem emit_tempo (o : Out) : (emit s o).tempo = s.tempo := rfl
@[simp] theorem emit_regs (o : Out) : (emit s o).regs = s.regs := rfl
@[simp] theorem emit_raised (o : Out) : (emit s o).raised = s.raised := rfl
@[simp] theorem emit_hiLatch (o : Out) : (emit s o).hiLatch = s.hiLatch := rfl
@[simp] theorem emit_hold (o : Out) : (emit s o).hold = s.hold := rfl
@[simp] theorem emit_tmpLatch (o : Out) : (emit s o).tmpLatch = s.tmpLatch := rfl
@[simp] theorem emit_errLatch (o : Out) : (emit s o).errLatch = s.errLatch := rfl
@[simp] theorem emit_errIdx (o : Out) : (emit s o).errIdx = s.errIdx := rfl
@[simp] theorem emit_log (o : Out) : (emit s o).log = s.log := rfl
@[simp] theorem emit_msix (o : Out) : (emit s o).msix = s.msix := rfl
@[simp] theorem emit_seqs (o : Out) : (emit s o).seqs = s.seqs := rfl
@[simp] theorem emit_moveMem (o : Out) : (emit s o).moveMem = s.moveMem := rfl
@[simp] theorem emit_moveEcc (o : Out) : (emit s o).moveEcc = s.moveEcc := rfl
@[simp] theorem emit_cores (o : Out) : (emit s o).cores = s.cores := rfl
@[simp] theorem emit_mem (o : Out) : (emit s o).mem = s.mem := rfl
@[simp] theorem emit_lost (o : Out) : (emit s o).lost = s.lost := rfl
@[simp] theorem emit_since (o : Out) : (emit s o).since = s.since := rfl
@[simp] theorem emit_ue (o : Out) : (emit s o).ue = s.ue := rfl
@[simp] theorem emit_bankJobs (o : Out) : (emit s o).bankJobs = s.bankJobs := rfl
@[simp] theorem emit_bankNext (o : Out) : (emit s o).bankNext = s.bankNext := rfl
@[simp] theorem emit_lines (o : Out) : (emit s o).lines = s.lines := rfl
@[simp] theorem emit_fills (o : Out) : (emit s o).fills = s.fills := rfl
@[simp] theorem emit_dirs (o : Out) : (emit s o).dirs = s.dirs := rfl
@[simp] theorem emit_syncs (o : Out) : (emit s o).syncs = s.syncs := rfl
@[simp] theorem emit_shadows (o : Out) : (emit s o).shadows = s.shadows := rfl
@[simp] theorem emit_shadowMsgs (o : Out) : (emit s o).shadowMsgs = s.shadowMsgs := rfl
@[simp] theorem emit_tags (o : Out) : (emit s o).tags = s.tags := rfl
@[simp] theorem emit_gens (o : Out) : (emit s o).gens = s.gens := rfl
@[simp] theorem emit_tagWait (o : Out) : (emit s o).tagWait = s.tagWait := rfl
@[simp] theorem emit_tx (o : Out) : (emit s o).tx = s.tx := rfl
@[simp] theorem emit_rx (o : Out) : (emit s o).rx = s.rx := rfl
@[simp] theorem emit_copies (o : Out) : (emit s o).copies = s.copies := rfl
@[simp] theorem emit_copyNext (o : Out) : (emit s o).copyNext = s.copyNext := rfl
@[simp] theorem emit_copyWait (o : Out) : (emit s o).copyWait = s.copyWait := rfl
@[simp] theorem emit_copyTab (o : Out) : (emit s o).copyTab = s.copyTab := rfl
@[simp] theorem emit_copyLoad (o : Out) : (emit s o).copyLoad = s.copyLoad := rfl
@[simp] theorem emit_copyHeld (o : Out) : (emit s o).copyHeld = s.copyHeld := rfl
@[simp] theorem emit_dedups (o : Out) : (emit s o).dedups = s.dedups := rfl
@[simp] theorem emit_hot (o : Out) : (emit s o).hot = s.hot := rfl
@[simp] theorem emit_hotAt (o : Out) : (emit s o).hotAt = s.hotAt := rfl
@[simp] theorem emit_routes (o : Out) : (emit s o).routes = s.routes := rfl
@[simp] theorem emit_rtArmed (o : Out) : (emit s o).rtArmed = s.rtArmed := rfl
@[simp] theorem emit_rtSwitched (o : Out) : (emit s o).rtSwitched = s.rtSwitched := rfl
@[simp] theorem emit_throttles (o : Out) : (emit s o).throttles = s.throttles := rfl
@[simp] theorem emit_mcs (o : Out) : (emit s o).mcs = s.mcs := rfl
@[simp] theorem emit_mcCache (o : Out) : (emit s o).mcCache = s.mcCache := rfl
@[simp] theorem emit_cmap (o : Out) : (emit s o).cmap = s.cmap := rfl
@[simp] theorem emit_mapAt (o : Out) : (emit s o).mapAt = s.mapAt := rfl
@[simp] theorem emit_mapRecs (o : Out) : (emit s o).mapRecs = s.mapRecs := rfl
@[simp] theorem emit_mapActed (o : Out) : (emit s o).mapActed = s.mapActed := rfl
@[simp] theorem emit_mapCopied (o : Out) : (emit s o).mapCopied = s.mapCopied := rfl
@[simp] theorem emit_stackSt (o : Out) : (emit s o).stackSt = s.stackSt := rfl
@[simp] theorem emit_circs (o : Out) : (emit s o).circs = s.circs := rfl
@[simp] theorem emit_ringData (o : Out) : (emit s o).ringData = s.ringData := rfl
@[simp] theorem emit_smpStarted (o : Out) : (emit s o).smpStarted = s.smpStarted := rfl
@[simp] theorem emit_gmbStarted (o : Out) : (emit s o).gmbStarted = s.gmbStarted := rfl
@[simp] theorem emit_gmbPending (o : Out) : (emit s o).gmbPending = s.gmbPending := rfl
@[simp] theorem emit_hostDone (o : Out) : (emit s o).hostDone = s.hostDone := rfl
@[simp] theorem emit_gov (o : Out) : (emit s o).gov = s.gov := rfl
@[simp] theorem emit_ratios (o : Out) : (emit s o).ratios = s.ratios := rfl
@[simp] theorem emit_substs (o : Out) : (emit s o).substs = s.substs := rfl
@[simp] theorem emit_sramSpares (o : Out) : (emit s o).sramSpares = s.sramSpares := rfl
@[simp] theorem emit_sramCe (o : Out) : (emit s o).sramCe = s.sramCe := rfl
@[simp] theorem emit_fuseBank (o : Out) : (emit s o).fuseBank = s.fuseBank := rfl
@[simp] theorem emit_fuseQueue (o : Out) : (emit s o).fuseQueue = s.fuseQueue := rfl
@[simp] theorem emit_dieClk (o : Out) : (emit s o).dieClk = s.dieClk := rfl
@[simp] theorem emit_resets (o : Out) : (emit s o).resets = s.resets := rfl
@[simp] theorem emit_cluResets (o : Out) : (emit s o).cluResets = s.cluResets := rfl
@[simp] theorem emit_stops (o : Out) : (emit s o).stops = s.stops := rfl
@[simp] theorem emit_railDown (o : Out) : (emit s o).railDown = s.railDown := rfl
@[simp] theorem emit_lcNext (o : Out) : (emit s o).lcNext = s.lcNext := rfl
@[simp] theorem emit_lsrArmed (o : Out) : (emit s o).lsrArmed = s.lsrArmed := rfl
@[simp] theorem emit_calWin (o : Out) : (emit s o).calWin = s.calWin := rfl
@[simp] theorem emit_calSlots (o : Out) : (emit s o).calSlots = s.calSlots := rfl
@[simp] theorem emit_calFails (o : Out) : (emit s o).calFails = s.calFails := rfl
@[simp] theorem emit_calLast (o : Out) : (emit s o).calLast = s.calLast := rfl
@[simp] theorem emit_calStale (o : Out) : (emit s o).calStale = s.calStale := rfl
@[simp] theorem emit_calSets (o : Out) : (emit s o).calSets = s.calSets := rfl
@[simp] theorem emit_calFirst (o : Out) : (emit s o).calFirst = s.calFirst := rfl
@[simp] theorem emit_ports (o : Out) : (emit s o).ports = s.ports := rfl
@[simp] theorem emit_rstAt (o : Out) : (emit s o).rstAt = s.rstAt := rfl
@[simp] theorem emit_noticeAt (o : Out) : (emit s o).noticeAt = s.noticeAt := rfl
@[simp] theorem emit_therm (o : Out) : (emit s o).therm = s.therm := rfl
@[simp] theorem emit_seam (o : Out) : (emit s o).seam = s.seam := rfl
@[simp] theorem emit_seamErrs (o : Out) : (emit s o).seamErrs = s.seamErrs := rfl
@[simp] theorem emit_smpRuns (o : Out) : (emit s o).smpRuns = s.smpRuns := rfl
@[simp] theorem emit_scans (o : Out) : (emit s o).scans = s.scans := rfl
@[simp] theorem emit_gmbRuns (o : Out) : (emit s o).gmbRuns = s.gmbRuns := rfl
@[simp] theorem emit_extBase (o : Out) : (emit s o).extBase = s.extBase := rfl
@[simp] theorem emit_smpDisarm (o : Out) : (emit s o).smpDisarm = s.smpDisarm := rfl
@[simp] theorem emit_mapNext (o : Out) : (emit s o).mapNext = s.mapNext := rfl
@[simp] theorem emit_modRst (o : Out) : (emit s o).modRst = s.modRst := rfl
@[simp] theorem emit_fuseFactory (o : Out) : (emit s o).fuseFactory = s.fuseFactory := rfl
@[simp] theorem emit_unsaved (o : Out) : (emit s o).unsaved = s.unsaved := rfl
@[simp] theorem emit_testRec (o : Out) : (emit s o).testRec = s.testRec := rfl
@[simp] theorem emit_image0 (o : Out) : (emit s o).image0 = s.image0 := rfl
@[simp] theorem emit_image1 (o : Out) : (emit s o).image1 = s.image1 := rfl
@[simp] theorem emit_twins (o : Out) : (emit s o).twins = s.twins := rfl
@[simp] theorem emit_update (o : Out) : (emit s o).update = s.update := rfl
@[simp] theorem emit_areas (o : Out) : (emit s o).areas = s.areas := rfl
@[simp] theorem emit_verify (o : Out) : (emit s o).verify = s.verify := rfl
@[simp] theorem emit_errSaved (o : Out) : (emit s o).errSaved = s.errSaved := rfl
@[simp] theorem emit_forcedAt (o : Out) : (emit s o).forcedAt = s.forcedAt := rfl
@[simp] theorem emit_denyAt (o : Out) : (emit s o).denyAt = s.denyAt := rfl
@[simp] theorem emit_capAt (o : Out) : (emit s o).capAt = s.capAt := rfl
@[simp] theorem emit_draws (o : Out) : (emit s o).draws = s.draws := rfl
@[simp] theorem emit_tap (o : Out) : (emit s o).tap = s.tap := rfl
@[simp] theorem emit_pending (o : Out) : (emit s o).pending = s.pending := rfl

@[simp] theorem putSeq_time (x : Nat) (q : Seq) : (putSeq s x q).time = s.time := rfl
@[simp] theorem putSeq_tempo (x : Nat) (q : Seq) : (putSeq s x q).tempo = s.tempo := rfl
@[simp] theorem putSeq_regs (x : Nat) (q : Seq) : (putSeq s x q).regs = s.regs := rfl
@[simp] theorem putSeq_raised (x : Nat) (q : Seq) : (putSeq s x q).raised = s.raised := rfl
@[simp] theorem putSeq_hiLatch (x : Nat) (q : Seq) : (putSeq s x q).hiLatch = s.hiLatch := rfl
@[simp] theorem putSeq_hold (x : Nat) (q : Seq) : (putSeq s x q).hold = s.hold := rfl
@[simp] theorem putSeq_tmpLatch (x : Nat) (q : Seq) : (putSeq s x q).tmpLatch = s.tmpLatch := rfl
@[simp] theorem putSeq_errLatch (x : Nat) (q : Seq) : (putSeq s x q).errLatch = s.errLatch := rfl
@[simp] theorem putSeq_errIdx (x : Nat) (q : Seq) : (putSeq s x q).errIdx = s.errIdx := rfl
@[simp] theorem putSeq_log (x : Nat) (q : Seq) : (putSeq s x q).log = s.log := rfl
@[simp] theorem putSeq_msix (x : Nat) (q : Seq) : (putSeq s x q).msix = s.msix := rfl
@[simp] theorem putSeq_moveMem (x : Nat) (q : Seq) : (putSeq s x q).moveMem = s.moveMem := rfl
@[simp] theorem putSeq_moveEcc (x : Nat) (q : Seq) : (putSeq s x q).moveEcc = s.moveEcc := rfl
@[simp] theorem putSeq_cores (x : Nat) (q : Seq) : (putSeq s x q).cores = s.cores := rfl
@[simp] theorem putSeq_mem (x : Nat) (q : Seq) : (putSeq s x q).mem = s.mem := rfl
@[simp] theorem putSeq_lost (x : Nat) (q : Seq) : (putSeq s x q).lost = s.lost := rfl
@[simp] theorem putSeq_since (x : Nat) (q : Seq) : (putSeq s x q).since = s.since := rfl
@[simp] theorem putSeq_ue (x : Nat) (q : Seq) : (putSeq s x q).ue = s.ue := rfl
@[simp] theorem putSeq_bankJobs (x : Nat) (q : Seq) : (putSeq s x q).bankJobs = s.bankJobs := rfl
@[simp] theorem putSeq_bankNext (x : Nat) (q : Seq) : (putSeq s x q).bankNext = s.bankNext := rfl
@[simp] theorem putSeq_lines (x : Nat) (q : Seq) : (putSeq s x q).lines = s.lines := rfl
@[simp] theorem putSeq_fills (x : Nat) (q : Seq) : (putSeq s x q).fills = s.fills := rfl
@[simp] theorem putSeq_dirs (x : Nat) (q : Seq) : (putSeq s x q).dirs = s.dirs := rfl
@[simp] theorem putSeq_syncs (x : Nat) (q : Seq) : (putSeq s x q).syncs = s.syncs := rfl
@[simp] theorem putSeq_shadows (x : Nat) (q : Seq) : (putSeq s x q).shadows = s.shadows := rfl
@[simp] theorem putSeq_shadowMsgs (x : Nat) (q : Seq) : (putSeq s x q).shadowMsgs = s.shadowMsgs := rfl
@[simp] theorem putSeq_tags (x : Nat) (q : Seq) : (putSeq s x q).tags = s.tags := rfl
@[simp] theorem putSeq_gens (x : Nat) (q : Seq) : (putSeq s x q).gens = s.gens := rfl
@[simp] theorem putSeq_tagWait (x : Nat) (q : Seq) : (putSeq s x q).tagWait = s.tagWait := rfl
@[simp] theorem putSeq_tx (x : Nat) (q : Seq) : (putSeq s x q).tx = s.tx := rfl
@[simp] theorem putSeq_rx (x : Nat) (q : Seq) : (putSeq s x q).rx = s.rx := rfl
@[simp] theorem putSeq_copies (x : Nat) (q : Seq) : (putSeq s x q).copies = s.copies := rfl
@[simp] theorem putSeq_copyNext (x : Nat) (q : Seq) : (putSeq s x q).copyNext = s.copyNext := rfl
@[simp] theorem putSeq_copyWait (x : Nat) (q : Seq) : (putSeq s x q).copyWait = s.copyWait := rfl
@[simp] theorem putSeq_copyTab (x : Nat) (q : Seq) : (putSeq s x q).copyTab = s.copyTab := rfl
@[simp] theorem putSeq_copyLoad (x : Nat) (q : Seq) : (putSeq s x q).copyLoad = s.copyLoad := rfl
@[simp] theorem putSeq_copyHeld (x : Nat) (q : Seq) : (putSeq s x q).copyHeld = s.copyHeld := rfl
@[simp] theorem putSeq_dedups (x : Nat) (q : Seq) : (putSeq s x q).dedups = s.dedups := rfl
@[simp] theorem putSeq_hot (x : Nat) (q : Seq) : (putSeq s x q).hot = s.hot := rfl
@[simp] theorem putSeq_hotAt (x : Nat) (q : Seq) : (putSeq s x q).hotAt = s.hotAt := rfl
@[simp] theorem putSeq_routes (x : Nat) (q : Seq) : (putSeq s x q).routes = s.routes := rfl
@[simp] theorem putSeq_rtArmed (x : Nat) (q : Seq) : (putSeq s x q).rtArmed = s.rtArmed := rfl
@[simp] theorem putSeq_rtSwitched (x : Nat) (q : Seq) : (putSeq s x q).rtSwitched = s.rtSwitched := rfl
@[simp] theorem putSeq_throttles (x : Nat) (q : Seq) : (putSeq s x q).throttles = s.throttles := rfl
@[simp] theorem putSeq_mcs (x : Nat) (q : Seq) : (putSeq s x q).mcs = s.mcs := rfl
@[simp] theorem putSeq_mcCache (x : Nat) (q : Seq) : (putSeq s x q).mcCache = s.mcCache := rfl
@[simp] theorem putSeq_cmap (x : Nat) (q : Seq) : (putSeq s x q).cmap = s.cmap := rfl
@[simp] theorem putSeq_mapAt (x : Nat) (q : Seq) : (putSeq s x q).mapAt = s.mapAt := rfl
@[simp] theorem putSeq_mapRecs (x : Nat) (q : Seq) : (putSeq s x q).mapRecs = s.mapRecs := rfl
@[simp] theorem putSeq_mapActed (x : Nat) (q : Seq) : (putSeq s x q).mapActed = s.mapActed := rfl
@[simp] theorem putSeq_mapCopied (x : Nat) (q : Seq) : (putSeq s x q).mapCopied = s.mapCopied := rfl
@[simp] theorem putSeq_stackSt (x : Nat) (q : Seq) : (putSeq s x q).stackSt = s.stackSt := rfl
@[simp] theorem putSeq_circs (x : Nat) (q : Seq) : (putSeq s x q).circs = s.circs := rfl
@[simp] theorem putSeq_ringData (x : Nat) (q : Seq) : (putSeq s x q).ringData = s.ringData := rfl
@[simp] theorem putSeq_smpStarted (x : Nat) (q : Seq) : (putSeq s x q).smpStarted = s.smpStarted := rfl
@[simp] theorem putSeq_gmbStarted (x : Nat) (q : Seq) : (putSeq s x q).gmbStarted = s.gmbStarted := rfl
@[simp] theorem putSeq_gmbPending (x : Nat) (q : Seq) : (putSeq s x q).gmbPending = s.gmbPending := rfl
@[simp] theorem putSeq_hostDone (x : Nat) (q : Seq) : (putSeq s x q).hostDone = s.hostDone := rfl
@[simp] theorem putSeq_gov (x : Nat) (q : Seq) : (putSeq s x q).gov = s.gov := rfl
@[simp] theorem putSeq_ratios (x : Nat) (q : Seq) : (putSeq s x q).ratios = s.ratios := rfl
@[simp] theorem putSeq_substs (x : Nat) (q : Seq) : (putSeq s x q).substs = s.substs := rfl
@[simp] theorem putSeq_sramSpares (x : Nat) (q : Seq) : (putSeq s x q).sramSpares = s.sramSpares := rfl
@[simp] theorem putSeq_sramCe (x : Nat) (q : Seq) : (putSeq s x q).sramCe = s.sramCe := rfl
@[simp] theorem putSeq_fuseBank (x : Nat) (q : Seq) : (putSeq s x q).fuseBank = s.fuseBank := rfl
@[simp] theorem putSeq_fuseQueue (x : Nat) (q : Seq) : (putSeq s x q).fuseQueue = s.fuseQueue := rfl
@[simp] theorem putSeq_dieClk (x : Nat) (q : Seq) : (putSeq s x q).dieClk = s.dieClk := rfl
@[simp] theorem putSeq_resets (x : Nat) (q : Seq) : (putSeq s x q).resets = s.resets := rfl
@[simp] theorem putSeq_cluResets (x : Nat) (q : Seq) : (putSeq s x q).cluResets = s.cluResets := rfl
@[simp] theorem putSeq_stops (x : Nat) (q : Seq) : (putSeq s x q).stops = s.stops := rfl
@[simp] theorem putSeq_railDown (x : Nat) (q : Seq) : (putSeq s x q).railDown = s.railDown := rfl
@[simp] theorem putSeq_lcNext (x : Nat) (q : Seq) : (putSeq s x q).lcNext = s.lcNext := rfl
@[simp] theorem putSeq_lsrArmed (x : Nat) (q : Seq) : (putSeq s x q).lsrArmed = s.lsrArmed := rfl
@[simp] theorem putSeq_calWin (x : Nat) (q : Seq) : (putSeq s x q).calWin = s.calWin := rfl
@[simp] theorem putSeq_calSlots (x : Nat) (q : Seq) : (putSeq s x q).calSlots = s.calSlots := rfl
@[simp] theorem putSeq_calFails (x : Nat) (q : Seq) : (putSeq s x q).calFails = s.calFails := rfl
@[simp] theorem putSeq_calLast (x : Nat) (q : Seq) : (putSeq s x q).calLast = s.calLast := rfl
@[simp] theorem putSeq_calStale (x : Nat) (q : Seq) : (putSeq s x q).calStale = s.calStale := rfl
@[simp] theorem putSeq_calSets (x : Nat) (q : Seq) : (putSeq s x q).calSets = s.calSets := rfl
@[simp] theorem putSeq_calFirst (x : Nat) (q : Seq) : (putSeq s x q).calFirst = s.calFirst := rfl
@[simp] theorem putSeq_ports (x : Nat) (q : Seq) : (putSeq s x q).ports = s.ports := rfl
@[simp] theorem putSeq_rstAt (x : Nat) (q : Seq) : (putSeq s x q).rstAt = s.rstAt := rfl
@[simp] theorem putSeq_noticeAt (x : Nat) (q : Seq) : (putSeq s x q).noticeAt = s.noticeAt := rfl
@[simp] theorem putSeq_therm (x : Nat) (q : Seq) : (putSeq s x q).therm = s.therm := rfl
@[simp] theorem putSeq_seam (x : Nat) (q : Seq) : (putSeq s x q).seam = s.seam := rfl
@[simp] theorem putSeq_seamErrs (x : Nat) (q : Seq) : (putSeq s x q).seamErrs = s.seamErrs := rfl
@[simp] theorem putSeq_smpRuns (x : Nat) (q : Seq) : (putSeq s x q).smpRuns = s.smpRuns := rfl
@[simp] theorem putSeq_scans (x : Nat) (q : Seq) : (putSeq s x q).scans = s.scans := rfl
@[simp] theorem putSeq_gmbRuns (x : Nat) (q : Seq) : (putSeq s x q).gmbRuns = s.gmbRuns := rfl
@[simp] theorem putSeq_extBase (x : Nat) (q : Seq) : (putSeq s x q).extBase = s.extBase := rfl
@[simp] theorem putSeq_smpDisarm (x : Nat) (q : Seq) : (putSeq s x q).smpDisarm = s.smpDisarm := rfl
@[simp] theorem putSeq_mapNext (x : Nat) (q : Seq) : (putSeq s x q).mapNext = s.mapNext := rfl
@[simp] theorem putSeq_modRst (x : Nat) (q : Seq) : (putSeq s x q).modRst = s.modRst := rfl
@[simp] theorem putSeq_fuseFactory (x : Nat) (q : Seq) : (putSeq s x q).fuseFactory = s.fuseFactory := rfl
@[simp] theorem putSeq_unsaved (x : Nat) (q : Seq) : (putSeq s x q).unsaved = s.unsaved := rfl
@[simp] theorem putSeq_testRec (x : Nat) (q : Seq) : (putSeq s x q).testRec = s.testRec := rfl
@[simp] theorem putSeq_image0 (x : Nat) (q : Seq) : (putSeq s x q).image0 = s.image0 := rfl
@[simp] theorem putSeq_image1 (x : Nat) (q : Seq) : (putSeq s x q).image1 = s.image1 := rfl
@[simp] theorem putSeq_twins (x : Nat) (q : Seq) : (putSeq s x q).twins = s.twins := rfl
@[simp] theorem putSeq_update (x : Nat) (q : Seq) : (putSeq s x q).update = s.update := rfl
@[simp] theorem putSeq_areas (x : Nat) (q : Seq) : (putSeq s x q).areas = s.areas := rfl
@[simp] theorem putSeq_verify (x : Nat) (q : Seq) : (putSeq s x q).verify = s.verify := rfl
@[simp] theorem putSeq_errSaved (x : Nat) (q : Seq) : (putSeq s x q).errSaved = s.errSaved := rfl
@[simp] theorem putSeq_forcedAt (x : Nat) (q : Seq) : (putSeq s x q).forcedAt = s.forcedAt := rfl
@[simp] theorem putSeq_denyAt (x : Nat) (q : Seq) : (putSeq s x q).denyAt = s.denyAt := rfl
@[simp] theorem putSeq_capAt (x : Nat) (q : Seq) : (putSeq s x q).capAt = s.capAt := rfl
@[simp] theorem putSeq_draws (x : Nat) (q : Seq) : (putSeq s x q).draws = s.draws := rfl
@[simp] theorem putSeq_tap (x : Nat) (q : Seq) : (putSeq s x q).tap = s.tap := rfl
@[simp] theorem putSeq_out (x : Nat) (q : Seq) : (putSeq s x q).out = s.out := rfl
@[simp] theorem putSeq_pending (x : Nat) (q : Seq) : (putSeq s x q).pending = s.pending := rfl

@[simp] theorem putCore_time (c : Nat) (k : Core) : (putCore s c k).time = s.time := rfl
@[simp] theorem putCore_tempo (c : Nat) (k : Core) : (putCore s c k).tempo = s.tempo := rfl
@[simp] theorem putCore_regs (c : Nat) (k : Core) : (putCore s c k).regs = s.regs := rfl
@[simp] theorem putCore_raised (c : Nat) (k : Core) : (putCore s c k).raised = s.raised := rfl
@[simp] theorem putCore_hiLatch (c : Nat) (k : Core) : (putCore s c k).hiLatch = s.hiLatch := rfl
@[simp] theorem putCore_hold (c : Nat) (k : Core) : (putCore s c k).hold = s.hold := rfl
@[simp] theorem putCore_tmpLatch (c : Nat) (k : Core) : (putCore s c k).tmpLatch = s.tmpLatch := rfl
@[simp] theorem putCore_errLatch (c : Nat) (k : Core) : (putCore s c k).errLatch = s.errLatch := rfl
@[simp] theorem putCore_errIdx (c : Nat) (k : Core) : (putCore s c k).errIdx = s.errIdx := rfl
@[simp] theorem putCore_log (c : Nat) (k : Core) : (putCore s c k).log = s.log := rfl
@[simp] theorem putCore_msix (c : Nat) (k : Core) : (putCore s c k).msix = s.msix := rfl
@[simp] theorem putCore_seqs (c : Nat) (k : Core) : (putCore s c k).seqs = s.seqs := rfl
@[simp] theorem putCore_moveMem (c : Nat) (k : Core) : (putCore s c k).moveMem = s.moveMem := rfl
@[simp] theorem putCore_moveEcc (c : Nat) (k : Core) : (putCore s c k).moveEcc = s.moveEcc := rfl
@[simp] theorem putCore_mem (c : Nat) (k : Core) : (putCore s c k).mem = s.mem := rfl
@[simp] theorem putCore_lost (c : Nat) (k : Core) : (putCore s c k).lost = s.lost := rfl
@[simp] theorem putCore_since (c : Nat) (k : Core) : (putCore s c k).since = s.since := rfl
@[simp] theorem putCore_ue (c : Nat) (k : Core) : (putCore s c k).ue = s.ue := rfl
@[simp] theorem putCore_bankJobs (c : Nat) (k : Core) : (putCore s c k).bankJobs = s.bankJobs := rfl
@[simp] theorem putCore_bankNext (c : Nat) (k : Core) : (putCore s c k).bankNext = s.bankNext := rfl
@[simp] theorem putCore_lines (c : Nat) (k : Core) : (putCore s c k).lines = s.lines := rfl
@[simp] theorem putCore_fills (c : Nat) (k : Core) : (putCore s c k).fills = s.fills := rfl
@[simp] theorem putCore_dirs (c : Nat) (k : Core) : (putCore s c k).dirs = s.dirs := rfl
@[simp] theorem putCore_syncs (c : Nat) (k : Core) : (putCore s c k).syncs = s.syncs := rfl
@[simp] theorem putCore_shadows (c : Nat) (k : Core) : (putCore s c k).shadows = s.shadows := rfl
@[simp] theorem putCore_shadowMsgs (c : Nat) (k : Core) : (putCore s c k).shadowMsgs = s.shadowMsgs := rfl
@[simp] theorem putCore_tags (c : Nat) (k : Core) : (putCore s c k).tags = s.tags := rfl
@[simp] theorem putCore_gens (c : Nat) (k : Core) : (putCore s c k).gens = s.gens := rfl
@[simp] theorem putCore_tagWait (c : Nat) (k : Core) : (putCore s c k).tagWait = s.tagWait := rfl
@[simp] theorem putCore_tx (c : Nat) (k : Core) : (putCore s c k).tx = s.tx := rfl
@[simp] theorem putCore_rx (c : Nat) (k : Core) : (putCore s c k).rx = s.rx := rfl
@[simp] theorem putCore_copies (c : Nat) (k : Core) : (putCore s c k).copies = s.copies := rfl
@[simp] theorem putCore_copyNext (c : Nat) (k : Core) : (putCore s c k).copyNext = s.copyNext := rfl
@[simp] theorem putCore_copyWait (c : Nat) (k : Core) : (putCore s c k).copyWait = s.copyWait := rfl
@[simp] theorem putCore_copyTab (c : Nat) (k : Core) : (putCore s c k).copyTab = s.copyTab := rfl
@[simp] theorem putCore_copyLoad (c : Nat) (k : Core) : (putCore s c k).copyLoad = s.copyLoad := rfl
@[simp] theorem putCore_copyHeld (c : Nat) (k : Core) : (putCore s c k).copyHeld = s.copyHeld := rfl
@[simp] theorem putCore_dedups (c : Nat) (k : Core) : (putCore s c k).dedups = s.dedups := rfl
@[simp] theorem putCore_hot (c : Nat) (k : Core) : (putCore s c k).hot = s.hot := rfl
@[simp] theorem putCore_hotAt (c : Nat) (k : Core) : (putCore s c k).hotAt = s.hotAt := rfl
@[simp] theorem putCore_routes (c : Nat) (k : Core) : (putCore s c k).routes = s.routes := rfl
@[simp] theorem putCore_rtArmed (c : Nat) (k : Core) : (putCore s c k).rtArmed = s.rtArmed := rfl
@[simp] theorem putCore_rtSwitched (c : Nat) (k : Core) : (putCore s c k).rtSwitched = s.rtSwitched := rfl
@[simp] theorem putCore_throttles (c : Nat) (k : Core) : (putCore s c k).throttles = s.throttles := rfl
@[simp] theorem putCore_mcs (c : Nat) (k : Core) : (putCore s c k).mcs = s.mcs := rfl
@[simp] theorem putCore_mcCache (c : Nat) (k : Core) : (putCore s c k).mcCache = s.mcCache := rfl
@[simp] theorem putCore_cmap (c : Nat) (k : Core) : (putCore s c k).cmap = s.cmap := rfl
@[simp] theorem putCore_mapAt (c : Nat) (k : Core) : (putCore s c k).mapAt = s.mapAt := rfl
@[simp] theorem putCore_mapRecs (c : Nat) (k : Core) : (putCore s c k).mapRecs = s.mapRecs := rfl
@[simp] theorem putCore_mapActed (c : Nat) (k : Core) : (putCore s c k).mapActed = s.mapActed := rfl
@[simp] theorem putCore_mapCopied (c : Nat) (k : Core) : (putCore s c k).mapCopied = s.mapCopied := rfl
@[simp] theorem putCore_stackSt (c : Nat) (k : Core) : (putCore s c k).stackSt = s.stackSt := rfl
@[simp] theorem putCore_circs (c : Nat) (k : Core) : (putCore s c k).circs = s.circs := rfl
@[simp] theorem putCore_ringData (c : Nat) (k : Core) : (putCore s c k).ringData = s.ringData := rfl
@[simp] theorem putCore_smpStarted (c : Nat) (k : Core) : (putCore s c k).smpStarted = s.smpStarted := rfl
@[simp] theorem putCore_gmbStarted (c : Nat) (k : Core) : (putCore s c k).gmbStarted = s.gmbStarted := rfl
@[simp] theorem putCore_gmbPending (c : Nat) (k : Core) : (putCore s c k).gmbPending = s.gmbPending := rfl
@[simp] theorem putCore_hostDone (c : Nat) (k : Core) : (putCore s c k).hostDone = s.hostDone := rfl
@[simp] theorem putCore_gov (c : Nat) (k : Core) : (putCore s c k).gov = s.gov := rfl
@[simp] theorem putCore_ratios (c : Nat) (k : Core) : (putCore s c k).ratios = s.ratios := rfl
@[simp] theorem putCore_substs (c : Nat) (k : Core) : (putCore s c k).substs = s.substs := rfl
@[simp] theorem putCore_sramSpares (c : Nat) (k : Core) : (putCore s c k).sramSpares = s.sramSpares := rfl
@[simp] theorem putCore_sramCe (c : Nat) (k : Core) : (putCore s c k).sramCe = s.sramCe := rfl
@[simp] theorem putCore_fuseBank (c : Nat) (k : Core) : (putCore s c k).fuseBank = s.fuseBank := rfl
@[simp] theorem putCore_fuseQueue (c : Nat) (k : Core) : (putCore s c k).fuseQueue = s.fuseQueue := rfl
@[simp] theorem putCore_dieClk (c : Nat) (k : Core) : (putCore s c k).dieClk = s.dieClk := rfl
@[simp] theorem putCore_resets (c : Nat) (k : Core) : (putCore s c k).resets = s.resets := rfl
@[simp] theorem putCore_cluResets (c : Nat) (k : Core) : (putCore s c k).cluResets = s.cluResets := rfl
@[simp] theorem putCore_stops (c : Nat) (k : Core) : (putCore s c k).stops = s.stops := rfl
@[simp] theorem putCore_railDown (c : Nat) (k : Core) : (putCore s c k).railDown = s.railDown := rfl
@[simp] theorem putCore_lcNext (c : Nat) (k : Core) : (putCore s c k).lcNext = s.lcNext := rfl
@[simp] theorem putCore_lsrArmed (c : Nat) (k : Core) : (putCore s c k).lsrArmed = s.lsrArmed := rfl
@[simp] theorem putCore_calWin (c : Nat) (k : Core) : (putCore s c k).calWin = s.calWin := rfl
@[simp] theorem putCore_calSlots (c : Nat) (k : Core) : (putCore s c k).calSlots = s.calSlots := rfl
@[simp] theorem putCore_calFails (c : Nat) (k : Core) : (putCore s c k).calFails = s.calFails := rfl
@[simp] theorem putCore_calLast (c : Nat) (k : Core) : (putCore s c k).calLast = s.calLast := rfl
@[simp] theorem putCore_calStale (c : Nat) (k : Core) : (putCore s c k).calStale = s.calStale := rfl
@[simp] theorem putCore_calSets (c : Nat) (k : Core) : (putCore s c k).calSets = s.calSets := rfl
@[simp] theorem putCore_calFirst (c : Nat) (k : Core) : (putCore s c k).calFirst = s.calFirst := rfl
@[simp] theorem putCore_ports (c : Nat) (k : Core) : (putCore s c k).ports = s.ports := rfl
@[simp] theorem putCore_rstAt (c : Nat) (k : Core) : (putCore s c k).rstAt = s.rstAt := rfl
@[simp] theorem putCore_noticeAt (c : Nat) (k : Core) : (putCore s c k).noticeAt = s.noticeAt := rfl
@[simp] theorem putCore_therm (c : Nat) (k : Core) : (putCore s c k).therm = s.therm := rfl
@[simp] theorem putCore_seam (c : Nat) (k : Core) : (putCore s c k).seam = s.seam := rfl
@[simp] theorem putCore_seamErrs (c : Nat) (k : Core) : (putCore s c k).seamErrs = s.seamErrs := rfl
@[simp] theorem putCore_smpRuns (c : Nat) (k : Core) : (putCore s c k).smpRuns = s.smpRuns := rfl
@[simp] theorem putCore_scans (c : Nat) (k : Core) : (putCore s c k).scans = s.scans := rfl
@[simp] theorem putCore_gmbRuns (c : Nat) (k : Core) : (putCore s c k).gmbRuns = s.gmbRuns := rfl
@[simp] theorem putCore_extBase (c : Nat) (k : Core) : (putCore s c k).extBase = s.extBase := rfl
@[simp] theorem putCore_smpDisarm (c : Nat) (k : Core) : (putCore s c k).smpDisarm = s.smpDisarm := rfl
@[simp] theorem putCore_mapNext (c : Nat) (k : Core) : (putCore s c k).mapNext = s.mapNext := rfl
@[simp] theorem putCore_modRst (c : Nat) (k : Core) : (putCore s c k).modRst = s.modRst := rfl
@[simp] theorem putCore_fuseFactory (c : Nat) (k : Core) : (putCore s c k).fuseFactory = s.fuseFactory := rfl
@[simp] theorem putCore_unsaved (c : Nat) (k : Core) : (putCore s c k).unsaved = s.unsaved := rfl
@[simp] theorem putCore_testRec (c : Nat) (k : Core) : (putCore s c k).testRec = s.testRec := rfl
@[simp] theorem putCore_image0 (c : Nat) (k : Core) : (putCore s c k).image0 = s.image0 := rfl
@[simp] theorem putCore_image1 (c : Nat) (k : Core) : (putCore s c k).image1 = s.image1 := rfl
@[simp] theorem putCore_twins (c : Nat) (k : Core) : (putCore s c k).twins = s.twins := rfl
@[simp] theorem putCore_update (c : Nat) (k : Core) : (putCore s c k).update = s.update := rfl
@[simp] theorem putCore_areas (c : Nat) (k : Core) : (putCore s c k).areas = s.areas := rfl
@[simp] theorem putCore_verify (c : Nat) (k : Core) : (putCore s c k).verify = s.verify := rfl
@[simp] theorem putCore_errSaved (c : Nat) (k : Core) : (putCore s c k).errSaved = s.errSaved := rfl
@[simp] theorem putCore_forcedAt (c : Nat) (k : Core) : (putCore s c k).forcedAt = s.forcedAt := rfl
@[simp] theorem putCore_denyAt (c : Nat) (k : Core) : (putCore s c k).denyAt = s.denyAt := rfl
@[simp] theorem putCore_capAt (c : Nat) (k : Core) : (putCore s c k).capAt = s.capAt := rfl
@[simp] theorem putCore_draws (c : Nat) (k : Core) : (putCore s c k).draws = s.draws := rfl
@[simp] theorem putCore_tap (c : Nat) (k : Core) : (putCore s c k).tap = s.tap := rfl
@[simp] theorem putCore_out (c : Nat) (k : Core) : (putCore s c k).out = s.out := rfl
@[simp] theorem putCore_pending (c : Nat) (k : Core) : (putCore s c k).pending = s.pending := rfl

@[simp] theorem putSync_time (o : Nat) (k : SyncObj) : (putSync s o k).time = s.time := rfl
@[simp] theorem putSync_tempo (o : Nat) (k : SyncObj) : (putSync s o k).tempo = s.tempo := rfl
@[simp] theorem putSync_regs (o : Nat) (k : SyncObj) : (putSync s o k).regs = s.regs := rfl
@[simp] theorem putSync_raised (o : Nat) (k : SyncObj) : (putSync s o k).raised = s.raised := rfl
@[simp] theorem putSync_hiLatch (o : Nat) (k : SyncObj) : (putSync s o k).hiLatch = s.hiLatch := rfl
@[simp] theorem putSync_hold (o : Nat) (k : SyncObj) : (putSync s o k).hold = s.hold := rfl
@[simp] theorem putSync_tmpLatch (o : Nat) (k : SyncObj) : (putSync s o k).tmpLatch = s.tmpLatch := rfl
@[simp] theorem putSync_errLatch (o : Nat) (k : SyncObj) : (putSync s o k).errLatch = s.errLatch := rfl
@[simp] theorem putSync_errIdx (o : Nat) (k : SyncObj) : (putSync s o k).errIdx = s.errIdx := rfl
@[simp] theorem putSync_log (o : Nat) (k : SyncObj) : (putSync s o k).log = s.log := rfl
@[simp] theorem putSync_msix (o : Nat) (k : SyncObj) : (putSync s o k).msix = s.msix := rfl
@[simp] theorem putSync_seqs (o : Nat) (k : SyncObj) : (putSync s o k).seqs = s.seqs := rfl
@[simp] theorem putSync_moveMem (o : Nat) (k : SyncObj) : (putSync s o k).moveMem = s.moveMem := rfl
@[simp] theorem putSync_moveEcc (o : Nat) (k : SyncObj) : (putSync s o k).moveEcc = s.moveEcc := rfl
@[simp] theorem putSync_cores (o : Nat) (k : SyncObj) : (putSync s o k).cores = s.cores := rfl
@[simp] theorem putSync_mem (o : Nat) (k : SyncObj) : (putSync s o k).mem = s.mem := rfl
@[simp] theorem putSync_lost (o : Nat) (k : SyncObj) : (putSync s o k).lost = s.lost := rfl
@[simp] theorem putSync_since (o : Nat) (k : SyncObj) : (putSync s o k).since = s.since := rfl
@[simp] theorem putSync_ue (o : Nat) (k : SyncObj) : (putSync s o k).ue = s.ue := rfl
@[simp] theorem putSync_bankJobs (o : Nat) (k : SyncObj) : (putSync s o k).bankJobs = s.bankJobs := rfl
@[simp] theorem putSync_bankNext (o : Nat) (k : SyncObj) : (putSync s o k).bankNext = s.bankNext := rfl
@[simp] theorem putSync_lines (o : Nat) (k : SyncObj) : (putSync s o k).lines = s.lines := rfl
@[simp] theorem putSync_fills (o : Nat) (k : SyncObj) : (putSync s o k).fills = s.fills := rfl
@[simp] theorem putSync_dirs (o : Nat) (k : SyncObj) : (putSync s o k).dirs = s.dirs := rfl
@[simp] theorem putSync_shadows (o : Nat) (k : SyncObj) : (putSync s o k).shadows = s.shadows := rfl
@[simp] theorem putSync_shadowMsgs (o : Nat) (k : SyncObj) : (putSync s o k).shadowMsgs = s.shadowMsgs := rfl
@[simp] theorem putSync_tags (o : Nat) (k : SyncObj) : (putSync s o k).tags = s.tags := rfl
@[simp] theorem putSync_gens (o : Nat) (k : SyncObj) : (putSync s o k).gens = s.gens := rfl
@[simp] theorem putSync_tagWait (o : Nat) (k : SyncObj) : (putSync s o k).tagWait = s.tagWait := rfl
@[simp] theorem putSync_tx (o : Nat) (k : SyncObj) : (putSync s o k).tx = s.tx := rfl
@[simp] theorem putSync_rx (o : Nat) (k : SyncObj) : (putSync s o k).rx = s.rx := rfl
@[simp] theorem putSync_copies (o : Nat) (k : SyncObj) : (putSync s o k).copies = s.copies := rfl
@[simp] theorem putSync_copyNext (o : Nat) (k : SyncObj) : (putSync s o k).copyNext = s.copyNext := rfl
@[simp] theorem putSync_copyWait (o : Nat) (k : SyncObj) : (putSync s o k).copyWait = s.copyWait := rfl
@[simp] theorem putSync_copyTab (o : Nat) (k : SyncObj) : (putSync s o k).copyTab = s.copyTab := rfl
@[simp] theorem putSync_copyLoad (o : Nat) (k : SyncObj) : (putSync s o k).copyLoad = s.copyLoad := rfl
@[simp] theorem putSync_copyHeld (o : Nat) (k : SyncObj) : (putSync s o k).copyHeld = s.copyHeld := rfl
@[simp] theorem putSync_dedups (o : Nat) (k : SyncObj) : (putSync s o k).dedups = s.dedups := rfl
@[simp] theorem putSync_hot (o : Nat) (k : SyncObj) : (putSync s o k).hot = s.hot := rfl
@[simp] theorem putSync_hotAt (o : Nat) (k : SyncObj) : (putSync s o k).hotAt = s.hotAt := rfl
@[simp] theorem putSync_routes (o : Nat) (k : SyncObj) : (putSync s o k).routes = s.routes := rfl
@[simp] theorem putSync_rtArmed (o : Nat) (k : SyncObj) : (putSync s o k).rtArmed = s.rtArmed := rfl
@[simp] theorem putSync_rtSwitched (o : Nat) (k : SyncObj) : (putSync s o k).rtSwitched = s.rtSwitched := rfl
@[simp] theorem putSync_throttles (o : Nat) (k : SyncObj) : (putSync s o k).throttles = s.throttles := rfl
@[simp] theorem putSync_mcs (o : Nat) (k : SyncObj) : (putSync s o k).mcs = s.mcs := rfl
@[simp] theorem putSync_mcCache (o : Nat) (k : SyncObj) : (putSync s o k).mcCache = s.mcCache := rfl
@[simp] theorem putSync_cmap (o : Nat) (k : SyncObj) : (putSync s o k).cmap = s.cmap := rfl
@[simp] theorem putSync_mapAt (o : Nat) (k : SyncObj) : (putSync s o k).mapAt = s.mapAt := rfl
@[simp] theorem putSync_mapRecs (o : Nat) (k : SyncObj) : (putSync s o k).mapRecs = s.mapRecs := rfl
@[simp] theorem putSync_mapActed (o : Nat) (k : SyncObj) : (putSync s o k).mapActed = s.mapActed := rfl
@[simp] theorem putSync_mapCopied (o : Nat) (k : SyncObj) : (putSync s o k).mapCopied = s.mapCopied := rfl
@[simp] theorem putSync_stackSt (o : Nat) (k : SyncObj) : (putSync s o k).stackSt = s.stackSt := rfl
@[simp] theorem putSync_circs (o : Nat) (k : SyncObj) : (putSync s o k).circs = s.circs := rfl
@[simp] theorem putSync_ringData (o : Nat) (k : SyncObj) : (putSync s o k).ringData = s.ringData := rfl
@[simp] theorem putSync_smpStarted (o : Nat) (k : SyncObj) : (putSync s o k).smpStarted = s.smpStarted := rfl
@[simp] theorem putSync_gmbStarted (o : Nat) (k : SyncObj) : (putSync s o k).gmbStarted = s.gmbStarted := rfl
@[simp] theorem putSync_gmbPending (o : Nat) (k : SyncObj) : (putSync s o k).gmbPending = s.gmbPending := rfl
@[simp] theorem putSync_hostDone (o : Nat) (k : SyncObj) : (putSync s o k).hostDone = s.hostDone := rfl
@[simp] theorem putSync_gov (o : Nat) (k : SyncObj) : (putSync s o k).gov = s.gov := rfl
@[simp] theorem putSync_ratios (o : Nat) (k : SyncObj) : (putSync s o k).ratios = s.ratios := rfl
@[simp] theorem putSync_substs (o : Nat) (k : SyncObj) : (putSync s o k).substs = s.substs := rfl
@[simp] theorem putSync_sramSpares (o : Nat) (k : SyncObj) : (putSync s o k).sramSpares = s.sramSpares := rfl
@[simp] theorem putSync_sramCe (o : Nat) (k : SyncObj) : (putSync s o k).sramCe = s.sramCe := rfl
@[simp] theorem putSync_fuseBank (o : Nat) (k : SyncObj) : (putSync s o k).fuseBank = s.fuseBank := rfl
@[simp] theorem putSync_fuseQueue (o : Nat) (k : SyncObj) : (putSync s o k).fuseQueue = s.fuseQueue := rfl
@[simp] theorem putSync_dieClk (o : Nat) (k : SyncObj) : (putSync s o k).dieClk = s.dieClk := rfl
@[simp] theorem putSync_resets (o : Nat) (k : SyncObj) : (putSync s o k).resets = s.resets := rfl
@[simp] theorem putSync_cluResets (o : Nat) (k : SyncObj) : (putSync s o k).cluResets = s.cluResets := rfl
@[simp] theorem putSync_stops (o : Nat) (k : SyncObj) : (putSync s o k).stops = s.stops := rfl
@[simp] theorem putSync_railDown (o : Nat) (k : SyncObj) : (putSync s o k).railDown = s.railDown := rfl
@[simp] theorem putSync_lcNext (o : Nat) (k : SyncObj) : (putSync s o k).lcNext = s.lcNext := rfl
@[simp] theorem putSync_lsrArmed (o : Nat) (k : SyncObj) : (putSync s o k).lsrArmed = s.lsrArmed := rfl
@[simp] theorem putSync_calWin (o : Nat) (k : SyncObj) : (putSync s o k).calWin = s.calWin := rfl
@[simp] theorem putSync_calSlots (o : Nat) (k : SyncObj) : (putSync s o k).calSlots = s.calSlots := rfl
@[simp] theorem putSync_calFails (o : Nat) (k : SyncObj) : (putSync s o k).calFails = s.calFails := rfl
@[simp] theorem putSync_calLast (o : Nat) (k : SyncObj) : (putSync s o k).calLast = s.calLast := rfl
@[simp] theorem putSync_calStale (o : Nat) (k : SyncObj) : (putSync s o k).calStale = s.calStale := rfl
@[simp] theorem putSync_calSets (o : Nat) (k : SyncObj) : (putSync s o k).calSets = s.calSets := rfl
@[simp] theorem putSync_calFirst (o : Nat) (k : SyncObj) : (putSync s o k).calFirst = s.calFirst := rfl
@[simp] theorem putSync_ports (o : Nat) (k : SyncObj) : (putSync s o k).ports = s.ports := rfl
@[simp] theorem putSync_rstAt (o : Nat) (k : SyncObj) : (putSync s o k).rstAt = s.rstAt := rfl
@[simp] theorem putSync_noticeAt (o : Nat) (k : SyncObj) : (putSync s o k).noticeAt = s.noticeAt := rfl
@[simp] theorem putSync_therm (o : Nat) (k : SyncObj) : (putSync s o k).therm = s.therm := rfl
@[simp] theorem putSync_seam (o : Nat) (k : SyncObj) : (putSync s o k).seam = s.seam := rfl
@[simp] theorem putSync_seamErrs (o : Nat) (k : SyncObj) : (putSync s o k).seamErrs = s.seamErrs := rfl
@[simp] theorem putSync_smpRuns (o : Nat) (k : SyncObj) : (putSync s o k).smpRuns = s.smpRuns := rfl
@[simp] theorem putSync_scans (o : Nat) (k : SyncObj) : (putSync s o k).scans = s.scans := rfl
@[simp] theorem putSync_gmbRuns (o : Nat) (k : SyncObj) : (putSync s o k).gmbRuns = s.gmbRuns := rfl
@[simp] theorem putSync_extBase (o : Nat) (k : SyncObj) : (putSync s o k).extBase = s.extBase := rfl
@[simp] theorem putSync_smpDisarm (o : Nat) (k : SyncObj) : (putSync s o k).smpDisarm = s.smpDisarm := rfl
@[simp] theorem putSync_mapNext (o : Nat) (k : SyncObj) : (putSync s o k).mapNext = s.mapNext := rfl
@[simp] theorem putSync_modRst (o : Nat) (k : SyncObj) : (putSync s o k).modRst = s.modRst := rfl
@[simp] theorem putSync_fuseFactory (o : Nat) (k : SyncObj) : (putSync s o k).fuseFactory = s.fuseFactory := rfl
@[simp] theorem putSync_unsaved (o : Nat) (k : SyncObj) : (putSync s o k).unsaved = s.unsaved := rfl
@[simp] theorem putSync_testRec (o : Nat) (k : SyncObj) : (putSync s o k).testRec = s.testRec := rfl
@[simp] theorem putSync_image0 (o : Nat) (k : SyncObj) : (putSync s o k).image0 = s.image0 := rfl
@[simp] theorem putSync_image1 (o : Nat) (k : SyncObj) : (putSync s o k).image1 = s.image1 := rfl
@[simp] theorem putSync_twins (o : Nat) (k : SyncObj) : (putSync s o k).twins = s.twins := rfl
@[simp] theorem putSync_update (o : Nat) (k : SyncObj) : (putSync s o k).update = s.update := rfl
@[simp] theorem putSync_areas (o : Nat) (k : SyncObj) : (putSync s o k).areas = s.areas := rfl
@[simp] theorem putSync_verify (o : Nat) (k : SyncObj) : (putSync s o k).verify = s.verify := rfl
@[simp] theorem putSync_errSaved (o : Nat) (k : SyncObj) : (putSync s o k).errSaved = s.errSaved := rfl
@[simp] theorem putSync_forcedAt (o : Nat) (k : SyncObj) : (putSync s o k).forcedAt = s.forcedAt := rfl
@[simp] theorem putSync_denyAt (o : Nat) (k : SyncObj) : (putSync s o k).denyAt = s.denyAt := rfl
@[simp] theorem putSync_capAt (o : Nat) (k : SyncObj) : (putSync s o k).capAt = s.capAt := rfl
@[simp] theorem putSync_draws (o : Nat) (k : SyncObj) : (putSync s o k).draws = s.draws := rfl
@[simp] theorem putSync_tap (o : Nat) (k : SyncObj) : (putSync s o k).tap = s.tap := rfl
@[simp] theorem putSync_out (o : Nat) (k : SyncObj) : (putSync s o k).out = s.out := rfl
@[simp] theorem putSync_pending (o : Nat) (k : SyncObj) : (putSync s o k).pending = s.pending := rfl

@[simp] theorem putTx_time (l : Nat) (k : TxLink) : (putTx s l k).time = s.time := rfl
@[simp] theorem putTx_tempo (l : Nat) (k : TxLink) : (putTx s l k).tempo = s.tempo := rfl
@[simp] theorem putTx_regs (l : Nat) (k : TxLink) : (putTx s l k).regs = s.regs := rfl
@[simp] theorem putTx_raised (l : Nat) (k : TxLink) : (putTx s l k).raised = s.raised := rfl
@[simp] theorem putTx_hiLatch (l : Nat) (k : TxLink) : (putTx s l k).hiLatch = s.hiLatch := rfl
@[simp] theorem putTx_hold (l : Nat) (k : TxLink) : (putTx s l k).hold = s.hold := rfl
@[simp] theorem putTx_tmpLatch (l : Nat) (k : TxLink) : (putTx s l k).tmpLatch = s.tmpLatch := rfl
@[simp] theorem putTx_errLatch (l : Nat) (k : TxLink) : (putTx s l k).errLatch = s.errLatch := rfl
@[simp] theorem putTx_errIdx (l : Nat) (k : TxLink) : (putTx s l k).errIdx = s.errIdx := rfl
@[simp] theorem putTx_log (l : Nat) (k : TxLink) : (putTx s l k).log = s.log := rfl
@[simp] theorem putTx_msix (l : Nat) (k : TxLink) : (putTx s l k).msix = s.msix := rfl
@[simp] theorem putTx_seqs (l : Nat) (k : TxLink) : (putTx s l k).seqs = s.seqs := rfl
@[simp] theorem putTx_moveMem (l : Nat) (k : TxLink) : (putTx s l k).moveMem = s.moveMem := rfl
@[simp] theorem putTx_moveEcc (l : Nat) (k : TxLink) : (putTx s l k).moveEcc = s.moveEcc := rfl
@[simp] theorem putTx_cores (l : Nat) (k : TxLink) : (putTx s l k).cores = s.cores := rfl
@[simp] theorem putTx_mem (l : Nat) (k : TxLink) : (putTx s l k).mem = s.mem := rfl
@[simp] theorem putTx_lost (l : Nat) (k : TxLink) : (putTx s l k).lost = s.lost := rfl
@[simp] theorem putTx_since (l : Nat) (k : TxLink) : (putTx s l k).since = s.since := rfl
@[simp] theorem putTx_ue (l : Nat) (k : TxLink) : (putTx s l k).ue = s.ue := rfl
@[simp] theorem putTx_bankJobs (l : Nat) (k : TxLink) : (putTx s l k).bankJobs = s.bankJobs := rfl
@[simp] theorem putTx_bankNext (l : Nat) (k : TxLink) : (putTx s l k).bankNext = s.bankNext := rfl
@[simp] theorem putTx_lines (l : Nat) (k : TxLink) : (putTx s l k).lines = s.lines := rfl
@[simp] theorem putTx_fills (l : Nat) (k : TxLink) : (putTx s l k).fills = s.fills := rfl
@[simp] theorem putTx_dirs (l : Nat) (k : TxLink) : (putTx s l k).dirs = s.dirs := rfl
@[simp] theorem putTx_syncs (l : Nat) (k : TxLink) : (putTx s l k).syncs = s.syncs := rfl
@[simp] theorem putTx_shadows (l : Nat) (k : TxLink) : (putTx s l k).shadows = s.shadows := rfl
@[simp] theorem putTx_shadowMsgs (l : Nat) (k : TxLink) : (putTx s l k).shadowMsgs = s.shadowMsgs := rfl
@[simp] theorem putTx_tags (l : Nat) (k : TxLink) : (putTx s l k).tags = s.tags := rfl
@[simp] theorem putTx_gens (l : Nat) (k : TxLink) : (putTx s l k).gens = s.gens := rfl
@[simp] theorem putTx_tagWait (l : Nat) (k : TxLink) : (putTx s l k).tagWait = s.tagWait := rfl
@[simp] theorem putTx_rx (l : Nat) (k : TxLink) : (putTx s l k).rx = s.rx := rfl
@[simp] theorem putTx_copies (l : Nat) (k : TxLink) : (putTx s l k).copies = s.copies := rfl
@[simp] theorem putTx_copyNext (l : Nat) (k : TxLink) : (putTx s l k).copyNext = s.copyNext := rfl
@[simp] theorem putTx_copyWait (l : Nat) (k : TxLink) : (putTx s l k).copyWait = s.copyWait := rfl
@[simp] theorem putTx_copyTab (l : Nat) (k : TxLink) : (putTx s l k).copyTab = s.copyTab := rfl
@[simp] theorem putTx_copyLoad (l : Nat) (k : TxLink) : (putTx s l k).copyLoad = s.copyLoad := rfl
@[simp] theorem putTx_copyHeld (l : Nat) (k : TxLink) : (putTx s l k).copyHeld = s.copyHeld := rfl
@[simp] theorem putTx_dedups (l : Nat) (k : TxLink) : (putTx s l k).dedups = s.dedups := rfl
@[simp] theorem putTx_hot (l : Nat) (k : TxLink) : (putTx s l k).hot = s.hot := rfl
@[simp] theorem putTx_hotAt (l : Nat) (k : TxLink) : (putTx s l k).hotAt = s.hotAt := rfl
@[simp] theorem putTx_routes (l : Nat) (k : TxLink) : (putTx s l k).routes = s.routes := rfl
@[simp] theorem putTx_rtArmed (l : Nat) (k : TxLink) : (putTx s l k).rtArmed = s.rtArmed := rfl
@[simp] theorem putTx_rtSwitched (l : Nat) (k : TxLink) : (putTx s l k).rtSwitched = s.rtSwitched := rfl
@[simp] theorem putTx_throttles (l : Nat) (k : TxLink) : (putTx s l k).throttles = s.throttles := rfl
@[simp] theorem putTx_mcs (l : Nat) (k : TxLink) : (putTx s l k).mcs = s.mcs := rfl
@[simp] theorem putTx_mcCache (l : Nat) (k : TxLink) : (putTx s l k).mcCache = s.mcCache := rfl
@[simp] theorem putTx_cmap (l : Nat) (k : TxLink) : (putTx s l k).cmap = s.cmap := rfl
@[simp] theorem putTx_mapAt (l : Nat) (k : TxLink) : (putTx s l k).mapAt = s.mapAt := rfl
@[simp] theorem putTx_mapRecs (l : Nat) (k : TxLink) : (putTx s l k).mapRecs = s.mapRecs := rfl
@[simp] theorem putTx_mapActed (l : Nat) (k : TxLink) : (putTx s l k).mapActed = s.mapActed := rfl
@[simp] theorem putTx_mapCopied (l : Nat) (k : TxLink) : (putTx s l k).mapCopied = s.mapCopied := rfl
@[simp] theorem putTx_stackSt (l : Nat) (k : TxLink) : (putTx s l k).stackSt = s.stackSt := rfl
@[simp] theorem putTx_circs (l : Nat) (k : TxLink) : (putTx s l k).circs = s.circs := rfl
@[simp] theorem putTx_ringData (l : Nat) (k : TxLink) : (putTx s l k).ringData = s.ringData := rfl
@[simp] theorem putTx_smpStarted (l : Nat) (k : TxLink) : (putTx s l k).smpStarted = s.smpStarted := rfl
@[simp] theorem putTx_gmbStarted (l : Nat) (k : TxLink) : (putTx s l k).gmbStarted = s.gmbStarted := rfl
@[simp] theorem putTx_gmbPending (l : Nat) (k : TxLink) : (putTx s l k).gmbPending = s.gmbPending := rfl
@[simp] theorem putTx_hostDone (l : Nat) (k : TxLink) : (putTx s l k).hostDone = s.hostDone := rfl
@[simp] theorem putTx_gov (l : Nat) (k : TxLink) : (putTx s l k).gov = s.gov := rfl
@[simp] theorem putTx_ratios (l : Nat) (k : TxLink) : (putTx s l k).ratios = s.ratios := rfl
@[simp] theorem putTx_substs (l : Nat) (k : TxLink) : (putTx s l k).substs = s.substs := rfl
@[simp] theorem putTx_sramSpares (l : Nat) (k : TxLink) : (putTx s l k).sramSpares = s.sramSpares := rfl
@[simp] theorem putTx_sramCe (l : Nat) (k : TxLink) : (putTx s l k).sramCe = s.sramCe := rfl
@[simp] theorem putTx_fuseBank (l : Nat) (k : TxLink) : (putTx s l k).fuseBank = s.fuseBank := rfl
@[simp] theorem putTx_fuseQueue (l : Nat) (k : TxLink) : (putTx s l k).fuseQueue = s.fuseQueue := rfl
@[simp] theorem putTx_dieClk (l : Nat) (k : TxLink) : (putTx s l k).dieClk = s.dieClk := rfl
@[simp] theorem putTx_resets (l : Nat) (k : TxLink) : (putTx s l k).resets = s.resets := rfl
@[simp] theorem putTx_cluResets (l : Nat) (k : TxLink) : (putTx s l k).cluResets = s.cluResets := rfl
@[simp] theorem putTx_stops (l : Nat) (k : TxLink) : (putTx s l k).stops = s.stops := rfl
@[simp] theorem putTx_railDown (l : Nat) (k : TxLink) : (putTx s l k).railDown = s.railDown := rfl
@[simp] theorem putTx_lcNext (l : Nat) (k : TxLink) : (putTx s l k).lcNext = s.lcNext := rfl
@[simp] theorem putTx_lsrArmed (l : Nat) (k : TxLink) : (putTx s l k).lsrArmed = s.lsrArmed := rfl
@[simp] theorem putTx_calWin (l : Nat) (k : TxLink) : (putTx s l k).calWin = s.calWin := rfl
@[simp] theorem putTx_calSlots (l : Nat) (k : TxLink) : (putTx s l k).calSlots = s.calSlots := rfl
@[simp] theorem putTx_calFails (l : Nat) (k : TxLink) : (putTx s l k).calFails = s.calFails := rfl
@[simp] theorem putTx_calLast (l : Nat) (k : TxLink) : (putTx s l k).calLast = s.calLast := rfl
@[simp] theorem putTx_calStale (l : Nat) (k : TxLink) : (putTx s l k).calStale = s.calStale := rfl
@[simp] theorem putTx_calSets (l : Nat) (k : TxLink) : (putTx s l k).calSets = s.calSets := rfl
@[simp] theorem putTx_calFirst (l : Nat) (k : TxLink) : (putTx s l k).calFirst = s.calFirst := rfl
@[simp] theorem putTx_ports (l : Nat) (k : TxLink) : (putTx s l k).ports = s.ports := rfl
@[simp] theorem putTx_rstAt (l : Nat) (k : TxLink) : (putTx s l k).rstAt = s.rstAt := rfl
@[simp] theorem putTx_noticeAt (l : Nat) (k : TxLink) : (putTx s l k).noticeAt = s.noticeAt := rfl
@[simp] theorem putTx_therm (l : Nat) (k : TxLink) : (putTx s l k).therm = s.therm := rfl
@[simp] theorem putTx_seam (l : Nat) (k : TxLink) : (putTx s l k).seam = s.seam := rfl
@[simp] theorem putTx_seamErrs (l : Nat) (k : TxLink) : (putTx s l k).seamErrs = s.seamErrs := rfl
@[simp] theorem putTx_smpRuns (l : Nat) (k : TxLink) : (putTx s l k).smpRuns = s.smpRuns := rfl
@[simp] theorem putTx_scans (l : Nat) (k : TxLink) : (putTx s l k).scans = s.scans := rfl
@[simp] theorem putTx_gmbRuns (l : Nat) (k : TxLink) : (putTx s l k).gmbRuns = s.gmbRuns := rfl
@[simp] theorem putTx_extBase (l : Nat) (k : TxLink) : (putTx s l k).extBase = s.extBase := rfl
@[simp] theorem putTx_smpDisarm (l : Nat) (k : TxLink) : (putTx s l k).smpDisarm = s.smpDisarm := rfl
@[simp] theorem putTx_mapNext (l : Nat) (k : TxLink) : (putTx s l k).mapNext = s.mapNext := rfl
@[simp] theorem putTx_modRst (l : Nat) (k : TxLink) : (putTx s l k).modRst = s.modRst := rfl
@[simp] theorem putTx_fuseFactory (l : Nat) (k : TxLink) : (putTx s l k).fuseFactory = s.fuseFactory := rfl
@[simp] theorem putTx_unsaved (l : Nat) (k : TxLink) : (putTx s l k).unsaved = s.unsaved := rfl
@[simp] theorem putTx_testRec (l : Nat) (k : TxLink) : (putTx s l k).testRec = s.testRec := rfl
@[simp] theorem putTx_image0 (l : Nat) (k : TxLink) : (putTx s l k).image0 = s.image0 := rfl
@[simp] theorem putTx_image1 (l : Nat) (k : TxLink) : (putTx s l k).image1 = s.image1 := rfl
@[simp] theorem putTx_twins (l : Nat) (k : TxLink) : (putTx s l k).twins = s.twins := rfl
@[simp] theorem putTx_update (l : Nat) (k : TxLink) : (putTx s l k).update = s.update := rfl
@[simp] theorem putTx_areas (l : Nat) (k : TxLink) : (putTx s l k).areas = s.areas := rfl
@[simp] theorem putTx_verify (l : Nat) (k : TxLink) : (putTx s l k).verify = s.verify := rfl
@[simp] theorem putTx_errSaved (l : Nat) (k : TxLink) : (putTx s l k).errSaved = s.errSaved := rfl
@[simp] theorem putTx_forcedAt (l : Nat) (k : TxLink) : (putTx s l k).forcedAt = s.forcedAt := rfl
@[simp] theorem putTx_denyAt (l : Nat) (k : TxLink) : (putTx s l k).denyAt = s.denyAt := rfl
@[simp] theorem putTx_capAt (l : Nat) (k : TxLink) : (putTx s l k).capAt = s.capAt := rfl
@[simp] theorem putTx_draws (l : Nat) (k : TxLink) : (putTx s l k).draws = s.draws := rfl
@[simp] theorem putTx_tap (l : Nat) (k : TxLink) : (putTx s l k).tap = s.tap := rfl
@[simp] theorem putTx_out (l : Nat) (k : TxLink) : (putTx s l k).out = s.out := rfl
@[simp] theorem putTx_pending (l : Nat) (k : TxLink) : (putTx s l k).pending = s.pending := rfl

@[simp] theorem putRx_time (l : Nat) (k : RxLink) : (putRx s l k).time = s.time := rfl
@[simp] theorem putRx_tempo (l : Nat) (k : RxLink) : (putRx s l k).tempo = s.tempo := rfl
@[simp] theorem putRx_regs (l : Nat) (k : RxLink) : (putRx s l k).regs = s.regs := rfl
@[simp] theorem putRx_raised (l : Nat) (k : RxLink) : (putRx s l k).raised = s.raised := rfl
@[simp] theorem putRx_hiLatch (l : Nat) (k : RxLink) : (putRx s l k).hiLatch = s.hiLatch := rfl
@[simp] theorem putRx_hold (l : Nat) (k : RxLink) : (putRx s l k).hold = s.hold := rfl
@[simp] theorem putRx_tmpLatch (l : Nat) (k : RxLink) : (putRx s l k).tmpLatch = s.tmpLatch := rfl
@[simp] theorem putRx_errLatch (l : Nat) (k : RxLink) : (putRx s l k).errLatch = s.errLatch := rfl
@[simp] theorem putRx_errIdx (l : Nat) (k : RxLink) : (putRx s l k).errIdx = s.errIdx := rfl
@[simp] theorem putRx_log (l : Nat) (k : RxLink) : (putRx s l k).log = s.log := rfl
@[simp] theorem putRx_msix (l : Nat) (k : RxLink) : (putRx s l k).msix = s.msix := rfl
@[simp] theorem putRx_seqs (l : Nat) (k : RxLink) : (putRx s l k).seqs = s.seqs := rfl
@[simp] theorem putRx_moveMem (l : Nat) (k : RxLink) : (putRx s l k).moveMem = s.moveMem := rfl
@[simp] theorem putRx_moveEcc (l : Nat) (k : RxLink) : (putRx s l k).moveEcc = s.moveEcc := rfl
@[simp] theorem putRx_cores (l : Nat) (k : RxLink) : (putRx s l k).cores = s.cores := rfl
@[simp] theorem putRx_mem (l : Nat) (k : RxLink) : (putRx s l k).mem = s.mem := rfl
@[simp] theorem putRx_lost (l : Nat) (k : RxLink) : (putRx s l k).lost = s.lost := rfl
@[simp] theorem putRx_since (l : Nat) (k : RxLink) : (putRx s l k).since = s.since := rfl
@[simp] theorem putRx_ue (l : Nat) (k : RxLink) : (putRx s l k).ue = s.ue := rfl
@[simp] theorem putRx_bankJobs (l : Nat) (k : RxLink) : (putRx s l k).bankJobs = s.bankJobs := rfl
@[simp] theorem putRx_bankNext (l : Nat) (k : RxLink) : (putRx s l k).bankNext = s.bankNext := rfl
@[simp] theorem putRx_lines (l : Nat) (k : RxLink) : (putRx s l k).lines = s.lines := rfl
@[simp] theorem putRx_fills (l : Nat) (k : RxLink) : (putRx s l k).fills = s.fills := rfl
@[simp] theorem putRx_dirs (l : Nat) (k : RxLink) : (putRx s l k).dirs = s.dirs := rfl
@[simp] theorem putRx_syncs (l : Nat) (k : RxLink) : (putRx s l k).syncs = s.syncs := rfl
@[simp] theorem putRx_shadows (l : Nat) (k : RxLink) : (putRx s l k).shadows = s.shadows := rfl
@[simp] theorem putRx_shadowMsgs (l : Nat) (k : RxLink) : (putRx s l k).shadowMsgs = s.shadowMsgs := rfl
@[simp] theorem putRx_tags (l : Nat) (k : RxLink) : (putRx s l k).tags = s.tags := rfl
@[simp] theorem putRx_gens (l : Nat) (k : RxLink) : (putRx s l k).gens = s.gens := rfl
@[simp] theorem putRx_tagWait (l : Nat) (k : RxLink) : (putRx s l k).tagWait = s.tagWait := rfl
@[simp] theorem putRx_tx (l : Nat) (k : RxLink) : (putRx s l k).tx = s.tx := rfl
@[simp] theorem putRx_copies (l : Nat) (k : RxLink) : (putRx s l k).copies = s.copies := rfl
@[simp] theorem putRx_copyNext (l : Nat) (k : RxLink) : (putRx s l k).copyNext = s.copyNext := rfl
@[simp] theorem putRx_copyWait (l : Nat) (k : RxLink) : (putRx s l k).copyWait = s.copyWait := rfl
@[simp] theorem putRx_copyTab (l : Nat) (k : RxLink) : (putRx s l k).copyTab = s.copyTab := rfl
@[simp] theorem putRx_copyLoad (l : Nat) (k : RxLink) : (putRx s l k).copyLoad = s.copyLoad := rfl
@[simp] theorem putRx_copyHeld (l : Nat) (k : RxLink) : (putRx s l k).copyHeld = s.copyHeld := rfl
@[simp] theorem putRx_dedups (l : Nat) (k : RxLink) : (putRx s l k).dedups = s.dedups := rfl
@[simp] theorem putRx_hot (l : Nat) (k : RxLink) : (putRx s l k).hot = s.hot := rfl
@[simp] theorem putRx_hotAt (l : Nat) (k : RxLink) : (putRx s l k).hotAt = s.hotAt := rfl
@[simp] theorem putRx_routes (l : Nat) (k : RxLink) : (putRx s l k).routes = s.routes := rfl
@[simp] theorem putRx_rtArmed (l : Nat) (k : RxLink) : (putRx s l k).rtArmed = s.rtArmed := rfl
@[simp] theorem putRx_rtSwitched (l : Nat) (k : RxLink) : (putRx s l k).rtSwitched = s.rtSwitched := rfl
@[simp] theorem putRx_throttles (l : Nat) (k : RxLink) : (putRx s l k).throttles = s.throttles := rfl
@[simp] theorem putRx_mcs (l : Nat) (k : RxLink) : (putRx s l k).mcs = s.mcs := rfl
@[simp] theorem putRx_mcCache (l : Nat) (k : RxLink) : (putRx s l k).mcCache = s.mcCache := rfl
@[simp] theorem putRx_cmap (l : Nat) (k : RxLink) : (putRx s l k).cmap = s.cmap := rfl
@[simp] theorem putRx_mapAt (l : Nat) (k : RxLink) : (putRx s l k).mapAt = s.mapAt := rfl
@[simp] theorem putRx_mapRecs (l : Nat) (k : RxLink) : (putRx s l k).mapRecs = s.mapRecs := rfl
@[simp] theorem putRx_mapActed (l : Nat) (k : RxLink) : (putRx s l k).mapActed = s.mapActed := rfl
@[simp] theorem putRx_mapCopied (l : Nat) (k : RxLink) : (putRx s l k).mapCopied = s.mapCopied := rfl
@[simp] theorem putRx_stackSt (l : Nat) (k : RxLink) : (putRx s l k).stackSt = s.stackSt := rfl
@[simp] theorem putRx_circs (l : Nat) (k : RxLink) : (putRx s l k).circs = s.circs := rfl
@[simp] theorem putRx_ringData (l : Nat) (k : RxLink) : (putRx s l k).ringData = s.ringData := rfl
@[simp] theorem putRx_smpStarted (l : Nat) (k : RxLink) : (putRx s l k).smpStarted = s.smpStarted := rfl
@[simp] theorem putRx_gmbStarted (l : Nat) (k : RxLink) : (putRx s l k).gmbStarted = s.gmbStarted := rfl
@[simp] theorem putRx_gmbPending (l : Nat) (k : RxLink) : (putRx s l k).gmbPending = s.gmbPending := rfl
@[simp] theorem putRx_hostDone (l : Nat) (k : RxLink) : (putRx s l k).hostDone = s.hostDone := rfl
@[simp] theorem putRx_gov (l : Nat) (k : RxLink) : (putRx s l k).gov = s.gov := rfl
@[simp] theorem putRx_ratios (l : Nat) (k : RxLink) : (putRx s l k).ratios = s.ratios := rfl
@[simp] theorem putRx_substs (l : Nat) (k : RxLink) : (putRx s l k).substs = s.substs := rfl
@[simp] theorem putRx_sramSpares (l : Nat) (k : RxLink) : (putRx s l k).sramSpares = s.sramSpares := rfl
@[simp] theorem putRx_sramCe (l : Nat) (k : RxLink) : (putRx s l k).sramCe = s.sramCe := rfl
@[simp] theorem putRx_fuseBank (l : Nat) (k : RxLink) : (putRx s l k).fuseBank = s.fuseBank := rfl
@[simp] theorem putRx_fuseQueue (l : Nat) (k : RxLink) : (putRx s l k).fuseQueue = s.fuseQueue := rfl
@[simp] theorem putRx_dieClk (l : Nat) (k : RxLink) : (putRx s l k).dieClk = s.dieClk := rfl
@[simp] theorem putRx_resets (l : Nat) (k : RxLink) : (putRx s l k).resets = s.resets := rfl
@[simp] theorem putRx_cluResets (l : Nat) (k : RxLink) : (putRx s l k).cluResets = s.cluResets := rfl
@[simp] theorem putRx_stops (l : Nat) (k : RxLink) : (putRx s l k).stops = s.stops := rfl
@[simp] theorem putRx_railDown (l : Nat) (k : RxLink) : (putRx s l k).railDown = s.railDown := rfl
@[simp] theorem putRx_lcNext (l : Nat) (k : RxLink) : (putRx s l k).lcNext = s.lcNext := rfl
@[simp] theorem putRx_lsrArmed (l : Nat) (k : RxLink) : (putRx s l k).lsrArmed = s.lsrArmed := rfl
@[simp] theorem putRx_calWin (l : Nat) (k : RxLink) : (putRx s l k).calWin = s.calWin := rfl
@[simp] theorem putRx_calSlots (l : Nat) (k : RxLink) : (putRx s l k).calSlots = s.calSlots := rfl
@[simp] theorem putRx_calFails (l : Nat) (k : RxLink) : (putRx s l k).calFails = s.calFails := rfl
@[simp] theorem putRx_calLast (l : Nat) (k : RxLink) : (putRx s l k).calLast = s.calLast := rfl
@[simp] theorem putRx_calStale (l : Nat) (k : RxLink) : (putRx s l k).calStale = s.calStale := rfl
@[simp] theorem putRx_calSets (l : Nat) (k : RxLink) : (putRx s l k).calSets = s.calSets := rfl
@[simp] theorem putRx_calFirst (l : Nat) (k : RxLink) : (putRx s l k).calFirst = s.calFirst := rfl
@[simp] theorem putRx_ports (l : Nat) (k : RxLink) : (putRx s l k).ports = s.ports := rfl
@[simp] theorem putRx_rstAt (l : Nat) (k : RxLink) : (putRx s l k).rstAt = s.rstAt := rfl
@[simp] theorem putRx_noticeAt (l : Nat) (k : RxLink) : (putRx s l k).noticeAt = s.noticeAt := rfl
@[simp] theorem putRx_therm (l : Nat) (k : RxLink) : (putRx s l k).therm = s.therm := rfl
@[simp] theorem putRx_seam (l : Nat) (k : RxLink) : (putRx s l k).seam = s.seam := rfl
@[simp] theorem putRx_seamErrs (l : Nat) (k : RxLink) : (putRx s l k).seamErrs = s.seamErrs := rfl
@[simp] theorem putRx_smpRuns (l : Nat) (k : RxLink) : (putRx s l k).smpRuns = s.smpRuns := rfl
@[simp] theorem putRx_scans (l : Nat) (k : RxLink) : (putRx s l k).scans = s.scans := rfl
@[simp] theorem putRx_gmbRuns (l : Nat) (k : RxLink) : (putRx s l k).gmbRuns = s.gmbRuns := rfl
@[simp] theorem putRx_extBase (l : Nat) (k : RxLink) : (putRx s l k).extBase = s.extBase := rfl
@[simp] theorem putRx_smpDisarm (l : Nat) (k : RxLink) : (putRx s l k).smpDisarm = s.smpDisarm := rfl
@[simp] theorem putRx_mapNext (l : Nat) (k : RxLink) : (putRx s l k).mapNext = s.mapNext := rfl
@[simp] theorem putRx_modRst (l : Nat) (k : RxLink) : (putRx s l k).modRst = s.modRst := rfl
@[simp] theorem putRx_fuseFactory (l : Nat) (k : RxLink) : (putRx s l k).fuseFactory = s.fuseFactory := rfl
@[simp] theorem putRx_unsaved (l : Nat) (k : RxLink) : (putRx s l k).unsaved = s.unsaved := rfl
@[simp] theorem putRx_testRec (l : Nat) (k : RxLink) : (putRx s l k).testRec = s.testRec := rfl
@[simp] theorem putRx_image0 (l : Nat) (k : RxLink) : (putRx s l k).image0 = s.image0 := rfl
@[simp] theorem putRx_image1 (l : Nat) (k : RxLink) : (putRx s l k).image1 = s.image1 := rfl
@[simp] theorem putRx_twins (l : Nat) (k : RxLink) : (putRx s l k).twins = s.twins := rfl
@[simp] theorem putRx_update (l : Nat) (k : RxLink) : (putRx s l k).update = s.update := rfl
@[simp] theorem putRx_areas (l : Nat) (k : RxLink) : (putRx s l k).areas = s.areas := rfl
@[simp] theorem putRx_verify (l : Nat) (k : RxLink) : (putRx s l k).verify = s.verify := rfl
@[simp] theorem putRx_errSaved (l : Nat) (k : RxLink) : (putRx s l k).errSaved = s.errSaved := rfl
@[simp] theorem putRx_forcedAt (l : Nat) (k : RxLink) : (putRx s l k).forcedAt = s.forcedAt := rfl
@[simp] theorem putRx_denyAt (l : Nat) (k : RxLink) : (putRx s l k).denyAt = s.denyAt := rfl
@[simp] theorem putRx_capAt (l : Nat) (k : RxLink) : (putRx s l k).capAt = s.capAt := rfl
@[simp] theorem putRx_draws (l : Nat) (k : RxLink) : (putRx s l k).draws = s.draws := rfl
@[simp] theorem putRx_tap (l : Nat) (k : RxLink) : (putRx s l k).tap = s.tap := rfl
@[simp] theorem putRx_out (l : Nat) (k : RxLink) : (putRx s l k).out = s.out := rfl
@[simp] theorem putRx_pending (l : Nat) (k : RxLink) : (putRx s l k).pending = s.pending := rfl

@[simp] theorem putStack_time (k : Nat) (x : Stack) : (putStack s k x).time = s.time := rfl
@[simp] theorem putStack_tempo (k : Nat) (x : Stack) : (putStack s k x).tempo = s.tempo := rfl
@[simp] theorem putStack_regs (k : Nat) (x : Stack) : (putStack s k x).regs = s.regs := rfl
@[simp] theorem putStack_raised (k : Nat) (x : Stack) : (putStack s k x).raised = s.raised := rfl
@[simp] theorem putStack_hiLatch (k : Nat) (x : Stack) : (putStack s k x).hiLatch = s.hiLatch := rfl
@[simp] theorem putStack_hold (k : Nat) (x : Stack) : (putStack s k x).hold = s.hold := rfl
@[simp] theorem putStack_tmpLatch (k : Nat) (x : Stack) : (putStack s k x).tmpLatch = s.tmpLatch := rfl
@[simp] theorem putStack_errLatch (k : Nat) (x : Stack) : (putStack s k x).errLatch = s.errLatch := rfl
@[simp] theorem putStack_errIdx (k : Nat) (x : Stack) : (putStack s k x).errIdx = s.errIdx := rfl
@[simp] theorem putStack_log (k : Nat) (x : Stack) : (putStack s k x).log = s.log := rfl
@[simp] theorem putStack_msix (k : Nat) (x : Stack) : (putStack s k x).msix = s.msix := rfl
@[simp] theorem putStack_seqs (k : Nat) (x : Stack) : (putStack s k x).seqs = s.seqs := rfl
@[simp] theorem putStack_moveMem (k : Nat) (x : Stack) : (putStack s k x).moveMem = s.moveMem := rfl
@[simp] theorem putStack_moveEcc (k : Nat) (x : Stack) : (putStack s k x).moveEcc = s.moveEcc := rfl
@[simp] theorem putStack_cores (k : Nat) (x : Stack) : (putStack s k x).cores = s.cores := rfl
@[simp] theorem putStack_mem (k : Nat) (x : Stack) : (putStack s k x).mem = s.mem := rfl
@[simp] theorem putStack_lost (k : Nat) (x : Stack) : (putStack s k x).lost = s.lost := rfl
@[simp] theorem putStack_since (k : Nat) (x : Stack) : (putStack s k x).since = s.since := rfl
@[simp] theorem putStack_ue (k : Nat) (x : Stack) : (putStack s k x).ue = s.ue := rfl
@[simp] theorem putStack_bankJobs (k : Nat) (x : Stack) : (putStack s k x).bankJobs = s.bankJobs := rfl
@[simp] theorem putStack_bankNext (k : Nat) (x : Stack) : (putStack s k x).bankNext = s.bankNext := rfl
@[simp] theorem putStack_lines (k : Nat) (x : Stack) : (putStack s k x).lines = s.lines := rfl
@[simp] theorem putStack_fills (k : Nat) (x : Stack) : (putStack s k x).fills = s.fills := rfl
@[simp] theorem putStack_dirs (k : Nat) (x : Stack) : (putStack s k x).dirs = s.dirs := rfl
@[simp] theorem putStack_syncs (k : Nat) (x : Stack) : (putStack s k x).syncs = s.syncs := rfl
@[simp] theorem putStack_shadows (k : Nat) (x : Stack) : (putStack s k x).shadows = s.shadows := rfl
@[simp] theorem putStack_shadowMsgs (k : Nat) (x : Stack) : (putStack s k x).shadowMsgs = s.shadowMsgs := rfl
@[simp] theorem putStack_tags (k : Nat) (x : Stack) : (putStack s k x).tags = s.tags := rfl
@[simp] theorem putStack_gens (k : Nat) (x : Stack) : (putStack s k x).gens = s.gens := rfl
@[simp] theorem putStack_tagWait (k : Nat) (x : Stack) : (putStack s k x).tagWait = s.tagWait := rfl
@[simp] theorem putStack_tx (k : Nat) (x : Stack) : (putStack s k x).tx = s.tx := rfl
@[simp] theorem putStack_rx (k : Nat) (x : Stack) : (putStack s k x).rx = s.rx := rfl
@[simp] theorem putStack_copies (k : Nat) (x : Stack) : (putStack s k x).copies = s.copies := rfl
@[simp] theorem putStack_copyNext (k : Nat) (x : Stack) : (putStack s k x).copyNext = s.copyNext := rfl
@[simp] theorem putStack_copyWait (k : Nat) (x : Stack) : (putStack s k x).copyWait = s.copyWait := rfl
@[simp] theorem putStack_copyTab (k : Nat) (x : Stack) : (putStack s k x).copyTab = s.copyTab := rfl
@[simp] theorem putStack_copyLoad (k : Nat) (x : Stack) : (putStack s k x).copyLoad = s.copyLoad := rfl
@[simp] theorem putStack_copyHeld (k : Nat) (x : Stack) : (putStack s k x).copyHeld = s.copyHeld := rfl
@[simp] theorem putStack_dedups (k : Nat) (x : Stack) : (putStack s k x).dedups = s.dedups := rfl
@[simp] theorem putStack_hot (k : Nat) (x : Stack) : (putStack s k x).hot = s.hot := rfl
@[simp] theorem putStack_hotAt (k : Nat) (x : Stack) : (putStack s k x).hotAt = s.hotAt := rfl
@[simp] theorem putStack_routes (k : Nat) (x : Stack) : (putStack s k x).routes = s.routes := rfl
@[simp] theorem putStack_rtArmed (k : Nat) (x : Stack) : (putStack s k x).rtArmed = s.rtArmed := rfl
@[simp] theorem putStack_rtSwitched (k : Nat) (x : Stack) : (putStack s k x).rtSwitched = s.rtSwitched := rfl
@[simp] theorem putStack_throttles (k : Nat) (x : Stack) : (putStack s k x).throttles = s.throttles := rfl
@[simp] theorem putStack_mcs (k : Nat) (x : Stack) : (putStack s k x).mcs = s.mcs := rfl
@[simp] theorem putStack_mcCache (k : Nat) (x : Stack) : (putStack s k x).mcCache = s.mcCache := rfl
@[simp] theorem putStack_cmap (k : Nat) (x : Stack) : (putStack s k x).cmap = s.cmap := rfl
@[simp] theorem putStack_mapAt (k : Nat) (x : Stack) : (putStack s k x).mapAt = s.mapAt := rfl
@[simp] theorem putStack_mapRecs (k : Nat) (x : Stack) : (putStack s k x).mapRecs = s.mapRecs := rfl
@[simp] theorem putStack_mapActed (k : Nat) (x : Stack) : (putStack s k x).mapActed = s.mapActed := rfl
@[simp] theorem putStack_mapCopied (k : Nat) (x : Stack) : (putStack s k x).mapCopied = s.mapCopied := rfl
@[simp] theorem putStack_circs (k : Nat) (x : Stack) : (putStack s k x).circs = s.circs := rfl
@[simp] theorem putStack_ringData (k : Nat) (x : Stack) : (putStack s k x).ringData = s.ringData := rfl
@[simp] theorem putStack_smpStarted (k : Nat) (x : Stack) : (putStack s k x).smpStarted = s.smpStarted := rfl
@[simp] theorem putStack_gmbStarted (k : Nat) (x : Stack) : (putStack s k x).gmbStarted = s.gmbStarted := rfl
@[simp] theorem putStack_gmbPending (k : Nat) (x : Stack) : (putStack s k x).gmbPending = s.gmbPending := rfl
@[simp] theorem putStack_hostDone (k : Nat) (x : Stack) : (putStack s k x).hostDone = s.hostDone := rfl
@[simp] theorem putStack_gov (k : Nat) (x : Stack) : (putStack s k x).gov = s.gov := rfl
@[simp] theorem putStack_ratios (k : Nat) (x : Stack) : (putStack s k x).ratios = s.ratios := rfl
@[simp] theorem putStack_substs (k : Nat) (x : Stack) : (putStack s k x).substs = s.substs := rfl
@[simp] theorem putStack_sramSpares (k : Nat) (x : Stack) : (putStack s k x).sramSpares = s.sramSpares := rfl
@[simp] theorem putStack_sramCe (k : Nat) (x : Stack) : (putStack s k x).sramCe = s.sramCe := rfl
@[simp] theorem putStack_fuseBank (k : Nat) (x : Stack) : (putStack s k x).fuseBank = s.fuseBank := rfl
@[simp] theorem putStack_fuseQueue (k : Nat) (x : Stack) : (putStack s k x).fuseQueue = s.fuseQueue := rfl
@[simp] theorem putStack_dieClk (k : Nat) (x : Stack) : (putStack s k x).dieClk = s.dieClk := rfl
@[simp] theorem putStack_resets (k : Nat) (x : Stack) : (putStack s k x).resets = s.resets := rfl
@[simp] theorem putStack_cluResets (k : Nat) (x : Stack) : (putStack s k x).cluResets = s.cluResets := rfl
@[simp] theorem putStack_stops (k : Nat) (x : Stack) : (putStack s k x).stops = s.stops := rfl
@[simp] theorem putStack_railDown (k : Nat) (x : Stack) : (putStack s k x).railDown = s.railDown := rfl
@[simp] theorem putStack_lcNext (k : Nat) (x : Stack) : (putStack s k x).lcNext = s.lcNext := rfl
@[simp] theorem putStack_lsrArmed (k : Nat) (x : Stack) : (putStack s k x).lsrArmed = s.lsrArmed := rfl
@[simp] theorem putStack_calWin (k : Nat) (x : Stack) : (putStack s k x).calWin = s.calWin := rfl
@[simp] theorem putStack_calSlots (k : Nat) (x : Stack) : (putStack s k x).calSlots = s.calSlots := rfl
@[simp] theorem putStack_calFails (k : Nat) (x : Stack) : (putStack s k x).calFails = s.calFails := rfl
@[simp] theorem putStack_calLast (k : Nat) (x : Stack) : (putStack s k x).calLast = s.calLast := rfl
@[simp] theorem putStack_calStale (k : Nat) (x : Stack) : (putStack s k x).calStale = s.calStale := rfl
@[simp] theorem putStack_calSets (k : Nat) (x : Stack) : (putStack s k x).calSets = s.calSets := rfl
@[simp] theorem putStack_calFirst (k : Nat) (x : Stack) : (putStack s k x).calFirst = s.calFirst := rfl
@[simp] theorem putStack_ports (k : Nat) (x : Stack) : (putStack s k x).ports = s.ports := rfl
@[simp] theorem putStack_rstAt (k : Nat) (x : Stack) : (putStack s k x).rstAt = s.rstAt := rfl
@[simp] theorem putStack_noticeAt (k : Nat) (x : Stack) : (putStack s k x).noticeAt = s.noticeAt := rfl
@[simp] theorem putStack_therm (k : Nat) (x : Stack) : (putStack s k x).therm = s.therm := rfl
@[simp] theorem putStack_seam (k : Nat) (x : Stack) : (putStack s k x).seam = s.seam := rfl
@[simp] theorem putStack_seamErrs (k : Nat) (x : Stack) : (putStack s k x).seamErrs = s.seamErrs := rfl
@[simp] theorem putStack_smpRuns (k : Nat) (x : Stack) : (putStack s k x).smpRuns = s.smpRuns := rfl
@[simp] theorem putStack_scans (k : Nat) (x : Stack) : (putStack s k x).scans = s.scans := rfl
@[simp] theorem putStack_gmbRuns (k : Nat) (x : Stack) : (putStack s k x).gmbRuns = s.gmbRuns := rfl
@[simp] theorem putStack_extBase (k : Nat) (x : Stack) : (putStack s k x).extBase = s.extBase := rfl
@[simp] theorem putStack_smpDisarm (k : Nat) (x : Stack) : (putStack s k x).smpDisarm = s.smpDisarm := rfl
@[simp] theorem putStack_mapNext (k : Nat) (x : Stack) : (putStack s k x).mapNext = s.mapNext := rfl
@[simp] theorem putStack_modRst (k : Nat) (x : Stack) : (putStack s k x).modRst = s.modRst := rfl
@[simp] theorem putStack_fuseFactory (k : Nat) (x : Stack) : (putStack s k x).fuseFactory = s.fuseFactory := rfl
@[simp] theorem putStack_unsaved (k : Nat) (x : Stack) : (putStack s k x).unsaved = s.unsaved := rfl
@[simp] theorem putStack_testRec (k : Nat) (x : Stack) : (putStack s k x).testRec = s.testRec := rfl
@[simp] theorem putStack_image0 (k : Nat) (x : Stack) : (putStack s k x).image0 = s.image0 := rfl
@[simp] theorem putStack_image1 (k : Nat) (x : Stack) : (putStack s k x).image1 = s.image1 := rfl
@[simp] theorem putStack_twins (k : Nat) (x : Stack) : (putStack s k x).twins = s.twins := rfl
@[simp] theorem putStack_update (k : Nat) (x : Stack) : (putStack s k x).update = s.update := rfl
@[simp] theorem putStack_areas (k : Nat) (x : Stack) : (putStack s k x).areas = s.areas := rfl
@[simp] theorem putStack_verify (k : Nat) (x : Stack) : (putStack s k x).verify = s.verify := rfl
@[simp] theorem putStack_errSaved (k : Nat) (x : Stack) : (putStack s k x).errSaved = s.errSaved := rfl
@[simp] theorem putStack_forcedAt (k : Nat) (x : Stack) : (putStack s k x).forcedAt = s.forcedAt := rfl
@[simp] theorem putStack_denyAt (k : Nat) (x : Stack) : (putStack s k x).denyAt = s.denyAt := rfl
@[simp] theorem putStack_capAt (k : Nat) (x : Stack) : (putStack s k x).capAt = s.capAt := rfl
@[simp] theorem putStack_draws (k : Nat) (x : Stack) : (putStack s k x).draws = s.draws := rfl
@[simp] theorem putStack_tap (k : Nat) (x : Stack) : (putStack s k x).tap = s.tap := rfl
@[simp] theorem putStack_out (k : Nat) (x : Stack) : (putStack s k x).out = s.out := rfl
@[simp] theorem putStack_pending (k : Nat) (x : Stack) : (putStack s k x).pending = s.pending := rfl

@[simp] theorem putCirc_time (k : Nat) (x : Circ) : (putCirc s k x).time = s.time := rfl
@[simp] theorem putCirc_tempo (k : Nat) (x : Circ) : (putCirc s k x).tempo = s.tempo := rfl
@[simp] theorem putCirc_regs (k : Nat) (x : Circ) : (putCirc s k x).regs = s.regs := rfl
@[simp] theorem putCirc_raised (k : Nat) (x : Circ) : (putCirc s k x).raised = s.raised := rfl
@[simp] theorem putCirc_hiLatch (k : Nat) (x : Circ) : (putCirc s k x).hiLatch = s.hiLatch := rfl
@[simp] theorem putCirc_hold (k : Nat) (x : Circ) : (putCirc s k x).hold = s.hold := rfl
@[simp] theorem putCirc_tmpLatch (k : Nat) (x : Circ) : (putCirc s k x).tmpLatch = s.tmpLatch := rfl
@[simp] theorem putCirc_errLatch (k : Nat) (x : Circ) : (putCirc s k x).errLatch = s.errLatch := rfl
@[simp] theorem putCirc_errIdx (k : Nat) (x : Circ) : (putCirc s k x).errIdx = s.errIdx := rfl
@[simp] theorem putCirc_log (k : Nat) (x : Circ) : (putCirc s k x).log = s.log := rfl
@[simp] theorem putCirc_msix (k : Nat) (x : Circ) : (putCirc s k x).msix = s.msix := rfl
@[simp] theorem putCirc_seqs (k : Nat) (x : Circ) : (putCirc s k x).seqs = s.seqs := rfl
@[simp] theorem putCirc_moveMem (k : Nat) (x : Circ) : (putCirc s k x).moveMem = s.moveMem := rfl
@[simp] theorem putCirc_moveEcc (k : Nat) (x : Circ) : (putCirc s k x).moveEcc = s.moveEcc := rfl
@[simp] theorem putCirc_cores (k : Nat) (x : Circ) : (putCirc s k x).cores = s.cores := rfl
@[simp] theorem putCirc_mem (k : Nat) (x : Circ) : (putCirc s k x).mem = s.mem := rfl
@[simp] theorem putCirc_lost (k : Nat) (x : Circ) : (putCirc s k x).lost = s.lost := rfl
@[simp] theorem putCirc_since (k : Nat) (x : Circ) : (putCirc s k x).since = s.since := rfl
@[simp] theorem putCirc_ue (k : Nat) (x : Circ) : (putCirc s k x).ue = s.ue := rfl
@[simp] theorem putCirc_bankJobs (k : Nat) (x : Circ) : (putCirc s k x).bankJobs = s.bankJobs := rfl
@[simp] theorem putCirc_bankNext (k : Nat) (x : Circ) : (putCirc s k x).bankNext = s.bankNext := rfl
@[simp] theorem putCirc_lines (k : Nat) (x : Circ) : (putCirc s k x).lines = s.lines := rfl
@[simp] theorem putCirc_fills (k : Nat) (x : Circ) : (putCirc s k x).fills = s.fills := rfl
@[simp] theorem putCirc_dirs (k : Nat) (x : Circ) : (putCirc s k x).dirs = s.dirs := rfl
@[simp] theorem putCirc_syncs (k : Nat) (x : Circ) : (putCirc s k x).syncs = s.syncs := rfl
@[simp] theorem putCirc_shadows (k : Nat) (x : Circ) : (putCirc s k x).shadows = s.shadows := rfl
@[simp] theorem putCirc_shadowMsgs (k : Nat) (x : Circ) : (putCirc s k x).shadowMsgs = s.shadowMsgs := rfl
@[simp] theorem putCirc_tags (k : Nat) (x : Circ) : (putCirc s k x).tags = s.tags := rfl
@[simp] theorem putCirc_gens (k : Nat) (x : Circ) : (putCirc s k x).gens = s.gens := rfl
@[simp] theorem putCirc_tagWait (k : Nat) (x : Circ) : (putCirc s k x).tagWait = s.tagWait := rfl
@[simp] theorem putCirc_tx (k : Nat) (x : Circ) : (putCirc s k x).tx = s.tx := rfl
@[simp] theorem putCirc_rx (k : Nat) (x : Circ) : (putCirc s k x).rx = s.rx := rfl
@[simp] theorem putCirc_copies (k : Nat) (x : Circ) : (putCirc s k x).copies = s.copies := rfl
@[simp] theorem putCirc_copyNext (k : Nat) (x : Circ) : (putCirc s k x).copyNext = s.copyNext := rfl
@[simp] theorem putCirc_copyWait (k : Nat) (x : Circ) : (putCirc s k x).copyWait = s.copyWait := rfl
@[simp] theorem putCirc_copyTab (k : Nat) (x : Circ) : (putCirc s k x).copyTab = s.copyTab := rfl
@[simp] theorem putCirc_copyLoad (k : Nat) (x : Circ) : (putCirc s k x).copyLoad = s.copyLoad := rfl
@[simp] theorem putCirc_copyHeld (k : Nat) (x : Circ) : (putCirc s k x).copyHeld = s.copyHeld := rfl
@[simp] theorem putCirc_dedups (k : Nat) (x : Circ) : (putCirc s k x).dedups = s.dedups := rfl
@[simp] theorem putCirc_hot (k : Nat) (x : Circ) : (putCirc s k x).hot = s.hot := rfl
@[simp] theorem putCirc_hotAt (k : Nat) (x : Circ) : (putCirc s k x).hotAt = s.hotAt := rfl
@[simp] theorem putCirc_routes (k : Nat) (x : Circ) : (putCirc s k x).routes = s.routes := rfl
@[simp] theorem putCirc_rtArmed (k : Nat) (x : Circ) : (putCirc s k x).rtArmed = s.rtArmed := rfl
@[simp] theorem putCirc_rtSwitched (k : Nat) (x : Circ) : (putCirc s k x).rtSwitched = s.rtSwitched := rfl
@[simp] theorem putCirc_throttles (k : Nat) (x : Circ) : (putCirc s k x).throttles = s.throttles := rfl
@[simp] theorem putCirc_mcs (k : Nat) (x : Circ) : (putCirc s k x).mcs = s.mcs := rfl
@[simp] theorem putCirc_mcCache (k : Nat) (x : Circ) : (putCirc s k x).mcCache = s.mcCache := rfl
@[simp] theorem putCirc_cmap (k : Nat) (x : Circ) : (putCirc s k x).cmap = s.cmap := rfl
@[simp] theorem putCirc_mapAt (k : Nat) (x : Circ) : (putCirc s k x).mapAt = s.mapAt := rfl
@[simp] theorem putCirc_mapRecs (k : Nat) (x : Circ) : (putCirc s k x).mapRecs = s.mapRecs := rfl
@[simp] theorem putCirc_mapActed (k : Nat) (x : Circ) : (putCirc s k x).mapActed = s.mapActed := rfl
@[simp] theorem putCirc_mapCopied (k : Nat) (x : Circ) : (putCirc s k x).mapCopied = s.mapCopied := rfl
@[simp] theorem putCirc_stackSt (k : Nat) (x : Circ) : (putCirc s k x).stackSt = s.stackSt := rfl
@[simp] theorem putCirc_ringData (k : Nat) (x : Circ) : (putCirc s k x).ringData = s.ringData := rfl
@[simp] theorem putCirc_smpStarted (k : Nat) (x : Circ) : (putCirc s k x).smpStarted = s.smpStarted := rfl
@[simp] theorem putCirc_gmbStarted (k : Nat) (x : Circ) : (putCirc s k x).gmbStarted = s.gmbStarted := rfl
@[simp] theorem putCirc_gmbPending (k : Nat) (x : Circ) : (putCirc s k x).gmbPending = s.gmbPending := rfl
@[simp] theorem putCirc_hostDone (k : Nat) (x : Circ) : (putCirc s k x).hostDone = s.hostDone := rfl
@[simp] theorem putCirc_gov (k : Nat) (x : Circ) : (putCirc s k x).gov = s.gov := rfl
@[simp] theorem putCirc_ratios (k : Nat) (x : Circ) : (putCirc s k x).ratios = s.ratios := rfl
@[simp] theorem putCirc_substs (k : Nat) (x : Circ) : (putCirc s k x).substs = s.substs := rfl
@[simp] theorem putCirc_sramSpares (k : Nat) (x : Circ) : (putCirc s k x).sramSpares = s.sramSpares := rfl
@[simp] theorem putCirc_sramCe (k : Nat) (x : Circ) : (putCirc s k x).sramCe = s.sramCe := rfl
@[simp] theorem putCirc_fuseBank (k : Nat) (x : Circ) : (putCirc s k x).fuseBank = s.fuseBank := rfl
@[simp] theorem putCirc_fuseQueue (k : Nat) (x : Circ) : (putCirc s k x).fuseQueue = s.fuseQueue := rfl
@[simp] theorem putCirc_dieClk (k : Nat) (x : Circ) : (putCirc s k x).dieClk = s.dieClk := rfl
@[simp] theorem putCirc_resets (k : Nat) (x : Circ) : (putCirc s k x).resets = s.resets := rfl
@[simp] theorem putCirc_cluResets (k : Nat) (x : Circ) : (putCirc s k x).cluResets = s.cluResets := rfl
@[simp] theorem putCirc_stops (k : Nat) (x : Circ) : (putCirc s k x).stops = s.stops := rfl
@[simp] theorem putCirc_railDown (k : Nat) (x : Circ) : (putCirc s k x).railDown = s.railDown := rfl
@[simp] theorem putCirc_lcNext (k : Nat) (x : Circ) : (putCirc s k x).lcNext = s.lcNext := rfl
@[simp] theorem putCirc_lsrArmed (k : Nat) (x : Circ) : (putCirc s k x).lsrArmed = s.lsrArmed := rfl
@[simp] theorem putCirc_calWin (k : Nat) (x : Circ) : (putCirc s k x).calWin = s.calWin := rfl
@[simp] theorem putCirc_calSlots (k : Nat) (x : Circ) : (putCirc s k x).calSlots = s.calSlots := rfl
@[simp] theorem putCirc_calFails (k : Nat) (x : Circ) : (putCirc s k x).calFails = s.calFails := rfl
@[simp] theorem putCirc_calLast (k : Nat) (x : Circ) : (putCirc s k x).calLast = s.calLast := rfl
@[simp] theorem putCirc_calStale (k : Nat) (x : Circ) : (putCirc s k x).calStale = s.calStale := rfl
@[simp] theorem putCirc_calSets (k : Nat) (x : Circ) : (putCirc s k x).calSets = s.calSets := rfl
@[simp] theorem putCirc_calFirst (k : Nat) (x : Circ) : (putCirc s k x).calFirst = s.calFirst := rfl
@[simp] theorem putCirc_ports (k : Nat) (x : Circ) : (putCirc s k x).ports = s.ports := rfl
@[simp] theorem putCirc_rstAt (k : Nat) (x : Circ) : (putCirc s k x).rstAt = s.rstAt := rfl
@[simp] theorem putCirc_noticeAt (k : Nat) (x : Circ) : (putCirc s k x).noticeAt = s.noticeAt := rfl
@[simp] theorem putCirc_therm (k : Nat) (x : Circ) : (putCirc s k x).therm = s.therm := rfl
@[simp] theorem putCirc_seam (k : Nat) (x : Circ) : (putCirc s k x).seam = s.seam := rfl
@[simp] theorem putCirc_seamErrs (k : Nat) (x : Circ) : (putCirc s k x).seamErrs = s.seamErrs := rfl
@[simp] theorem putCirc_smpRuns (k : Nat) (x : Circ) : (putCirc s k x).smpRuns = s.smpRuns := rfl
@[simp] theorem putCirc_scans (k : Nat) (x : Circ) : (putCirc s k x).scans = s.scans := rfl
@[simp] theorem putCirc_gmbRuns (k : Nat) (x : Circ) : (putCirc s k x).gmbRuns = s.gmbRuns := rfl
@[simp] theorem putCirc_extBase (k : Nat) (x : Circ) : (putCirc s k x).extBase = s.extBase := rfl
@[simp] theorem putCirc_smpDisarm (k : Nat) (x : Circ) : (putCirc s k x).smpDisarm = s.smpDisarm := rfl
@[simp] theorem putCirc_mapNext (k : Nat) (x : Circ) : (putCirc s k x).mapNext = s.mapNext := rfl
@[simp] theorem putCirc_modRst (k : Nat) (x : Circ) : (putCirc s k x).modRst = s.modRst := rfl
@[simp] theorem putCirc_fuseFactory (k : Nat) (x : Circ) : (putCirc s k x).fuseFactory = s.fuseFactory := rfl
@[simp] theorem putCirc_unsaved (k : Nat) (x : Circ) : (putCirc s k x).unsaved = s.unsaved := rfl
@[simp] theorem putCirc_testRec (k : Nat) (x : Circ) : (putCirc s k x).testRec = s.testRec := rfl
@[simp] theorem putCirc_image0 (k : Nat) (x : Circ) : (putCirc s k x).image0 = s.image0 := rfl
@[simp] theorem putCirc_image1 (k : Nat) (x : Circ) : (putCirc s k x).image1 = s.image1 := rfl
@[simp] theorem putCirc_twins (k : Nat) (x : Circ) : (putCirc s k x).twins = s.twins := rfl
@[simp] theorem putCirc_update (k : Nat) (x : Circ) : (putCirc s k x).update = s.update := rfl
@[simp] theorem putCirc_areas (k : Nat) (x : Circ) : (putCirc s k x).areas = s.areas := rfl
@[simp] theorem putCirc_verify (k : Nat) (x : Circ) : (putCirc s k x).verify = s.verify := rfl
@[simp] theorem putCirc_errSaved (k : Nat) (x : Circ) : (putCirc s k x).errSaved = s.errSaved := rfl
@[simp] theorem putCirc_forcedAt (k : Nat) (x : Circ) : (putCirc s k x).forcedAt = s.forcedAt := rfl
@[simp] theorem putCirc_denyAt (k : Nat) (x : Circ) : (putCirc s k x).denyAt = s.denyAt := rfl
@[simp] theorem putCirc_capAt (k : Nat) (x : Circ) : (putCirc s k x).capAt = s.capAt := rfl
@[simp] theorem putCirc_draws (k : Nat) (x : Circ) : (putCirc s k x).draws = s.draws := rfl
@[simp] theorem putCirc_tap (k : Nat) (x : Circ) : (putCirc s k x).tap = s.tap := rfl
@[simp] theorem putCirc_out (k : Nat) (x : Circ) : (putCirc s k x).out = s.out := rfl
@[simp] theorem putCirc_pending (k : Nat) (x : Circ) : (putCirc s k x).pending = s.pending := rfl

@[simp] theorem putDir_time (k : Nat) (x : DirRec) : (putDir s k x).time = s.time := rfl
@[simp] theorem putDir_tempo (k : Nat) (x : DirRec) : (putDir s k x).tempo = s.tempo := rfl
@[simp] theorem putDir_regs (k : Nat) (x : DirRec) : (putDir s k x).regs = s.regs := rfl
@[simp] theorem putDir_raised (k : Nat) (x : DirRec) : (putDir s k x).raised = s.raised := rfl
@[simp] theorem putDir_hiLatch (k : Nat) (x : DirRec) : (putDir s k x).hiLatch = s.hiLatch := rfl
@[simp] theorem putDir_hold (k : Nat) (x : DirRec) : (putDir s k x).hold = s.hold := rfl
@[simp] theorem putDir_tmpLatch (k : Nat) (x : DirRec) : (putDir s k x).tmpLatch = s.tmpLatch := rfl
@[simp] theorem putDir_errLatch (k : Nat) (x : DirRec) : (putDir s k x).errLatch = s.errLatch := rfl
@[simp] theorem putDir_errIdx (k : Nat) (x : DirRec) : (putDir s k x).errIdx = s.errIdx := rfl
@[simp] theorem putDir_log (k : Nat) (x : DirRec) : (putDir s k x).log = s.log := rfl
@[simp] theorem putDir_msix (k : Nat) (x : DirRec) : (putDir s k x).msix = s.msix := rfl
@[simp] theorem putDir_seqs (k : Nat) (x : DirRec) : (putDir s k x).seqs = s.seqs := rfl
@[simp] theorem putDir_moveMem (k : Nat) (x : DirRec) : (putDir s k x).moveMem = s.moveMem := rfl
@[simp] theorem putDir_moveEcc (k : Nat) (x : DirRec) : (putDir s k x).moveEcc = s.moveEcc := rfl
@[simp] theorem putDir_cores (k : Nat) (x : DirRec) : (putDir s k x).cores = s.cores := rfl
@[simp] theorem putDir_mem (k : Nat) (x : DirRec) : (putDir s k x).mem = s.mem := rfl
@[simp] theorem putDir_lost (k : Nat) (x : DirRec) : (putDir s k x).lost = s.lost := rfl
@[simp] theorem putDir_since (k : Nat) (x : DirRec) : (putDir s k x).since = s.since := rfl
@[simp] theorem putDir_ue (k : Nat) (x : DirRec) : (putDir s k x).ue = s.ue := rfl
@[simp] theorem putDir_bankJobs (k : Nat) (x : DirRec) : (putDir s k x).bankJobs = s.bankJobs := rfl
@[simp] theorem putDir_bankNext (k : Nat) (x : DirRec) : (putDir s k x).bankNext = s.bankNext := rfl
@[simp] theorem putDir_lines (k : Nat) (x : DirRec) : (putDir s k x).lines = s.lines := rfl
@[simp] theorem putDir_fills (k : Nat) (x : DirRec) : (putDir s k x).fills = s.fills := rfl
@[simp] theorem putDir_syncs (k : Nat) (x : DirRec) : (putDir s k x).syncs = s.syncs := rfl
@[simp] theorem putDir_shadows (k : Nat) (x : DirRec) : (putDir s k x).shadows = s.shadows := rfl
@[simp] theorem putDir_shadowMsgs (k : Nat) (x : DirRec) : (putDir s k x).shadowMsgs = s.shadowMsgs := rfl
@[simp] theorem putDir_tags (k : Nat) (x : DirRec) : (putDir s k x).tags = s.tags := rfl
@[simp] theorem putDir_gens (k : Nat) (x : DirRec) : (putDir s k x).gens = s.gens := rfl
@[simp] theorem putDir_tagWait (k : Nat) (x : DirRec) : (putDir s k x).tagWait = s.tagWait := rfl
@[simp] theorem putDir_tx (k : Nat) (x : DirRec) : (putDir s k x).tx = s.tx := rfl
@[simp] theorem putDir_rx (k : Nat) (x : DirRec) : (putDir s k x).rx = s.rx := rfl
@[simp] theorem putDir_copies (k : Nat) (x : DirRec) : (putDir s k x).copies = s.copies := rfl
@[simp] theorem putDir_copyNext (k : Nat) (x : DirRec) : (putDir s k x).copyNext = s.copyNext := rfl
@[simp] theorem putDir_copyWait (k : Nat) (x : DirRec) : (putDir s k x).copyWait = s.copyWait := rfl
@[simp] theorem putDir_copyTab (k : Nat) (x : DirRec) : (putDir s k x).copyTab = s.copyTab := rfl
@[simp] theorem putDir_copyLoad (k : Nat) (x : DirRec) : (putDir s k x).copyLoad = s.copyLoad := rfl
@[simp] theorem putDir_copyHeld (k : Nat) (x : DirRec) : (putDir s k x).copyHeld = s.copyHeld := rfl
@[simp] theorem putDir_dedups (k : Nat) (x : DirRec) : (putDir s k x).dedups = s.dedups := rfl
@[simp] theorem putDir_hot (k : Nat) (x : DirRec) : (putDir s k x).hot = s.hot := rfl
@[simp] theorem putDir_hotAt (k : Nat) (x : DirRec) : (putDir s k x).hotAt = s.hotAt := rfl
@[simp] theorem putDir_routes (k : Nat) (x : DirRec) : (putDir s k x).routes = s.routes := rfl
@[simp] theorem putDir_rtArmed (k : Nat) (x : DirRec) : (putDir s k x).rtArmed = s.rtArmed := rfl
@[simp] theorem putDir_rtSwitched (k : Nat) (x : DirRec) : (putDir s k x).rtSwitched = s.rtSwitched := rfl
@[simp] theorem putDir_throttles (k : Nat) (x : DirRec) : (putDir s k x).throttles = s.throttles := rfl
@[simp] theorem putDir_mcs (k : Nat) (x : DirRec) : (putDir s k x).mcs = s.mcs := rfl
@[simp] theorem putDir_mcCache (k : Nat) (x : DirRec) : (putDir s k x).mcCache = s.mcCache := rfl
@[simp] theorem putDir_cmap (k : Nat) (x : DirRec) : (putDir s k x).cmap = s.cmap := rfl
@[simp] theorem putDir_mapAt (k : Nat) (x : DirRec) : (putDir s k x).mapAt = s.mapAt := rfl
@[simp] theorem putDir_mapRecs (k : Nat) (x : DirRec) : (putDir s k x).mapRecs = s.mapRecs := rfl
@[simp] theorem putDir_mapActed (k : Nat) (x : DirRec) : (putDir s k x).mapActed = s.mapActed := rfl
@[simp] theorem putDir_mapCopied (k : Nat) (x : DirRec) : (putDir s k x).mapCopied = s.mapCopied := rfl
@[simp] theorem putDir_stackSt (k : Nat) (x : DirRec) : (putDir s k x).stackSt = s.stackSt := rfl
@[simp] theorem putDir_circs (k : Nat) (x : DirRec) : (putDir s k x).circs = s.circs := rfl
@[simp] theorem putDir_ringData (k : Nat) (x : DirRec) : (putDir s k x).ringData = s.ringData := rfl
@[simp] theorem putDir_smpStarted (k : Nat) (x : DirRec) : (putDir s k x).smpStarted = s.smpStarted := rfl
@[simp] theorem putDir_gmbStarted (k : Nat) (x : DirRec) : (putDir s k x).gmbStarted = s.gmbStarted := rfl
@[simp] theorem putDir_gmbPending (k : Nat) (x : DirRec) : (putDir s k x).gmbPending = s.gmbPending := rfl
@[simp] theorem putDir_hostDone (k : Nat) (x : DirRec) : (putDir s k x).hostDone = s.hostDone := rfl
@[simp] theorem putDir_gov (k : Nat) (x : DirRec) : (putDir s k x).gov = s.gov := rfl
@[simp] theorem putDir_ratios (k : Nat) (x : DirRec) : (putDir s k x).ratios = s.ratios := rfl
@[simp] theorem putDir_substs (k : Nat) (x : DirRec) : (putDir s k x).substs = s.substs := rfl
@[simp] theorem putDir_sramSpares (k : Nat) (x : DirRec) : (putDir s k x).sramSpares = s.sramSpares := rfl
@[simp] theorem putDir_sramCe (k : Nat) (x : DirRec) : (putDir s k x).sramCe = s.sramCe := rfl
@[simp] theorem putDir_fuseBank (k : Nat) (x : DirRec) : (putDir s k x).fuseBank = s.fuseBank := rfl
@[simp] theorem putDir_fuseQueue (k : Nat) (x : DirRec) : (putDir s k x).fuseQueue = s.fuseQueue := rfl
@[simp] theorem putDir_dieClk (k : Nat) (x : DirRec) : (putDir s k x).dieClk = s.dieClk := rfl
@[simp] theorem putDir_resets (k : Nat) (x : DirRec) : (putDir s k x).resets = s.resets := rfl
@[simp] theorem putDir_cluResets (k : Nat) (x : DirRec) : (putDir s k x).cluResets = s.cluResets := rfl
@[simp] theorem putDir_stops (k : Nat) (x : DirRec) : (putDir s k x).stops = s.stops := rfl
@[simp] theorem putDir_railDown (k : Nat) (x : DirRec) : (putDir s k x).railDown = s.railDown := rfl
@[simp] theorem putDir_lcNext (k : Nat) (x : DirRec) : (putDir s k x).lcNext = s.lcNext := rfl
@[simp] theorem putDir_lsrArmed (k : Nat) (x : DirRec) : (putDir s k x).lsrArmed = s.lsrArmed := rfl
@[simp] theorem putDir_calWin (k : Nat) (x : DirRec) : (putDir s k x).calWin = s.calWin := rfl
@[simp] theorem putDir_calSlots (k : Nat) (x : DirRec) : (putDir s k x).calSlots = s.calSlots := rfl
@[simp] theorem putDir_calFails (k : Nat) (x : DirRec) : (putDir s k x).calFails = s.calFails := rfl
@[simp] theorem putDir_calLast (k : Nat) (x : DirRec) : (putDir s k x).calLast = s.calLast := rfl
@[simp] theorem putDir_calStale (k : Nat) (x : DirRec) : (putDir s k x).calStale = s.calStale := rfl
@[simp] theorem putDir_calSets (k : Nat) (x : DirRec) : (putDir s k x).calSets = s.calSets := rfl
@[simp] theorem putDir_calFirst (k : Nat) (x : DirRec) : (putDir s k x).calFirst = s.calFirst := rfl
@[simp] theorem putDir_ports (k : Nat) (x : DirRec) : (putDir s k x).ports = s.ports := rfl
@[simp] theorem putDir_rstAt (k : Nat) (x : DirRec) : (putDir s k x).rstAt = s.rstAt := rfl
@[simp] theorem putDir_noticeAt (k : Nat) (x : DirRec) : (putDir s k x).noticeAt = s.noticeAt := rfl
@[simp] theorem putDir_therm (k : Nat) (x : DirRec) : (putDir s k x).therm = s.therm := rfl
@[simp] theorem putDir_seam (k : Nat) (x : DirRec) : (putDir s k x).seam = s.seam := rfl
@[simp] theorem putDir_seamErrs (k : Nat) (x : DirRec) : (putDir s k x).seamErrs = s.seamErrs := rfl
@[simp] theorem putDir_smpRuns (k : Nat) (x : DirRec) : (putDir s k x).smpRuns = s.smpRuns := rfl
@[simp] theorem putDir_scans (k : Nat) (x : DirRec) : (putDir s k x).scans = s.scans := rfl
@[simp] theorem putDir_gmbRuns (k : Nat) (x : DirRec) : (putDir s k x).gmbRuns = s.gmbRuns := rfl
@[simp] theorem putDir_extBase (k : Nat) (x : DirRec) : (putDir s k x).extBase = s.extBase := rfl
@[simp] theorem putDir_smpDisarm (k : Nat) (x : DirRec) : (putDir s k x).smpDisarm = s.smpDisarm := rfl
@[simp] theorem putDir_mapNext (k : Nat) (x : DirRec) : (putDir s k x).mapNext = s.mapNext := rfl
@[simp] theorem putDir_modRst (k : Nat) (x : DirRec) : (putDir s k x).modRst = s.modRst := rfl
@[simp] theorem putDir_fuseFactory (k : Nat) (x : DirRec) : (putDir s k x).fuseFactory = s.fuseFactory := rfl
@[simp] theorem putDir_unsaved (k : Nat) (x : DirRec) : (putDir s k x).unsaved = s.unsaved := rfl
@[simp] theorem putDir_testRec (k : Nat) (x : DirRec) : (putDir s k x).testRec = s.testRec := rfl
@[simp] theorem putDir_image0 (k : Nat) (x : DirRec) : (putDir s k x).image0 = s.image0 := rfl
@[simp] theorem putDir_image1 (k : Nat) (x : DirRec) : (putDir s k x).image1 = s.image1 := rfl
@[simp] theorem putDir_twins (k : Nat) (x : DirRec) : (putDir s k x).twins = s.twins := rfl
@[simp] theorem putDir_update (k : Nat) (x : DirRec) : (putDir s k x).update = s.update := rfl
@[simp] theorem putDir_areas (k : Nat) (x : DirRec) : (putDir s k x).areas = s.areas := rfl
@[simp] theorem putDir_verify (k : Nat) (x : DirRec) : (putDir s k x).verify = s.verify := rfl
@[simp] theorem putDir_errSaved (k : Nat) (x : DirRec) : (putDir s k x).errSaved = s.errSaved := rfl
@[simp] theorem putDir_forcedAt (k : Nat) (x : DirRec) : (putDir s k x).forcedAt = s.forcedAt := rfl
@[simp] theorem putDir_denyAt (k : Nat) (x : DirRec) : (putDir s k x).denyAt = s.denyAt := rfl
@[simp] theorem putDir_capAt (k : Nat) (x : DirRec) : (putDir s k x).capAt = s.capAt := rfl
@[simp] theorem putDir_draws (k : Nat) (x : DirRec) : (putDir s k x).draws = s.draws := rfl
@[simp] theorem putDir_tap (k : Nat) (x : DirRec) : (putDir s k x).tap = s.tap := rfl
@[simp] theorem putDir_out (k : Nat) (x : DirRec) : (putDir s k x).out = s.out := rfl
@[simp] theorem putDir_pending (k : Nat) (x : DirRec) : (putDir s k x).pending = s.pending := rfl

@[simp] theorem putTempo_time (x : TempoSt) : (putTempo s x).time = s.time := rfl
@[simp] theorem putTempo_regs (x : TempoSt) : (putTempo s x).regs = s.regs := rfl
@[simp] theorem putTempo_raised (x : TempoSt) : (putTempo s x).raised = s.raised := rfl
@[simp] theorem putTempo_hiLatch (x : TempoSt) : (putTempo s x).hiLatch = s.hiLatch := rfl
@[simp] theorem putTempo_hold (x : TempoSt) : (putTempo s x).hold = s.hold := rfl
@[simp] theorem putTempo_tmpLatch (x : TempoSt) : (putTempo s x).tmpLatch = s.tmpLatch := rfl
@[simp] theorem putTempo_errLatch (x : TempoSt) : (putTempo s x).errLatch = s.errLatch := rfl
@[simp] theorem putTempo_errIdx (x : TempoSt) : (putTempo s x).errIdx = s.errIdx := rfl
@[simp] theorem putTempo_log (x : TempoSt) : (putTempo s x).log = s.log := rfl
@[simp] theorem putTempo_msix (x : TempoSt) : (putTempo s x).msix = s.msix := rfl
@[simp] theorem putTempo_seqs (x : TempoSt) : (putTempo s x).seqs = s.seqs := rfl
@[simp] theorem putTempo_moveMem (x : TempoSt) : (putTempo s x).moveMem = s.moveMem := rfl
@[simp] theorem putTempo_moveEcc (x : TempoSt) : (putTempo s x).moveEcc = s.moveEcc := rfl
@[simp] theorem putTempo_cores (x : TempoSt) : (putTempo s x).cores = s.cores := rfl
@[simp] theorem putTempo_mem (x : TempoSt) : (putTempo s x).mem = s.mem := rfl
@[simp] theorem putTempo_lost (x : TempoSt) : (putTempo s x).lost = s.lost := rfl
@[simp] theorem putTempo_since (x : TempoSt) : (putTempo s x).since = s.since := rfl
@[simp] theorem putTempo_ue (x : TempoSt) : (putTempo s x).ue = s.ue := rfl
@[simp] theorem putTempo_bankJobs (x : TempoSt) : (putTempo s x).bankJobs = s.bankJobs := rfl
@[simp] theorem putTempo_bankNext (x : TempoSt) : (putTempo s x).bankNext = s.bankNext := rfl
@[simp] theorem putTempo_lines (x : TempoSt) : (putTempo s x).lines = s.lines := rfl
@[simp] theorem putTempo_fills (x : TempoSt) : (putTempo s x).fills = s.fills := rfl
@[simp] theorem putTempo_dirs (x : TempoSt) : (putTempo s x).dirs = s.dirs := rfl
@[simp] theorem putTempo_syncs (x : TempoSt) : (putTempo s x).syncs = s.syncs := rfl
@[simp] theorem putTempo_shadows (x : TempoSt) : (putTempo s x).shadows = s.shadows := rfl
@[simp] theorem putTempo_shadowMsgs (x : TempoSt) : (putTempo s x).shadowMsgs = s.shadowMsgs := rfl
@[simp] theorem putTempo_tags (x : TempoSt) : (putTempo s x).tags = s.tags := rfl
@[simp] theorem putTempo_gens (x : TempoSt) : (putTempo s x).gens = s.gens := rfl
@[simp] theorem putTempo_tagWait (x : TempoSt) : (putTempo s x).tagWait = s.tagWait := rfl
@[simp] theorem putTempo_tx (x : TempoSt) : (putTempo s x).tx = s.tx := rfl
@[simp] theorem putTempo_rx (x : TempoSt) : (putTempo s x).rx = s.rx := rfl
@[simp] theorem putTempo_copies (x : TempoSt) : (putTempo s x).copies = s.copies := rfl
@[simp] theorem putTempo_copyNext (x : TempoSt) : (putTempo s x).copyNext = s.copyNext := rfl
@[simp] theorem putTempo_copyWait (x : TempoSt) : (putTempo s x).copyWait = s.copyWait := rfl
@[simp] theorem putTempo_copyTab (x : TempoSt) : (putTempo s x).copyTab = s.copyTab := rfl
@[simp] theorem putTempo_copyLoad (x : TempoSt) : (putTempo s x).copyLoad = s.copyLoad := rfl
@[simp] theorem putTempo_copyHeld (x : TempoSt) : (putTempo s x).copyHeld = s.copyHeld := rfl
@[simp] theorem putTempo_dedups (x : TempoSt) : (putTempo s x).dedups = s.dedups := rfl
@[simp] theorem putTempo_hot (x : TempoSt) : (putTempo s x).hot = s.hot := rfl
@[simp] theorem putTempo_hotAt (x : TempoSt) : (putTempo s x).hotAt = s.hotAt := rfl
@[simp] theorem putTempo_routes (x : TempoSt) : (putTempo s x).routes = s.routes := rfl
@[simp] theorem putTempo_rtArmed (x : TempoSt) : (putTempo s x).rtArmed = s.rtArmed := rfl
@[simp] theorem putTempo_rtSwitched (x : TempoSt) : (putTempo s x).rtSwitched = s.rtSwitched := rfl
@[simp] theorem putTempo_throttles (x : TempoSt) : (putTempo s x).throttles = s.throttles := rfl
@[simp] theorem putTempo_mcs (x : TempoSt) : (putTempo s x).mcs = s.mcs := rfl
@[simp] theorem putTempo_mcCache (x : TempoSt) : (putTempo s x).mcCache = s.mcCache := rfl
@[simp] theorem putTempo_cmap (x : TempoSt) : (putTempo s x).cmap = s.cmap := rfl
@[simp] theorem putTempo_mapAt (x : TempoSt) : (putTempo s x).mapAt = s.mapAt := rfl
@[simp] theorem putTempo_mapRecs (x : TempoSt) : (putTempo s x).mapRecs = s.mapRecs := rfl
@[simp] theorem putTempo_mapActed (x : TempoSt) : (putTempo s x).mapActed = s.mapActed := rfl
@[simp] theorem putTempo_mapCopied (x : TempoSt) : (putTempo s x).mapCopied = s.mapCopied := rfl
@[simp] theorem putTempo_stackSt (x : TempoSt) : (putTempo s x).stackSt = s.stackSt := rfl
@[simp] theorem putTempo_circs (x : TempoSt) : (putTempo s x).circs = s.circs := rfl
@[simp] theorem putTempo_ringData (x : TempoSt) : (putTempo s x).ringData = s.ringData := rfl
@[simp] theorem putTempo_smpStarted (x : TempoSt) : (putTempo s x).smpStarted = s.smpStarted := rfl
@[simp] theorem putTempo_gmbStarted (x : TempoSt) : (putTempo s x).gmbStarted = s.gmbStarted := rfl
@[simp] theorem putTempo_gmbPending (x : TempoSt) : (putTempo s x).gmbPending = s.gmbPending := rfl
@[simp] theorem putTempo_hostDone (x : TempoSt) : (putTempo s x).hostDone = s.hostDone := rfl
@[simp] theorem putTempo_gov (x : TempoSt) : (putTempo s x).gov = s.gov := rfl
@[simp] theorem putTempo_ratios (x : TempoSt) : (putTempo s x).ratios = s.ratios := rfl
@[simp] theorem putTempo_substs (x : TempoSt) : (putTempo s x).substs = s.substs := rfl
@[simp] theorem putTempo_sramSpares (x : TempoSt) : (putTempo s x).sramSpares = s.sramSpares := rfl
@[simp] theorem putTempo_sramCe (x : TempoSt) : (putTempo s x).sramCe = s.sramCe := rfl
@[simp] theorem putTempo_fuseBank (x : TempoSt) : (putTempo s x).fuseBank = s.fuseBank := rfl
@[simp] theorem putTempo_fuseQueue (x : TempoSt) : (putTempo s x).fuseQueue = s.fuseQueue := rfl
@[simp] theorem putTempo_dieClk (x : TempoSt) : (putTempo s x).dieClk = s.dieClk := rfl
@[simp] theorem putTempo_resets (x : TempoSt) : (putTempo s x).resets = s.resets := rfl
@[simp] theorem putTempo_cluResets (x : TempoSt) : (putTempo s x).cluResets = s.cluResets := rfl
@[simp] theorem putTempo_stops (x : TempoSt) : (putTempo s x).stops = s.stops := rfl
@[simp] theorem putTempo_railDown (x : TempoSt) : (putTempo s x).railDown = s.railDown := rfl
@[simp] theorem putTempo_lcNext (x : TempoSt) : (putTempo s x).lcNext = s.lcNext := rfl
@[simp] theorem putTempo_lsrArmed (x : TempoSt) : (putTempo s x).lsrArmed = s.lsrArmed := rfl
@[simp] theorem putTempo_calWin (x : TempoSt) : (putTempo s x).calWin = s.calWin := rfl
@[simp] theorem putTempo_calSlots (x : TempoSt) : (putTempo s x).calSlots = s.calSlots := rfl
@[simp] theorem putTempo_calFails (x : TempoSt) : (putTempo s x).calFails = s.calFails := rfl
@[simp] theorem putTempo_calLast (x : TempoSt) : (putTempo s x).calLast = s.calLast := rfl
@[simp] theorem putTempo_calStale (x : TempoSt) : (putTempo s x).calStale = s.calStale := rfl
@[simp] theorem putTempo_calSets (x : TempoSt) : (putTempo s x).calSets = s.calSets := rfl
@[simp] theorem putTempo_calFirst (x : TempoSt) : (putTempo s x).calFirst = s.calFirst := rfl
@[simp] theorem putTempo_ports (x : TempoSt) : (putTempo s x).ports = s.ports := rfl
@[simp] theorem putTempo_rstAt (x : TempoSt) : (putTempo s x).rstAt = s.rstAt := rfl
@[simp] theorem putTempo_noticeAt (x : TempoSt) : (putTempo s x).noticeAt = s.noticeAt := rfl
@[simp] theorem putTempo_therm (x : TempoSt) : (putTempo s x).therm = s.therm := rfl
@[simp] theorem putTempo_seam (x : TempoSt) : (putTempo s x).seam = s.seam := rfl
@[simp] theorem putTempo_seamErrs (x : TempoSt) : (putTempo s x).seamErrs = s.seamErrs := rfl
@[simp] theorem putTempo_smpRuns (x : TempoSt) : (putTempo s x).smpRuns = s.smpRuns := rfl
@[simp] theorem putTempo_scans (x : TempoSt) : (putTempo s x).scans = s.scans := rfl
@[simp] theorem putTempo_gmbRuns (x : TempoSt) : (putTempo s x).gmbRuns = s.gmbRuns := rfl
@[simp] theorem putTempo_extBase (x : TempoSt) : (putTempo s x).extBase = s.extBase := rfl
@[simp] theorem putTempo_smpDisarm (x : TempoSt) : (putTempo s x).smpDisarm = s.smpDisarm := rfl
@[simp] theorem putTempo_mapNext (x : TempoSt) : (putTempo s x).mapNext = s.mapNext := rfl
@[simp] theorem putTempo_modRst (x : TempoSt) : (putTempo s x).modRst = s.modRst := rfl
@[simp] theorem putTempo_fuseFactory (x : TempoSt) : (putTempo s x).fuseFactory = s.fuseFactory := rfl
@[simp] theorem putTempo_unsaved (x : TempoSt) : (putTempo s x).unsaved = s.unsaved := rfl
@[simp] theorem putTempo_testRec (x : TempoSt) : (putTempo s x).testRec = s.testRec := rfl
@[simp] theorem putTempo_image0 (x : TempoSt) : (putTempo s x).image0 = s.image0 := rfl
@[simp] theorem putTempo_image1 (x : TempoSt) : (putTempo s x).image1 = s.image1 := rfl
@[simp] theorem putTempo_twins (x : TempoSt) : (putTempo s x).twins = s.twins := rfl
@[simp] theorem putTempo_update (x : TempoSt) : (putTempo s x).update = s.update := rfl
@[simp] theorem putTempo_areas (x : TempoSt) : (putTempo s x).areas = s.areas := rfl
@[simp] theorem putTempo_verify (x : TempoSt) : (putTempo s x).verify = s.verify := rfl
@[simp] theorem putTempo_errSaved (x : TempoSt) : (putTempo s x).errSaved = s.errSaved := rfl
@[simp] theorem putTempo_forcedAt (x : TempoSt) : (putTempo s x).forcedAt = s.forcedAt := rfl
@[simp] theorem putTempo_denyAt (x : TempoSt) : (putTempo s x).denyAt = s.denyAt := rfl
@[simp] theorem putTempo_capAt (x : TempoSt) : (putTempo s x).capAt = s.capAt := rfl
@[simp] theorem putTempo_draws (x : TempoSt) : (putTempo s x).draws = s.draws := rfl
@[simp] theorem putTempo_tap (x : TempoSt) : (putTempo s x).tap = s.tap := rfl
@[simp] theorem putTempo_out (x : TempoSt) : (putTempo s x).out = s.out := rfl
@[simp] theorem putTempo_pending (x : TempoSt) : (putTempo s x).pending = s.pending := rfl

end Sys2Proof.Machine
end

