-- ==== Sys2Proof/Laws/Canvas.lean ====
section
/-! SUPPORT. Laws/Canvas.lean: what a heater's code leaves as it was. -/

namespace Sys2Proof.Machine

/-- What every step of a list leaves as it was, the whole list does. -/
theorem forAll_keeps {α β : Type} (p : State → β) (f : State → α → State) (h : ∀ s a, p (f s a) = p s) (l : List α)
    (s : State) : p (forAll l s f) = p s := by
  induction l generalizing s with
  | nil => rfl
  | cons a l ih => exact (ih (f s a)).trans (h s a)

/-- A heater that takes a code changes registers alone. -/
theorem setHeater_keeps {β : Type} (p : State → β) (h : ∀ s f i n v, p (setF s f i n v) = p s)
    (s : State) (dir site n code : Nat) : p (setHeater s dir site n code) = p s := by
  refine (forAll_keeps p _ (fun s b => ?_) _ _).trans (h ..)
  split
  · rfl
  · refine forAll_keeps p _ (fun s i => ?_) _ _
    dsimp only
    split
    · rfl
    · exact h ..

/-- The code that a ring's sets give rests on no heater. -/
theorem expectCode_setHeater (s : State) (dir site n code d x m l : Nat) :
    expectCode (setHeater s dir site n code) d x m l = expectCode s d x m l := by
  refine setHeater_keeps (fun s => expectCode s d x m l) (fun s f i n v => ?_) s dir site n code
  rfl

end Sys2Proof.Machine
end

