-- ==== Sys2Proof/Laws/SMap.lean ====
section
/-! SUPPORT. Laws/SMap.lean: reading a sparse table after a change of one key, and the canonical form, which every change
keeps. -/

namespace Sys2Proof.Machine

variable {α : Type}

@[simp] theorem SMap.find_insert_same (m : SMap α) (k : Nat) (v : α) : SMap.find (SMap.insert m k v) k = some v := by
  induction m with
  | nil => simp [SMap.insert, SMap.find]
  | cons e m ih =>
    obtain ⟨k', v'⟩ := e
    unfold SMap.insert
    split
    · simp [SMap.find]
    · split
      · simp [SMap.find]
      · rename_i h; simp [SMap.find, h, ih]

theorem SMap.find_insert_other (m : SMap α) {j k : Nat} (v : α) (h : j ≠ k) :
    SMap.find (SMap.insert m k v) j = SMap.find m j := by
  induction m with
  | nil => simp [SMap.insert, SMap.find, h]
  | cons e m ih =>
    obtain ⟨k', v'⟩ := e
    unfold SMap.insert
    split
    · simp [SMap.find, h]
    · split
      · rename_i h'; subst h'; simp [SMap.find, h]
      · simp [SMap.find, ih]

@[simp] theorem SMap.find_erase_same (m : SMap α) (k : Nat) : SMap.find (SMap.erase m k) k = none := by
  induction m with
  | nil => rfl
  | cons e m ih =>
    obtain ⟨k', v'⟩ := e
    unfold SMap.erase
    split
    · exact ih
    · rename_i h; simp [SMap.find, h, ih]

theorem SMap.find_erase_other (m : SMap α) {j k : Nat} (h : j ≠ k) : SMap.find (SMap.erase m k) j = SMap.find m j := by
  induction m with
  | nil => rfl
  | cons e m ih =>
    obtain ⟨k', v'⟩ := e
    unfold SMap.erase
    split
    · rename_i h'; subst h'; simp [SMap.find, h, ih]
    · simp [SMap.find, ih]

@[simp] theorem SMap.get_insert_same (m : SMap α) (d : α) (k : Nat) (v : α) : SMap.get (SMap.insert m k v) d k = v := by
  simp [SMap.get]

theorem SMap.get_insert_other (m : SMap α) (d : α) {j k : Nat} (v : α) (h : j ≠ k) :
    SMap.get (SMap.insert m k v) d j = SMap.get m d j := by
  simp [SMap.get, SMap.find_insert_other m v h]

@[simp] theorem SMap.get_nil (d : α) (k : Nat) : SMap.get ([] : SMap α) d k = d := rfl

section
variable [DecidableEq α]

/-- A key reads what it was given. -/
@[simp] theorem SMap.get_set_same (m : SMap α) (d : α) (k : Nat) (v : α) : SMap.get (SMap.set m d k v) d k = v := by
  unfold SMap.set
  split
  · rename_i h; simp [SMap.get, h]
  · simp

/-- Every other key reads as before, with whatever it reads as when unlisted. -/
theorem SMap.get_set_other (m : SMap α) (d d' : α) {j k : Nat} (v : α) (h : j ≠ k) :
    SMap.get (SMap.set m d k v) d' j = SMap.get m d' j := by
  unfold SMap.set
  split
  · simp [SMap.get, SMap.find_erase_other m h]
  · exact SMap.get_insert_other m d' v h

end

/-! ## The canonical form -/

theorem SMap.risingFrom_mono (m : SMap α) {lo lo' : Nat} (h : lo' ≤ lo) (w : SMap.risingFrom lo m = true) :
    SMap.risingFrom lo' m = true := by
  cases m with
  | nil => rfl
  | cons e m =>
    obtain ⟨k, v⟩ := e
    simp only [SMap.risingFrom, Bool.and_eq_true, decide_eq_true_eq] at w ⊢
    exact ⟨by omega, w.2⟩

theorem SMap.risingFrom_filter (m : SMap α) (p : Nat × α → Bool) (lo : Nat) (w : SMap.risingFrom lo m = true) :
    SMap.risingFrom lo (m.filter p) = true := by
  induction m generalizing lo with
  | nil => rfl
  | cons e m ih =>
    obtain ⟨k, v⟩ := e
    simp only [SMap.risingFrom, Bool.and_eq_true, decide_eq_true_eq] at w
    rw [List.filter_cons]
    split
    · simp only [SMap.risingFrom, Bool.and_eq_true, decide_eq_true_eq]
      exact ⟨w.1, ih _ w.2⟩
    · exact ih _ (SMap.risingFrom_mono m (by omega) w.2)

theorem SMap.risingFrom_insert (m : SMap α) (k : Nat) (v : α) (lo : Nat) (h : lo ≤ k) (w : SMap.risingFrom lo m = true) :
    SMap.risingFrom lo (SMap.insert m k v) = true := by
  induction m generalizing lo with
  | nil => simp [SMap.insert, SMap.risingFrom, h]
  | cons e m ih =>
    obtain ⟨k', v'⟩ := e
    simp only [SMap.risingFrom, Bool.and_eq_true, decide_eq_true_eq] at w
    unfold SMap.insert
    split
    · simp only [SMap.risingFrom, Bool.and_eq_true, decide_eq_true_eq]
      exact ⟨h, by omega, w.2⟩
    · split
      · rename_i h'; subst h'
        simp only [SMap.risingFrom, Bool.and_eq_true, decide_eq_true_eq]
        exact w
      · simp only [SMap.risingFrom, Bool.and_eq_true, decide_eq_true_eq]
        exact ⟨w.1, ih _ (by omega) w.2⟩

theorem SMap.erase_eq_filter (m : SMap α) (k : Nat) : SMap.erase m k = m.filter fun e => decide (e.1 ≠ k) := by
  induction m with
  | nil => rfl
  | cons e m ih =>
    obtain ⟨k', v'⟩ := e
    unfold SMap.erase
    split
    · rename_i h; subst h; simp [ih]
    · rename_i h; simp [ih, Ne.symm h]

theorem SMap.risingFrom_erase (m : SMap α) (k lo : Nat) (w : SMap.risingFrom lo m = true) :
    SMap.risingFrom lo (SMap.erase m k) = true := by
  rw [SMap.erase_eq_filter]; exact SMap.risingFrom_filter m _ lo w

theorem SMap.all_insert (m : SMap α) (p : Nat × α → Bool) (k : Nat) (v : α) (h : p (k, v) = true) (w : m.all p = true) :
    (SMap.insert m k v).all p = true := by
  induction m with
  | nil => simp [SMap.insert, h]
  | cons e m ih =>
    obtain ⟨k', v'⟩ := e
    simp only [List.all_cons, Bool.and_eq_true] at w
    unfold SMap.insert
    split
    · simp [List.all_cons, h, w.1, w.2]
    · split
      · simp [List.all_cons, h, w.2]
      · simp [List.all_cons, w.1, ih w.2]

section
variable [DecidableEq α]

theorem SMap.risingFrom_set (m : SMap α) (d : α) (k : Nat) (v : α) (w : SMap.risingFrom 0 m = true) :
    SMap.risingFrom 0 (SMap.set m d k v) = true := by
  unfold SMap.set
  split
  · exact SMap.risingFrom_erase m k 0 w
  · exact SMap.risingFrom_insert m k v 0 (Nat.zero_le _) w

theorem SMap.wf_filter (d : α) (m : SMap α) (p : Nat × α → Bool) (w : SMap.wf d m = true) :
    SMap.wf d (m.filter p) = true := by
  simp only [SMap.wf, Bool.and_eq_true, List.all_eq_true, List.mem_filter] at w ⊢
  exact ⟨SMap.risingFrom_filter m p 0 w.1, fun x hx => w.2 x hx.1⟩

/-- A change of one key keeps the canonical form. -/
theorem SMap.wf_set (d : α) (m : SMap α) (k : Nat) (v : α) (w : SMap.wf d m = true) : SMap.wf d (SMap.set m d k v) = true := by
  unfold SMap.set
  split
  · rw [SMap.erase_eq_filter]; exact SMap.wf_filter d m _ w
  · rename_i h
    simp only [SMap.wf, Bool.and_eq_true] at w ⊢
    exact ⟨SMap.risingFrom_insert m k v 0 (Nat.zero_le _) w.1, SMap.all_insert m _ k v (by simpa using h) w.2⟩

end

end Sys2Proof.Machine
end

