-- ==== Sys2Proof/Laws/Ops.lean ====
section
/-! SUPPORT. Laws/Ops.lean: register fields, mapped structures and bytes of memory read after a change. -/

namespace Sys2Proof.Machine

/-! ## Register fields (R13) -/

/-- A field reads what was stored, cut to its width. -/
@[simp] theorem getF_setF_same (s : State) (f : Field) (i n v : Nat) : getF (setF s f i n v) f i n = v % 2 ^ f.width := by
  simp [getF, setF]

/-- A field at another key reads as before. -/
theorem getF_setF_other (s : State) (f g : Field) (i n j m v : Nat) (h : g.key j m ≠ f.key i n) :
    getF (setF s f i n v) g j m = getF s g j m := by
  simp only [getF, setF]
  exact SMap.get_set_other _ _ _ _ h

/-- What reads the register file alone reads the same in states with the same register file. -/
theorem getF_congr {s t : State} (h : t.regs = s.regs) (f : Field) (i n : Nat) : getF t f i n = getF s f i n := by
  simp [getF, h]

@[simp] theorem getF_emit (s : State) (o : Out) (f : Field) (i n : Nat) : getF (emit s o) f i n = getF s f i n := rfl
@[simp] theorem getF_putSeq (s : State) (x : Nat) (q : Seq) (f : Field) (i n : Nat) :
    getF (putSeq s x q) f i n = getF s f i n := rfl
@[simp] theorem getF_putCore (s : State) (c : Nat) (k : Core) (f : Field) (i n : Nat) :
    getF (putCore s c k) f i n = getF s f i n := rfl
@[simp] theorem getF_putSync (s : State) (o : Nat) (k : SyncObj) (f : Field) (i n : Nat) :
    getF (putSync s o k) f i n = getF s f i n := rfl
@[simp] theorem getF_putTx (s : State) (l : Nat) (k : TxLink) (f : Field) (i n : Nat) :
    getF (putTx s l k) f i n = getF s f i n := rfl
@[simp] theorem getF_putRx (s : State) (l : Nat) (k : RxLink) (f : Field) (i n : Nat) :
    getF (putRx s l k) f i n = getF s f i n := rfl
@[simp] theorem getF_putStack (s : State) (k : Nat) (x : Stack) (f : Field) (i n : Nat) :
    getF (putStack s k x) f i n = getF s f i n := rfl
@[simp] theorem getF_putCirc (s : State) (k : Nat) (x : Circ) (f : Field) (i n : Nat) :
    getF (putCirc s k x) f i n = getF s f i n := rfl
@[simp] theorem getF_putDir (s : State) (k : Nat) (x : DirRec) (f : Field) (i n : Nat) :
    getF (putDir s k x) f i n = getF s f i n := rfl
@[simp] theorem getF_putTempo (s : State) (x : TempoSt) (f : Field) (i n : Nat) :
    getF (putTempo s x) f i n = getF s f i n := rfl

/-! ## Mapped structures -/

@[simp] theorem getSeq_putSeq (s : State) (x : Nat) (q : Seq) : getSeq (putSeq s x q) x = q := by simp [getSeq, putSeq]
@[simp] theorem getCore_putCore (s : State) (c : Nat) (k : Core) : getCore (putCore s c k) c = k := by
  simp [getCore, putCore]
theorem getCore_putCore_other (s : State) {c d : Nat} (k : Core) (h : d ≠ c) : getCore (putCore s c k) d = getCore s d := by
  simp [getCore, putCore, SMap.get_set_other _ _ _ _ h]
@[simp] theorem getSync_putSync (s : State) (o : Nat) (k : SyncObj) : getSync (putSync s o k) o = k := by
  simp [getSync, putSync]
theorem getSync_putSync_other (s : State) {o p : Nat} (k : SyncObj) (h : p ≠ o) :
    getSync (putSync s o k) p = getSync s p := by
  simp [getSync, putSync, SMap.get_set_other _ _ _ _ h]
@[simp] theorem getStack_putStack (s : State) (k : Nat) (x : Stack) : getStack (putStack s k x) k = x := by
  simp [getStack, putStack]
@[simp] theorem getCirc_putCirc (s : State) (k : Nat) (x : Circ) : getCirc (putCirc s k x) k = x := by
  simp [getCirc, putCirc]

/-! ## Memory -/

/-- A byte reads what was written last. -/
theorem readByte_writeByte_same (s : State) (a : Nat) (b : Byte) : readByte (writeByte s a b) a = b := by
  by_cases h : SMap.get s.lost 0 (lossUnit a) % 2 = 0
  · simp [readByte, writeByte, h]
  · simp [readByte, writeByte, h]

/-- Every other byte reads as before. -/
theorem readByte_writeByte_other (s : State) {a x : Nat} (b : Byte) (h : x ≠ a) :
    readByte (writeByte s a b) x = readByte s x := by
  by_cases g : SMap.get s.lost 0 (lossUnit a) % 2 = 0
  · simp [readByte, writeByte, g, SMap.get_set_other _ _ _ _ h]
  · simp [readByte, writeByte, g, SMap.get_set_other _ _ _ _ h]

theorem writeByte_mem_wf (s : State) (a : Nat) (b : Byte) (w : SMap.wf (0 : Byte) s.mem = true) :
    SMap.wf (0 : Byte) (writeByte s a b).mem = true := by
  have h : (writeByte s a b).mem = SMap.set s.mem 0 a b := by
    unfold writeByte; dsimp only; split <;> rfl
  rw [h]; exact SMap.wf_set _ _ _ _ w

theorem writeBytes_mem_wf (s : State) (a : Nat) (bs : List Byte) (w : SMap.wf (0 : Byte) s.mem = true) :
    SMap.wf (0 : Byte) (writeBytes s a bs).mem = true := by
  induction bs generalizing s a with
  | nil => exact w
  | cons b bs ih => exact ih _ _ (writeByte_mem_wf s a b w)

theorem loseUnit_mem_wf (s : State) (u : Nat) (w : SMap.wf (0 : Byte) s.mem = true) :
    SMap.wf (0 : Byte) (loseUnit s u).mem = true := SMap.wf_filter _ _ _ w

theorem zeroUnit_mem_wf (s : State) (u : Nat) (w : SMap.wf (0 : Byte) s.mem = true) :
    SMap.wf (0 : Byte) (zeroUnit s u).mem = true := SMap.wf_filter _ _ _ w

end Sys2Proof.Machine
end

