-- ==== Sys2Proof/Laws/Core.lean ====
section
/-! SUPPORT. Laws/Core.lean: the operations every core instruction shares: a core put back twice, dispatch where nothing
stops it, and what a retirement leaves. -/

namespace Sys2Proof.Machine

theorem insert_insert {α : Type} (m : SMap α) (k : Nat) (v w : α) :
    SMap.insert (SMap.insert m k v) k w = SMap.insert m k w := by
  induction m with
  | nil => simp [SMap.insert]
  | cons e m ih =>
    obtain ⟨k', v'⟩ := e
    by_cases h1 : k < k'
    · simp [SMap.insert, h1]
    · by_cases h2 : k = k'
      · simp [SMap.insert, h2]
      · simp [SMap.insert, h1, h2, ih]

theorem erase_insert {α : Type} (m : SMap α) (k : Nat) (v : α) : SMap.erase (SMap.insert m k v) k = SMap.erase m k := by
  induction m with
  | nil => simp [SMap.insert, SMap.erase]
  | cons e m ih =>
    obtain ⟨k', v'⟩ := e
    by_cases h1 : k < k'
    · simp [SMap.insert, SMap.erase, h1]
    · by_cases h2 : k = k'
      · simp [SMap.insert, SMap.erase, h2]
      · simp [SMap.insert, SMap.erase, h1, h2, ih]

/-- Of two writes of one key the second stands, where the first was no default. -/
theorem set_set {α : Type} [DecidableEq α] (m : SMap α) (d : α) (k : Nat) (v w : α) (h : v ≠ d) :
    SMap.set (SMap.set m d k v) d k w = SMap.set m d k w := by
  simp only [SMap.set, h, if_false]
  split
  · exact erase_insert m k v
  · exact insert_insert m k v w

theorem putCore_putCore (s : State) (c : Nat) (k k' : Core) (h : k.ibuf = true) :
    putCore (putCore s c k) c k' = putCore s c k' := by
  have : k ≠ Core.init := by intro e; rw [e] at h; exact absurd h (by decide)
  simp [putCore, set_set _ _ _ _ _ this]

theorem modCore_putCore (s : State) (c : Nat) (k : Core) (f : Core → Core) (h : k.ibuf = true) :
    modCore (putCore s c k) c f = putCore s c (f k) := by
  simp [modCore, putCore_putCore _ _ _ _ h]

theorem retire_putCore (s : State) (c n d : Nat) (k : Core) : putCore (retire s c n) d k = retire (putCore s d k) c n := rfl

/-- Where nothing stops it, an instruction acts on the core with its PC at the next word (R133, R165). -/
theorem dispatch_runs (s : State) (c : Fin 1280) (u : List Nat) (act : State → Nat → State) (h : Runs s c u) :
    dispatch s c u none act = act (putCore s c (fetched s c)) (getCore s c).pc := by
  simp [dispatch, h.1, h.2, modCore, fetched]

@[simp] theorem fetched_s (s : State) (c r : Nat) : (fetched s c).s r = (getCore s c).s r := rfl
@[simp] theorem fetched_lanes (s : State) (c r : Nat) : (fetched s c).lanes r = (getCore s c).lanes r := rfl
@[simp] theorem fetched_v (s : State) (c r i : Nat) : (fetched s c).v r i = (getCore s c).v r i := rfl
@[simp] theorem fetched_ibuf (s : State) (c : Nat) : (fetched s c).ibuf = true := rfl
@[simp] theorem fetched_asw (s : State) (c : Nat) : (fetched s c).asw = (getCore s c).asw := rfl
@[simp] theorem fetched_pc (s : State) (c : Nat) : (fetched s c).pc = (getCore s c).pc + 8 := rfl

@[simp] theorem modCore_fetched (s : State) (c : Nat) (f : Core → Core) :
    modCore (putCore s c (fetched s c)) c f = putCore s c (f (fetched s c)) := modCore_putCore _ _ _ _ rfl

theorem setS_ibuf (k : Core) (r v : Nat) : (k.setS r v).ibuf = k.ibuf := by unfold Core.setS; split <;> rfl
theorem setS_pc (k : Core) (r v : Nat) : (k.setS r v).pc = k.pc := by unfold Core.setS; split <;> rfl

/-- A scalar register reads what was written, and s0 reads 0 (R161). -/
theorem s_setS_same (k : Core) (r v : Nat) : (k.setS r v).s r = if r = 0 then 0 else v % 2 ^ 64 := by
  unfold Core.setS Core.s
  by_cases h : r = 0 <;> simp [h]

/-- Every other scalar register reads as before. -/
theorem s_setS_other (k : Core) {r q : Nat} (v : Nat) (h : q ≠ r) : (k.setS r v).s q = k.s q := by
  unfold Core.setS Core.s
  by_cases h0 : r = 0
  · simp [h0]
  · by_cases hq : q = 0
    · simp [hq]
    · simp [h0, hq, SMap.get_set_other _ _ _ _ h]

end Sys2Proof.Machine
end

