-- ==== Sys2Proof/Machine/Pins.lean ====
section
/-! DEFINITION. Machine/Pins.lean: the levels of the device's output pins, each a function of the state (R48, R558, R561). The
input pins are commands. -/

namespace Sys2Proof.Machine

/-- Is `MOD_FAULT_N` driven low (R561): the `ARB` page or the `PWR` page reads FAILED, or bring-up has stopped in FAILED. -/
def modFaultLow (s : State) : Bool :=
  pgState s cARB 0 == pgFailed || pgState s cPWR 0 == pgFailed || getF s MGT_BOOT_STAT_STEP 0 0 == 15

/-- Is `SB_ALERT_N` driven low (R558): under SMBus, while a PLDM event message waits to be read; under I3C never. No command
reads an event message, so each one sent waits (log entry 67, DESIGN CHOICE). -/
def sbAlertLow (s : State) : Bool :=
  getF s MGT_SB_CFG_BUS 0 0 == 0 && s.out.any fun o => match o with
    | .platformEvent _ _ _ => true
    | _ => false

/-! ## The test access port (R562)

The table has no command of the test port: what its pins do is said by these operations, which no command performs (log entry
139). -/

/-- Does `SEC_PROV.DEBUG` enable debug instructions and the readout of the twins' memories (R496): OPEN always, AUTH after an
unlock, LOCKED never. -/
def debugEnabled (s : State) : Bool :=
  getF s SEC_PROV_DEBUG 0 0 == 0 || (getF s SEC_PROV_DEBUG 0 0 == 1 && getF s SEC_DBG_STAT 0 0 == 1)

/-- What an instruction of the port selects (R562): boundary scan in every mode, debug and readout where enabled, any other the
bypass register. -/
def tapSelects (s : State) (i : TapInstr) : TapSel :=
  match i with
  | .boundaryScan => .boundary
  | .debug => if debugEnabled s then .debug else .bypass
  | .memoryReadout => if debugEnabled s then .readout else .bypass
  | .other => .bypass

/-- Update-IR with an instruction: its register is selected. -/
def tapUpdate (s : State) (i : TapInstr) : State := { s with tap := { s.tap with sel := tapSelects s i } }

/-- One Shift-DR with the level of `TDI` while the bypass register is selected: `TDO` shows the bit it held (IEEE 1149.1). -/
def tapShift (s : State) (tdi : Bool) : Bool × State :=
  (s.tap.bypass, if s.tap.sel = .bypass then { s with tap := { s.tap with bypass := tdi } } else s)

/-- Test-Logic-Reset, by `TRST_N` or by `TMS`. -/
def tapReset (s : State) : State := { s with tap := TapSt.init }

/-- Is `TEMPO_OUT_P/N` driven (R48). -/
def tempoOutDriven (s : State) : Bool := getF s TMP_CTRL_OUT_EN 0 0 == 1

end Sys2Proof.Machine
end

