-- ==== Sys2Proof/Tests/Slice0.lean ====
section
/-! SUPPORT. Tests/Slice0.lean: the checks of WellFormed refuse an ill-formed term each; for every statement, states and operands
that meet its hypotheses, and what one step then leaves, by the values that the manual gives. -/

namespace Sys2Proof.Tests

set_option Elab.async false

open Sys2Proof.Machine

/-- Register fields with values. -/
def regsOf (l : List (Field × Nat × Nat × Nat)) : SMap Nat :=
  l.foldl (fun m e => SMap.insert m (e.1.key e.2.1 e.2.2.1) e.2.2.2) []

/-- The state after reset with some register fields set. -/
def st (l : List (Field × Nat × Nat × Nat)) : State := { State.reset with regs := regsOf l }

/-- The command answers this next state. -/
def gives (c : Instr) (s t : State) : Bool :=
  match exec c s with
  | .next u => decide (u = t)
  | _ => false

/-- The command answers a next state with a property. -/
def ends (c : Instr) (s : State) (p : State → Bool) : Bool :=
  match exec c s with
  | .next u => p u
  | _ => false

/-- Core 0 RUNNING, with a core record. -/
def coreSt (k : Core) (l : List (Field × Nat × Nat × Nat)) : State := putCore (st ((COR_STAT_STATE, 0, 0, csRunning) :: l)) 0 k

/-- s1 holds the most negative number, s2 an address of local memory, s3 a number of bytes, s4 all ones. -/
def kA : Core := { Core.init with regs := [(1, 2 ^ 63), (2, 0x40), (3, 0x80), (4, 2 ^ 64 - 1)], pc := 0x100 }

/-- Core 0 with those registers. -/
def sA : State := coreSt kA []

/-- Register `d` of core 0 holds `v`, its PC stands at the next word, and the instruction has retired. -/
def wrote (d v : Nat) (t : State) : Bool :=
  (getCore t 0).s d == v && (getCore t 0).pc == 0x108 && getF t COR_RETIRED 0 0 == 1

/-! ## WellFormed -/

def pkt0 : Pkt := ⟨false, 0, 0, 0, 0, 0, 0, 0, 0, false, false, 0, 0, 0, 0, 0, false, false, List.replicate 8 0⟩

/-- Each field of a packet has its width; a control packet has 8 bytes and no multicast group. -/
theorem test_wf_packet : pkt0.wf = true ∧
    ([{ pkt0 with epoch := 2 }, { pkt0 with hop := 16 }, { pkt0 with status := 16 }, { pkt0 with srcSite := 16 },
      { pkt0 with srcNode := 2 ^ 14 }, { pkt0 with dst := 2 ^ 64 }, { pkt0 with tag := 2 ^ 16 }, { pkt0 with seq := 2 ^ 16 },
      { pkt0 with ctr := 2 ^ 16 }, { pkt0 with complete := 2 ^ 16 }, { pkt0 with mgrp := 2 ^ 12 }, { pkt0 with len := 32 },
      { pkt0 with op := 64 }, { pkt0 with payload := [] }, { pkt0 with mgrp := 1 },
      { pkt0 with data := true, len := 1 }] : List Pkt).all (fun p => !p.wf) = true := by decide +kernel

/-- Every command that a packet brings refuses one that is not well formed. -/
theorem test_wf_arrivals : (let a : Arrival := ⟨0, .canvas 0 ⟨0, 0⟩ none, true, .clean, { pkt0 with op := 64 }⟩
    ([.load a, .store a, .readReq a, .atomic a, .syncAdd a, .syncSet a, .syncRead a, .pktFence a, .comp a, .compData a, .credit a,
      .nak a, .throttle a, .notice a, .grantMsg a, .grantRefuse a, .grantReady a, .releaseMsg a, .getS a, .getM a, .putE a,
      .inval a, .recallS a, .recallI a, .cohAck a, .grantM a, .write a, .readData a, .atomicCas a, .accumF32 a, .lineGrant a,
      .linePutM a, .lineReturn a] : List Instr).all fun c => !c.wf) = true := by decide +kernel

/-- Every other check refuses an operand that is too large, too short or of another function. -/
theorem test_wf_operands : ([.writebackRetry 0 (2 ^ 50), .scrubRead 0 (2 ^ 40) .clean, .evacDone ⟨0, 2 ^ 40, .clean⟩,
      .heatRate 0 (List.replicate 513 (0, 0)), .requestTimeout (.fill 0 (2 ^ 50)), .bringupStepDone 0 0 [] 0 true true,
      .housekeepingRound false (List.replicate 1025 (0, 0, 0)) [] [], .calSlotDone 0 0 0 ⟨[0], [0], 0⟩ ⟨[], [], 0⟩,
      .calSlotDone 3 0 0 ⟨[0, 0], [0], 0⟩ ⟨[], [], 0⟩, .bar2Access (.vf 0) (2 ^ 25) 4 false none,
      .bar2Access .mgmt 0 4 false none, .pldmFwUpdate false [] [] true] :
      List Instr).all (fun c => !c.wf) = true := by decide +kernel

/-- An image is as large as its slot at most. -/
theorem test_wf_image (h b : List (BitVec 8)) (n : 8384512 < b.length) :
    (Instr.pldmFwUpdate false h b true).wf = false := by
  show (decide (h.length = 4096) && decide (b.length ≤ 8384512)) = false
  rw [decide_eq_false (Nat.not_le.2 n), Bool.and_false]

/-- A block of a scan has 64 entries at most. -/
theorem test_wf_scan (l : List (Fin (2 ^ 512))) (n : 64 < l.length) : (Instr.scanReadDone 0 l).wf = false :=
  decide_eq_false (Nat.not_le.2 n)

/-! ## Scalar instructions -/

theorem test_alu : (Runs sA 0 [1, 4, 3]) ∧ ([(.aluAdd 0 ⟨3, 1, 4, 0, 0⟩, 2 ^ 63 - 1), (.aluSub 0 ⟨3, 1, 4, 0, 0⟩, 2 ^ 63 + 1),
    (.aluAnd 0 ⟨3, 1, 4, 0, 0⟩, 2 ^ 63), (.aluOr 0 ⟨3, 1, 2, 0, 0⟩, 2 ^ 63 + 0x40), (.aluXor 0 ⟨3, 1, 4, 0, 0⟩, 2 ^ 63 - 1),
    (.aluShl 0 ⟨3, 2, 0, 0, 64⟩, 0x40), (.aluShr 0 ⟨3, 1, 0, 0, -1⟩, 1), (.aluSra 0 ⟨3, 1, 0, 0, 63⟩, 2 ^ 64 - 1),
    (.aluSlt 0 ⟨3, 1, 4, 0, 0⟩, 1), (.aluSltu 0 ⟨3, 4, 1, 0, 0⟩, 0), (.aluMin 0 ⟨3, 1, 2, 0, 0⟩, 2 ^ 63),
    (.aluMax 0 ⟨3, 1, 2, 0, 0⟩, 0x40), (.aluMinu 0 ⟨3, 1, 2, 0, 0⟩, 0x40), (.aluMaxu 0 ⟨3, 1, 2, 0, 0⟩, 2 ^ 63),
    (.aluMul 0 ⟨3, 1, 4, 0, 0⟩, 2 ^ 63), (.aluMulh 0 ⟨3, 4, 4, 0, 0⟩, 0), (.aluMulhu 0 ⟨3, 4, 4, 0, 0⟩, 2 ^ 64 - 2)] :
    List (Instr × Nat)).all (fun p => gives p.1 sA (scalarResult sA 0 3 p.2) && ends p.1 sA (wrote 3 p.2)) = true := by
  decide +kernel

/-- A destination of s0 discards the result. -/
theorem test_alu_discards : ends (.aluAdd 0 ⟨0, 2, 2, 0, 0⟩) sA (fun t => wrote 0 0 t && (getCore t 0).regs == kA.regs) = true := by
  decide +kernel

theorem test_constants : Runs sA 0 [] ∧ Runs sA 0 [3] ∧ Runs sA 0 [4, 3] ∧ ends (.nop 0 0 ⟨0, 0, 0, 0, 0⟩) sA (wrote 3 0x80) = true ∧
    ends (.movi 0 0 ⟨3, 0, 0, 0, -2⟩) sA (wrote 3 (2 ^ 64 - 2)) = true ∧
    ends (.movhi 0 0 ⟨3, 4, 0, 0, 0x12345678⟩) sA (wrote 3 0x12345678FFFFFFFF) = true := by decide +kernel

def wentTo (a : Nat) (t : State) : Bool := (getCore t 0).pc == a && getF t COR_RETIRED 0 0 == 1

theorem test_branches : Runs sA 0 [1, 4] ∧ ([(.brEq 0 ⟨0, 1, 4, 0, -2⟩, 0x108), (.brNe 0 ⟨0, 1, 4, 0, -2⟩, 0xF0),
    (.brLt 0 ⟨0, 1, 4, 0, 3⟩, 0x118), (.brGe 0 ⟨0, 1, 4, 0, 3⟩, 0x108), (.brLtu 0 ⟨0, 1, 4, 0, 3⟩, 0x118),
    (.brGeu 0 ⟨0, 4, 1, 0, 3⟩, 0x118)] : List (Instr × Nat)).all (fun p => ends p.1 sA (wentTo p.2)) = true := by decide +kernel

theorem test_jumps : Runs sA 0 [3] ∧ ends (.jal 0 0 ⟨3, 0, 0, 0, -32⟩) sA (fun t => wentTo 0 t && (getCore t 0).s 3 == 0x108) = true ∧
    Runs sA 0 [2, 2] ∧ ends (.jr 0 0 ⟨2, 2, 0, 0, 8⟩) sA (fun t => wentTo 0x48 t && (getCore t 0).s 2 == 0x108) = true ∧
    ends (.jr 0 0 ⟨2, 2, 0, 0, 4⟩) sA (fun t => coreState t 0 == csFaulted && getF t COR_FAULT_CODE 0 0 == 4) = true := by
  decide +kernel

/-- Core 0 with every status word set, in partition 2, its column present, and its site in an iteration. -/
def sCsr : State := { coreSt { kA with asw := 3, fstat := 0x105, dstat := 7 } [(MGT_PART_MAP, 0, 0, 0xA), (CLU_ROW_MAP_ABSENT, 0, 0, 0),
  (CLU_ROW_MAP_SPARE_FOR, 0, 0, 15), (MOV_ITER, 0, 0, 9)] with time := ⟨77, 5, 3, 0⟩ }

theorem test_csr : Runs sCsr 0 [3] ∧ lidOfCor sCsr 0 = some 0 ∧ partOf sCsr (corSite 0) = some 2 ∧
    ([(0, 3), (1, 0), (2, 2), (3, 77), (4, 3 * 256 + 5), (6, 0x105), (7, 7), (8, 9)] : List (Nat × Nat)).all (fun p =>
      ends (.csrRead 0 ⟨3, 0, 0, 0, BitVec.ofNat 32 p.1⟩) sCsr (wrote 3 p.2)) = true ∧
    Runs sCsr 0 [3, 3] ∧ ends (.csrClear 0 ⟨3, 0, 4, 0, 0⟩) sCsr (fun t => wrote 3 3 t && (getCore t 0).asw == 0) = true ∧
    ends (.csrClear 0 ⟨3, 0, 3, 0, 7⟩) sCsr (fun t => wrote 3 7 t && (getCore t 0).dstat == 7) = true ∧
    ends (.csrWrite 0 ⟨0, 0, 3, 0, 0⟩) sCsr (fun t => coreState t 0 == csFaulted && getF t COR_FAULT_CODE 0 0 == 1) = true := by
  decide +kernel

theorem test_trap : Runs sA 0 [] ∧ ends (.trap 0 0 ⟨0, 0, 0, 0, 0x7F⟩) sA (fun t => coreState t 0 == csFaulted &&
    getF t COR_FAULT_CODE 0 0 == 14 && getF t COR_FAULT_DETAIL 0 0 == 63 && (getCore t 0).pc == 0x100) = true := by decide +kernel

/-! ## Vector instructions -/

/-- FP32 numbers: v1 holds 1.0 in lane 0 and 2.0 in lane 1, v2 holds 2.0 and −4.0, v3 holds 0.5; every other lane is 0. -/
def kV : Core := { kA with vregs := [(64, 0x3F800000), (65, 0x40000000), (128, 0x40000000), (129, 0xC0800000), (192, 0x3F000000), (385, 0xC0800000)]
                           regs := [(2, 0x400), (5, 0x40000000), (6, 1)] }
def sV : State := coreSt kV []

/-- Lanes 0 and 1 of a vector register of core 0, its PC and the retired count. -/
def lanes (r x y : Nat) (t : State) : Bool :=
  (getCore t 0).v r 0 == x && (getCore t 0).v r 1 == y && (getCore t 0).pc == 0x108 && getF t COR_RETIRED 0 0 == 1

def fv (va vb vc s : Fin 32) : FmtV := ⟨4, va, vb, vc, 0, 0, false, s, 0⟩

theorem test_vector_two : Runs sV 0 [] ∧ UnusedZero (fv 1 2 0 0) false true true true false ∧
    ([(.vadd 0 (fv 1 2 0 0), 0x40400000, 0xC0000000), (.vsub 0 (fv 1 2 0 0), 0xBF800000, 0x40C00000),
    (.vmul 0 (fv 1 2 0 0), 0x40000000, 0xC1000000), (.vmin 0 (fv 1 2 0 0), 0x3F800000, 0xC0800000),
    (.vmax 0 (fv 1 2 0 0), 0x40000000, 0x40000000)] :
    List (Instr × Nat × Nat)).all (fun p => ends p.1 sV (lanes 4 p.2.1 p.2.2)) = true := by decide +kernel

theorem test_vector_fma : UnusedZero (fv 1 2 3 0) false true true true true ∧
    ends (.vfma 0 (fv 1 2 3 0)) sV (lanes 4 0x40200000 0xC1000000) = true := by decide +kernel

theorem test_vector_scalar : Runs sV 0 [5] ∧ UnusedZero (fv 1 0 0 5) true true true false false ∧
    ends (.vadds 0 (fv 1 0 0 5)) sV (lanes 4 0x40400000 0x40800000) = true ∧
    ends (.vmuls 0 (fv 1 0 0 5)) sV (lanes 4 0x40000000 0x40800000) = true := by decide +kernel

theorem test_vector_one : UnusedZero (fv 2 0 0 0) false true true false false ∧
    ends (.vabs 0 (fv 2 0 0 0)) sV (lanes 4 0x40000000 0x40800000) = true ∧
    ends (.vneg 0 (fv 2 0 0 0)) sV (lanes 4 0xC0000000 0x40800000) = true := by decide +kernel

/-- A square root of a negative number is a NaN and sets INVALID. -/
theorem test_vsqrt : ends (.vsqrt 0 (fv 6 0 0 0)) sV (fun t => (getCore t 0).v 4 1 == 0x7FC00000 && hasBit (getCore t 0).asw 0) = true := by
  decide +kernel

def fs (va vb s : Fin 32) : FmtV := ⟨0, va, vb, 0, 0, 0, false, s, 0⟩

theorem test_vector_compare : Runs sV 0 [7] ∧ UnusedZero (fs 1 2 7) true false true true false ∧
    ([(.vcmpEq 0 (fs 1 2 7), 2 ^ 64 - 4), (.vcmpLt 0 (fs 1 2 7), 1), (.vcmpLe 0 (fs 1 2 7), 2 ^ 64 - 3),
    (.vcmpNe 0 (fs 1 2 7), 3)] : List (Instr × Nat)).all (fun p => ends p.1 sV (wrote 7 p.2)) = true := by decide +kernel

theorem test_vector_across : UnusedZero (fv 1 0 0 7) true true true false false ∧ UnusedZero (fv 1 2 0 6) true true true true false ∧
    UnusedZero (fv 0 0 0 5) true true false false false ∧
    ends (.vredMax 0 (fv 1 0 0 7)) sV (fun t => wrote 7 0x40000000 t && lanes 4 0x40000000 0x40000000 t) = true ∧
    ends (.vredMin 0 (fv 2 0 0 7)) sV (fun t => wrote 7 0xC0800000 t && lanes 4 0xC0800000 0xC0800000 t) = true ∧
    ends (.vsel 0 0 (fv 1 2 0 6)) sV (lanes 4 0x3F800000 0xC0800000) = true ∧
    ends (.vbcast 0 0 (fv 0 0 0 5)) sV (lanes 4 0x40000000 0x40000000) = true := by decide +kernel

/-- A load of BF16: 1.0 and −2.0 at local address 0x400. -/
def sVld : State := storeLocal sV 0 0x400 [0x80, 0x3F, 0x00, 0xC0]

theorem test_vector_ready : VecReady sVld 0 ⟨4, 0, 0, 0, 2, 0, false, 2, 0⟩ (.flt bf16) 0x400 := by
  constructor <;> decide +kernel

theorem test_vld : ends (.vld 0 0 ⟨4, 0, 0, 0, 2, 0, false, 2, 0⟩ .clean) sVld (lanes 4 0x3F800000 0xC0000000) = true := by decide +kernel

theorem test_vst : VecReady sV 0 ⟨0, 2, 0, 0, 2, 0, false, 2, 0⟩ (.flt bf16) 0x400 ∧ ends (.vst 0 0 ⟨⟨0, 2, 0, 0, 2, 0, false, 2, 0⟩, .clean⟩) sV (fun t =>
    readLE (readLocal t 0) 0x400 8 == 0xC0804000 && readLE (readLocal t 0) 0x480 8 == 0 && getF t COR_RETIRED 0 0 == 1) = true :=
  ⟨by constructor <;> decide +kernel, by decide +kernel⟩

/-- VCVT of 1.0 and 2.0 to E2M1 and back. -/
theorem test_vcvt : vecFmt 0 = some (.flt fp32) ∧ Runs sV 0 [] ∧
    ends (.vcvt 0 0 ⟨4, 1, 0, 0, 1, 0, false, 0, 0⟩) sV (lanes 4 0x3F800000 0x40000000) = true := by decide +kernel

/-! ## Local memory and the tile engines -/

def sL : State := storeLocal (coreSt { kA with regs := [(2, 0x40), (3, 0x80), (4, 2 ^ 64 - 1), (6, 0xABCDEF01)] } []) 0 0x40 [0xFE, 0xFF, 1]

theorem test_local : Runs sL 0 [2, 5] ∧ Served (afterFetch sL 0) 0 0x40 2 ∧ localUe (afterFetch sL 0) 0 0x40 2 = false ∧
    ends (.ld 0 1 ⟨5, 2, 0, 0, 0⟩ .clean) sL (wrote 5 0xFFFE) = true ∧
    ends (.ld 0 5 ⟨5, 2, 0, 0, 0⟩ .clean) sL (wrote 5 (2 ^ 64 - 2)) = true ∧ Runs sL 0 [3, 6] ∧ Served (afterFetch sL 0) 0 0x80 4 ∧
    localUe (afterFetch sL 0) 0 0x80 4 = false ∧
    ends (.st 0 2 ⟨⟨0, 3, 6, 0, 0⟩, .clean⟩) sL (fun t => readLE (readLocal t 0) 0x80 8 == 0xABCDEF01 && readLE (readLocal t 0) 0x40 4 == 0x1FFFE &&
      getF t COR_RETIRED 0 0 == 1) = true := by decide +kernel

/-- A descriptor of E4M3 operands at 0x40, one block of K and one column, its output, in FP32, at 0x3000; A at 0x1000 holds 1.0
in its first element, B at 0x2000 holds 2.0. -/
def sT : State :=
  let s := coreSt { kA with regs := [(2, 0x40)] } []
  let s := storeLocal s 0 0x40 [0, 0x10, 0, 0, 0, 0, 0, 0, 0, 0x20, 0, 0, 0, 0, 0, 0, 0, 0x30, 0, 0]
  storeLocal (storeLocal (storeLocal s 0 (0x40 + 26) [0xC0, 0x18]) 0 0x1000 [0x38]) 0 0x2000 [0x40]
def fT (drn : Bool) : FmtT := ⟨0, 0, false, drn, 0, 2, 0, 0, 0, 0, 0, 0⟩
def dT : Desc := ⟨0x1000, 0, 0x2000, 0, 0x3000, 1, 1, 3, 3, 0, 0, false, 0, 0, 0⟩
def qT : TileReq := tileReq dT (.flt e4m3) (.flt e4m3) 0 0 0 0 0

theorem test_tile_ready : TileReady (afterFetch sT 0) 0 (fT true) dT qT (.flt fp32) := by
  refine ⟨by constructor <;> decide +kernel, ⟨.flt e4m3, .flt e4m3, ?_⟩, by decide +kernel, by decide +kernel, by decide +kernel,
    by decide +kernel, by decide +kernel, by decide +kernel⟩
  decide +kernel

theorem test_tile : Runs sT 0 [2, 0, 0, 0] ∧ engineQueue (getCore sT 0) 0 < 8 ∧ (getCore sT 0).engQ = [] ∧
    ends (.tmma 0 (fT true) (some 3) ⟨.clean, 0⟩) sT (fun t => coreState t 0 == csFaulted && (getCore t 0).accValid == 0) = true ∧
    ends (.tmma 0 (fT true) none ⟨.clean, 0⟩) sT (fun t => (getCore t 0).accValid == 1 && decide ((getCore t 0).acc = [(0, 0x40000000)]) &&
      (getCore t 0).tiles.map (·.out.take 4) == [[(0x3000, 0), (0x3001, 0), (0x3002, 0), (0x3003, 0x40)]]) = true := by decide +kernel

/-- Core 0 with a tile that drains two bytes. -/
def sTile : State := coreSt { kA with tiles := [⟨2, 0, [(0x3000, 7), (0x3001, 8)], 4⟩] } []

theorem test_tile_end : (getCore sTile 0).tiles.find? (fun t => t.eng == 2) = some ⟨2, 0, [(0x3000, 7), (0x3001, 8)], 4⟩ ∧
    ends (.tileComplete 0 2) sTile (fun t => readLE (readLocal t 0) 0x3000 8 == 0x807 && (getCore t 0).asw == 4 &&
      (getCore t 0).tiles.isEmpty && getF t COR_RETIRED 0 0 == 1) = true ∧
    (getCore sTile 0).tiles.find? (fun t => t.eng == 0) = none ∧ gives (.tileComplete 0 0) sTile sTile = true := by decide +kernel

/-- The same, with a valid bank to drain. -/
def sD : State := modCore sT 0 fun k => { k with accValid := 1, acc := [(0, 0x3F800000)] }

theorem test_drain_ready : DescReady (afterFetch sD 0) 0 0 0x40 dT ∧ (∀ r ∈ drainWrites dT (.flt fp32) 0x3000,
    (rangeGrant (afterFetch sD 0) 0 r.1 r.2).1 = .served) := ⟨by constructor <;> decide +kernel, by decide +kernel⟩

theorem test_drain : Runs sD 0 [2, 0] ∧ outAllowed (.flt fp32) (.flt fp32) = true ∧
    (drainWrites dT (.flt fp32) 0x3000).all inScratch = true ∧ outMisaligned dT (.flt fp32) 0x3000 = false ∧ bankBusy (getCore sD 0) 0 0 = false ∧
    ends (.tdrain 0 (fT false)) sD (fun t => (getCore t 0).tiles.map (·.out.take 4) ==
      [[(0x3000, 0), (0x3001, 0), (0x3002, 0x80), (0x3003, 0x3F)]]) = true := by decide +kernel

/-- Core 0 with a codebook load of slot 5 waiting; the record at 0x40 holds zeros. -/
def sC : State := coreSt { kA with engQ := [⟨.tcbld 5 3 0x40, 0x100⟩] } []

theorem test_codebook : Runs sA 0 [2] ∧ ends (.tcbld 0 ⟨3, 5, 2, 0, 0⟩) sA (fun t => decide ((getCore t 0).engQ = [⟨.tcbld 5 3 0x40, 0x100⟩])) = true ∧
    cbHead (getCore sC 0).engQ 0 = some ⟨.tcbld 5 3 0x40, 0x100⟩ ∧ outTouches (getCore sC 0) 3 [(0x40, 32)] = false ∧
    Served sC 0 0x40 32 ∧ localUe sC 0 0x40 32 = false ∧ cbValid 0 = false ∧ ends (.codebookSlotWrite 0 .clean) sC (fun t =>
      coreState t 0 == csFaulted && getF t COR_FAULT_CODE 0 0 == 11 && getF t COR_FAULT_DETAIL 0 0 == 5 && (getCore t 0).cbValid == 0) = true := by
  decide +kernel

/-! ## The queues of a core -/

/-- Core 0 of site 0 with operands: s2 = 0x40, s3 = 0x80, s4 all ones, s5 = 64. -/
def kQ : Core := { kA with regs := [(2, 0x40), (3, 0x80), (4, 2 ^ 64 - 1), (5, 64)] }
def sQ : State := coreSt kQ []

/-- One instruction stands at the end of the sync and fabric queue, or has issued from it. -/
def joined (d : Nat) (t : State) : Bool :=
  (getCore t 0).pc == 0x108 && (d == 0 || (getCore t 0).busy.contains d || getF t COR_RETIRED 0 0 == 1)

theorem test_fabric : Runs sQ 0 [2, 3, 7] ∧ (getCore sQ 0).fabQ.length < 8 ∧ ([(.gld 0 3 ⟨7, 2, 0, 0, 0⟩, 7), (.gst 0 3 ⟨0, 2, 3, 0, 0⟩, 0),
    (.atomAdd64 0 ⟨7, 2, 3, 0, 0⟩, 7), (.atomSwap64 0 ⟨7, 2, 3, 0, 0⟩, 7), (.atomCas64 0 ⟨7, 2, 3, 0, 0⟩, 7), (.atomAnd64 0 ⟨7, 2, 3, 0, 0⟩, 7),
    (.atomOr64 0 ⟨7, 2, 3, 0, 0⟩, 7), (.atomXor64 0 ⟨7, 2, 3, 0, 0⟩, 7), (.atomMin64 0 ⟨7, 2, 3, 0, 0⟩, 7), (.atomMax64 0 ⟨7, 2, 3, 0, 0⟩, 7),
    (.atomMinu64 0 ⟨7, 2, 3, 0, 0⟩, 7), (.atomMaxu64 0 ⟨7, 2, 3, 0, 0⟩, 7), (.atomAdd32 0 ⟨7, 2, 3, 0, 4⟩, 7), (.atomFadd32 0 ⟨7, 2, 3, 0, 4⟩, 7),
    (.sadd 0 ⟨0, 2, 3, 0, 0xFFFF⟩, 0), (.sset 0 ⟨0, 2, 3, 0, 0xFFFF⟩, 0), (.sread 0 ⟨7, 2, 0, 0, 0⟩, 7)] :
    List (Instr × Nat)).all (fun p => ends p.1 sQ (joined p.2)) = true := by decide +kernel

/-- An SADD takes effect on its object of the core's own site. -/
theorem test_sadd : ends (.sadd 0 ⟨0, 2, 3, 0, 0⟩) sQ (fun t => (getSync t 0x40).val == 0x80 && getF t COR_RETIRED 0 0 == 1) = true := by
  decide +kernel

/-- Core 0 with a SWAIT on object 0x40 until 5, with a timeout at the second boundary. -/
def sW (v : Nat) (now : Nat) : State :=
  { putSync (coreSt { kQ with wait := some ⟨7, 0x40, 5, some 2, false, none⟩, busy := [7] } []) 0x40 { SyncObj.init with val := v } with
    time := ⟨now, 3, 0, now⟩ }

theorem test_wait : Runs sQ 0 [2, 3, 7] ∧ syncSite 0x40 = corSite 0 ∧ ends (.swait 0 0 ⟨7, 2, 3, 0, 2 ^ 16⟩) sQ (fun t =>
      decide ((getCore t 0).wait = some ⟨7, 0x40, 0x80, some 1, false, none⟩)) = true ∧
    Runs (sW 0 0) 0 [2, 3] ∧ ends (.sadd 0 ⟨0, 2, 3, 0, 0⟩) (sW 0 0) (fun t => (getCore t 0).fabQ.length == 1 && (getSync t 0x40).val == 0) = true := by
  decide +kernel

theorem test_wait_ends : (getCore (sW 5 0) 0).wait = some ⟨7, 0x40, 5, some 2, false, none⟩ ∧
    ends (.swaitComplete 0) (sW 5 0) (fun t => (getCore t 0).wait.isNone && (getCore t 0).s 7 == 0 && (getCore t 0).busy.isEmpty) = true ∧
    gives (.swaitComplete 0) (sW 4 0) (sW 4 0) = true ∧ gives (.swaitTimeout 0) (sW 4 1) (sW 4 1) = true ∧
    ends (.swaitTimeout 0) (sW 4 2) (fun t => (getCore t 0).wait.isNone && (getCore t 0).s 7 == 2) = true ∧
    gives (.swaitPoll 0) (sW 4 2) (sW 4 2) = true := by decide +kernel

theorem test_copy : Runs sQ 0 [2, 3, 5] ∧ localRange 0x40 64 = true ∧ localRange 0x80 64 = true ∧ (getCore sQ 0).dmaQ.length < 16 ∧
    ends (.dcopy 0 ⟨⟨false, false, 0, 2, 3, 5, 0, false, false, 0, 0⟩, .clean, 0⟩) sQ (fun t => (getCore t 0).pc == 0x108 &&
      (getCore t 0).dmaQ.length + (getCore t 0).dmaLive == 1) = true := by decide +kernel

theorem test_fence : Runs sQ 0 [] ∧ ends (.fence 0 0 ⟨0, 0, 0, 0, 0⟩) sQ (wentTo 0x108) = true ∧
    ends (.fence 0 0 ⟨0, 0, 0, 0, 63⟩) sQ (fun t => decide ((getCore t 0).fence = some 63) && getF t COR_RETIRED 0 0 == 0 &&
      ends (.fenceDone 0) t (fun u => (getCore u 0).fence.isNone && !(getCore u 0).ibuf && wentTo 0x108 u)) = true ∧
    fenceMet { kQ with fence := some 63 } 63 = true := by decide +kernel

theorem test_mwait : ends (.mwait 0 0 ⟨0, 0, 0, 0, 0⟩) sQ (fun t => coreState t 0 == csMoveWait && wentTo 0x108 t) = true ∧
    getF (coreSt kQ [(COR_STAT_WAKE_PEND, 0, 0, 1)]) COR_STAT_WAKE_PEND 0 0 = 1 ∧
    ends (.mwait 0 0 ⟨0, 0, 0, 0, 0⟩) (coreSt kQ [(COR_STAT_WAKE_PEND, 0, 0, 1)]) (fun t => coreState t 0 == csRunning &&
      getF t COR_STAT_WAKE_PEND 0 0 == 0 && wentTo 0x108 t) = true := by decide +kernel

theorem test_halt : (let k : Core := { kQ with halting := true }
    queuesEmpty k = true ∧ ends (.coreHalted 0) (coreSt k []) (fun t => coreState t 0 == csHalted && hasBit (getF t (PG_EVT_FLAG cCOR) 0 0) 1) = true ∧
    ends (.halt 0 0 ⟨0, 0, 0, 0, 0⟩) sQ (wentTo 0x108) = true) := by decide +kernel

/-! ## Move sequencers -/

/-- The management core may write a register of an instance with this value. -/
abbrev may (s : State) (c i o v : Nat) : Prop := Allowed s .mgmt c i o v

/-- Site 0's sequencer in a state, with its one entry due at beat 0 of tempo 0; now is a beat of tempo 0. -/
def sM (state entry beat : Nat) : State :=
  { putSeq (st [(MOV_STAT_STATE, 0, 0, state), (GMB_RNG_STAT_ENTROPY_OK, 0, 0, 1)]) 0 { Seq.init with len := 1, heads := 1 } with
    moveMem := [(0, entry)]
    time := ⟨0, beat, 0, 0⟩ }

theorem test_mov_start : may (st []) cMOV 0 0x40 1 ∧ (getSeq (st []) 0).swap.isSome = false ∧
    ends (.start .mgmt 0 1) (st [(MOV_LIST_LEN, 0, 0, 7)]) (fun t => seqState t 0 == mvChecking && (getSeq t 0).len == 7 && !(getSeq t 0).startOk) = true ∧
    may (sM mvRunning 0 0) cMOV 0 0x40 1 ∧ ends (.start .mgmt 0 1) (sM mvRunning 0 0) (fun t => getF t MOV_STAT_ERR 0 0 == 11 &&
      seqState t 0 == mvRunning && hasBit (getF t (PG_EVT_FLAG cMOV) 0 0) 13) = true := by decide +kernel

theorem test_mov_stop : may (sM mvRunning 0 7) cMOV 0 0x40 2 ∧
    ends (.stop .mgmt 0 2) (sM mvRunning 0 7) (fun t => decide ((getSeq t 0).stopReq = some 7) && ends (.stopApply 0) t (fun u => seqState u 0 == mvRunning) &&
      ends (.stopApply 0) { t with time := ⟨0, 8, 0, 0⟩ } (fun u => seqState u 0 == mvStopped)) = true ∧
    ends (.stop .mgmt 0 2) (sM mvChecking 0 7) (fun t => seqState t 0 == mvStopped) = true ∧
    ends (.stop .mgmt 0 2) (sM mvIdle 0 7) (fun t => seqState t 0 == mvIdle) = true := by decide +kernel

theorem test_mov_force : may (sM mvStalled 0 7) cMOV 0 0x40 4 ∧ (getSeq (sM mvStalled 0 7) 0).eccStall = false ∧
    (getSeq (issueEntry (sM mvStalled 0 7) 0 1) 0).swap = none ∧
    ends (.movForce .mgmt 0 4) (sM mvStalled 0 7) (fun t => seqState t 0 == mvRunning && (getSeq t 0).posIter == 1) = true ∧
    ends (.movForce .mgmt 0 4) (sM mvRunning 0 7) (fun t => (getSeq t 0).posIter == 0) = true := by decide +kernel

theorem test_mov_swap : may (sM mvRunning 0 7) cMOV 0 0x40 16 ∧
    ends (.swapArm .mgmt 0 16) (sM mvRunning 0 7) (fun t => decide ((getSeq t 0).swap = some (0, 0)) && (getSeq t 0).swapChecking &&
      ends (.swapCheckDone 0 none) t (fun u => !(getSeq u 0).swapChecking) &&
      ends (.swapDisarm .mgmt 0 0) t (fun u => (getSeq u 0).swap.isNone && getF u MOV_CTRL_SWAP_ARM 0 0 == 0)) = true := by decide +kernel

theorem test_mov_load : may (st []) cMOV 3 MOV_LOAD_DATA.off 9 ∧ loadRefused (st []) 3 0 1 = false ∧
    ends (.moveLoadData .mgmt 3 9) (st []) (fun t => moveEntry t 3 0 == 9 && (getSeq t 3).loadWord == 1 &&
      ends (.moveLoadData .mgmt 3 1) t (fun u => moveEntry u 3 0 == 9 + 2 ^ 32)) = true ∧
    loadRefused (sM mvRunning 0 7) 0 0 1 = true ∧
    ends (.moveLoadData .mgmt 0 9) (sM mvRunning 0 7) (fun t => moveEntry t 0 0 == 0 && hasBit (getF t (PG_EVT_FLAG cMOV) 0 0) 10) = true := by
  decide +kernel

theorem test_mov_dma : may (st [(MOV_DMA_CTRL_COUNT, 3, 0, 1)]) cMOV 3 MOV_DMA_CTRL_GO.off (2 ^ 31) ∧
    ends (.copyLoadGo .mgmt 3 (2 ^ 31)) (st []) (fun t => (getSeq t 3).dma.isNone && getF t MOV_DMA_CTRL_COUNT 3 0 == 0) = true := by
  decide +kernel

/-- A copy load of one entry in flight, from another module. -/
def sLd : State := { putSeq (st [(FAB_NODE_NODE, 0, 0, 1)]) 3 { Seq.init with dma := some (0, 5, 1) } with
  copies := [⟨9, 3, .moveLoad 3, ⟨0, 0, 1, 0, false, false, 0, 0, true, false⟩, 0, 0, 0, 0, 0, [0]⟩] }

theorem test_mov_loaded : (sLd.copies.find? fun r => r.kind == .moveLoad (3 : Fin 16)) = sLd.copies.head? ∧ isHere sLd 0 = false ∧
    moveEntry (loadEntries sLd 3 0 (7 :: List.replicate 63 0)) 3 5 = 7 ∧
    ends (.copyLoadComplete 3 .clean 0) sLd (fun t => t.copies.isEmpty && (getSeq t 3).dma.isNone) = true := by
  decide +kernel

/-- Entries of every action, issued at their beat; an action before its beat does not happen. -/
theorem test_mov_entries : entryDue (sM mvRunning (5 * 2 ^ 24 + 7 * 2 ^ 192 + 3 * 2 ^ 128) 0) 0 = true ∧
    ends (.moveNop 0) (sM mvRunning 0 0) (fun t => (getSeq t 0).posIter == 1) = true ∧
    gives (.moveNop 0) (sM mvRunning (2 ^ 16) 0) (sM mvRunning (2 ^ 16) 0) = true ∧
    ends (.moveSyncAdd 0) (sM mvRunning (5 * 2 ^ 24 + 7 * 2 ^ 192 + 3 * 2 ^ 128) 0) (fun t => (getSync t 3).val == 7) = true ∧
    ends (.moveSyncSet 0) (sM mvRunning (6 * 2 ^ 24 + 7 * 2 ^ 192 + 3 * 2 ^ 128) 0) (fun t => (getSync t 3).val == 7) = true ∧
    ends (.moveHalt 0) (sM mvRunning (8 * 2 ^ 24) 0) (fun t => seqState t 0 == mvStopped) = true ∧
    ends (.moveGrant 0) (sM mvRunning (1 * 2 ^ 24) 0) (fun t => (getSeq t 0).posIter == 1) = true ∧
    ends (.moveRelease 0) (sM mvRunning (2 * 2 ^ 24) 0) (fun t => (getSeq t 0).posIter == 1) = true ∧
    ends (.moveCopyStart 0) (sM mvRunning (3 * 2 ^ 24) 0) (fun t => (getSeq t 0).posIter == 1) = true ∧
    ends (.moveCalWindow 0) (sM mvRunning (7 * 2 ^ 24) 0) (fun t => (getSeq t 0).posIter == 1) = true := by decide +kernel

/-- A head of the running list, at the boundary of its second iteration. -/
def sHead (l : Seq) (l2 : List (Field × Nat × Nat × Nat)) : State :=
  { putSeq (st ([(MOV_STAT_STATE, 0, 0, mvRunning), (GMB_RNG_STAT_ENTROPY_OK, 0, 0, 1)] ++ l2)) 0 l with time := ⟨1, 0, 0, 1⟩ }

theorem test_mov_heads : (let a := sHead { Seq.init with len := 1, heads := 1, posIter := 1 } []
    let b := sHead { Seq.init with len := 1, heads := 1 } []
    let c := sHead { Seq.init with len := 1, heads := 1, posIter := 1, swap := some (8, 2) } [(MOV_CTRL_SWAP_ARM, 0, 0, 1)]
    headDue a 0 = true ∧ headSwaps a 0 = false ∧ headOverrun b 0 = true ∧ headDue b 0 = true ∧ headSwaps b 0 = false ∧ headDue c 0 = true ∧
    headSwaps c 0 = true ∧ ends (.loopHead 0) a (fun t => (getSeq t 0).heads == 2 && getF t MOV_ITER 0 0 == 1) = true ∧
    ends (.movOverrun 0) b (fun t => (getSeq t 0).heads == 2 && hasBit (getF t (PG_EVT_FLAG cMOV) 0 0) 3) = true ∧
    ends (.swap 0) c (fun t => (getSeq t 0).base == 8 && (getSeq t 0).len == 2 && (getSeq t 0).heads == 1 && (getSeq t 0).start == 1 &&
      getF t MOV_CTRL_SWAP_ARM 0 0 == 0) = true) := by decide +kernel

/-- An entry that waits for object 9 with a deadline of 1 tempo. -/
theorem test_mov_stalls : (let e := 2 ^ 32 + 9 * 2 ^ 48 + 5 * 2 ^ 64 + 2 ^ 112
    let a := { sM mvRunning e 0 with time := ⟨1, 0, 0, 1⟩ }
    moveWaitMet a 0 = false ∧ entryBad a 0 0 = false ∧ sinceDue a 0 = 100 ∧
    ends (.deadline 0) a (fun t => seqState t 0 == mvStalled && getF t MOV_STALL_SYNC 0 0 == 9 && hasBit (getF t (PG_EVT_FLAG cMOV) 0 0) 2) = true ∧
    entryDue (sM mvRunning 0 0) 0 = true ∧
    ends (.entryEccError 0) (sM mvRunning 0 0) (fun t => seqState t 0 == mvStalled && getF t MOV_STAT_ERR 0 0 == 8) = true ∧
    gives (.wakeBooking 0) (sM mvRunning 0 0) (sM mvRunning 0 0) = true) := by decide +kernel

/-- Checks of a list of no entry, and of one entry with a reserved bit. -/
theorem test_mov_checks : (let a := fun ok n => putSeq (st [(MOV_STAT_STATE, 2, 0, mvChecking)]) 2 { Seq.init with len := n, startOk := ok, period := 10 }
    let b := { a true 1 with moveMem := [(2 * 4096, 2 ^ 23)] }
    ends (.listCheckDone 2 none) (a false 1) (fun t => seqState t 2 == mvIdle && getF t MOV_STAT_ERR 2 0 == 5) = true ∧
    listCheck (a true 1) 2 0 1 10 (0, 0) [] = none ∧ ends (.listCheckDone 2 none) (a true 1) (fun t => seqState t 2 == mvArmed) = true ∧
    (listCheck b 2 0 1 10 (0, 0) []).isSome = true ∧ ends (.listCheckDone 2 none) b (fun t => seqState t 2 == mvIdle && getF t MOV_STAT_ERR 2 0 != 0 &&
      hasBit (getF t (PG_EVT_FLAG cMOV) 2 0) 5) = true) := by decide +kernel

/-! ## Cores, banks and line caches -/

/-- Core 0 in a state, with its COR_CTRL free of other conditions. -/
def sCor (state : Nat) (k : Core) : State := putCore (st [(COR_STAT_STATE, 0, 0, state)]) 0 k

theorem test_cor_power : may (sCor csOff Core.init) cCOR 0 COR_CTRL_RUN.off 0 ∧ (getCore (sCor csOff Core.init) 0).resetAt = none ∧
    ends (.pwrReqOn .mgmt 0 0) (sCor csOff Core.init) (fun t => t.gov.queue.map (·.kind) == [.corePower 0] && (getCore t 0).asked) = true ∧
    ends (.pwrReqOn .mgmt 0 0) (sCor csRetained Core.init) (fun t => t.gov.queue.map (·.kind) == [.coreReturn 0]) = true ∧
    may (sCor csHalted Core.init) cCOR 0 COR_CTRL_RUN.off 0x10 ∧
    ends (.pwrReqRetain .mgmt 0 0x10) (sCor csHalted Core.init) (fun t => decide ((getCore t 0).goal = some (csRetained, 0))) = true ∧
    ends (.pwrReqRetain .mgmt 0 0x10) (sCor csRunning Core.init) (fun t => (getCore t 0).goal.isNone && getF t COR_CTRL_PWR_REQ 0 0 == 1) = true ∧
    ends (.pwrReqOff .mgmt 0 0x20) (sCor csFaulted Core.init) (fun t => decide ((getCore t 0).goal = some (csOff, 0))) = true := by decide +kernel

theorem test_cor_run : may (sCor csHalted kA) cCOR 0 COR_CTRL_RUN.off 1 ∧
    ends (.run .mgmt 0 1) (sCor csHalted kA) (fun t => t.gov.queue.map (·.kind) == [.coreRun 0] && coreState t 0 == csHalted) = true ∧
    ends (.corHalt .mgmt 0 2) (sCor csRunning kA) (fun t => (getCore t 0).halting || coreState t 0 == csHalted) = true ∧
    ends (.clrFault .mgmt 0 4) (sCor csFaulted kA) (fun t => coreState t 0 == csHalted && (getCore t 0).pc == 0x100) = true ∧
    ends (.coreReset .mgmt 0 8) (sCor csHalted kA) (fun t => (getCore t 0).resetAt.isSome || (getCore t 0).pc == 0) = true := by decide +kernel

/-- A transition to RETAINED takes 1 µs. -/
theorem test_transition : (let a := fun b => { sCor csHalted { kA with goal := some (csRetained, 0) } with time := ⟨b / 100, b % 100, 0, b / 100⟩ }
    gives (.coreTransitionDone 0) (a 99) (a 99) = true ∧ nowBeat (a 99) < 0 + goalBeats csHalted csRetained ∧
    ends (.coreTransitionDone 0) (a 100) (fun t => coreState t 0 == csRetained && (getCore t 0).s 1 == 2 ^ 63) = true) := by decide +kernel

theorem test_reset_limit : (let a := fun n => { sCor csHalted { kA with resetAt := some 5, outstanding := 1 } with time := ⟨n, 0, 0, n⟩ }
    ends (.resetDrainLimit false 0) (a 5) (fun t => (getCore t 0).resetAt.isNone && (getCore t 0).pc == 0) = true ∧
    gives (.resetDrainLimit false 0) (a 4) (a 4) = true ∧
    (SMap.find ({ a 4 with cluResets := [(3, 1)] } : State).cluResets 3).isSome = true) := by decide +kernel

/-- Core 0 has failed and its spare, position 9, is HALTED. -/
def sSub : State := { st [(COR_STAT_STATE, 0, 0, csFailed), (COR_STAT_STATE, 9, 0, csHalted), (CLU_ROW_MAP_SPARE_FOR, 0, 0, 15),
  (CLU_ROW_MAP_ABSENT, 0, 0, 0), (CLU_ROW_MAP_SPARE_OK, 0, 0, 1)] with substs := [⟨0, 0⟩] }

theorem test_spare : (sSub.substs.any fun x => x.pos == 0) = true ∧ atBoundary sSub = true ∧ coreState sSub (rowSpare 0) = csHalted ∧
    nothingInFlight sSub 0 = true ∧
    ends (.spareSubstitution 0 true) sSub (fun t => decide (lidOfCor t 9 = some 0) && decide (lidOfCor t 0 = none)) = true := by decide +kernel

theorem test_ratio : ends (.ratioDecrease 2) { st [] with ratios := [(2, 1)] } (fun t => getF t CDI_CLK_RATIO 2 0 == 1) = true ∧
    gives (.ratioDecrease 2) (st []) (st []) = true := by decide +kernel

theorem test_flit : ends (.flitCrcFail 1 0 3 true 0) (st []) (fun t => getF t CDI_NET_CE 1 0 == 1 && hasBit (getF t (PG_EVT_FLAG cCDI) 1 0) 1) = true ∧
    hasBit (getF (st [(CDI_LINK_FAIL, 1, 0, 8)]) CDI_LINK_FAIL 1 0) 3 = true ∧
    ends (.flitCrcFail 1 0 3 false 0) (st [(CDI_LINK_FAIL, 1, 0, 8)]) (fun t => getF t CDI_NET_UE 1 0 == 1) = true := by decide +kernel

/-- A bank of core 5 goes over to HOST; while it drains it is refused. -/
theorem test_handover : (let v : Nat := 2 ^ 31 + 3 * 2 ^ 12 + 3 * 2 ^ 16
    may (st []) cCOR 5 0x108 v ∧ (bankOf false 5 1).refuses (st []) 3 0 0 = false ∧
    ends (.bankHandover .mgmt false 5 1 (BitVec.ofNat 32 v)) (st []) (fun t => getF t COR_BANK_STAT_STATE 5 1 == 1 && getF t COR_BANK_STAT_CLASS 5 1 == 1 &&
      ends (.bankHandover .mgmt false 5 1 (BitVec.ofNat 32 v)) t (fun u => getF u COR_BANK_STAT_LAST 5 1 == 2) &&
      bankTiles t (bankOf false 5 1) == [] && (bankInbound t (bankOf false 5 1)).isEmpty &&
      ends (.handoverDone false 5 1) t (fun u => getF u COR_BANK_STAT_CLASS 5 1 == 3 && getF u COR_BANK_STAT_STATE 5 1 == 0)) = true) := by decide +kernel

theorem test_bank_levels : (let b := bankOf false 5 1
    let sleeping := { b.put (b.put (st []) b.sState 3) b.sPwr 0 with bankNext := [(b.key, ⟨1, 0, 0, 0, 2, 0⟩)] }
    let waking := { b.put (b.put (st []) b.sState 2) b.sPwr 1 with bankJobs := [(b.key, 9)] }
    let forced := { b.put (b.put (st []) b.sState 1) b.sClass 3 with bankJobs := [(b.key, 1)], bankNext := [(b.key, ⟨4, 0, 0, 0, 0, 0⟩)] }
    ends (.bankSleepDone false 5 1) sleeping (fun t => b.get t b.sPwr == 2 && b.get t b.sState == 0) = true ∧ SMap.get waking.bankJobs 0 b.key ≠ 0 ∧
    ends (.bankWakeDone false 5 1) waking (fun t => b.get t b.sPwr == 0 && b.get t b.sState == 0) = true ∧
    getF forced CLU_HO_TMO b.clu 0 ≠ 0 ∧ (bankCore forced b).isNone = true ∧
    ends (.handoverForced false 5 1) forced (fun t => b.get t b.sClass == 4 && b.get t b.sLastF == 3) = true) := by decide +kernel

theorem test_cache_size : may (st []) cCLU 2 CLU_LC_CTRL_APPLY.off (2 ^ 31) ∧ cluLines (st []) 2 = [] ∧ getF (st []) CLU_LC_STAT_STATE 2 0 ≠ 1 ∧
    getF (st []) CLU_LC_STAT_SIZE 2 0 = bitsOf (2 ^ 31) 1 0 ∧
    ends (.lcApply .mgmt 2 (2 ^ 31)) (st []) (fun t => getF t CLU_LC_STAT_STATE 2 0 == 1 && (lcBanks 0).isEmpty &&
      ends (.lcApply .mgmt 2 (2 ^ 31 + 1)) t (fun u => SMap.get u.lcNext 0 2 == 1) &&
      ends (.lcChangeDone 2) t (fun u => getF u CLU_LC_STAT_STATE 2 0 == 0)) = true ∧ gives (.writebackRetry 2 0) (st []) (st []) = true := by
  decide +kernel

/-! ## Memory stacks -/

theorem test_stack_reset : may (st []) cMST 3 MST_CTRL_RESET.off 1 ∧
    ends (.stackReset .mgmt 3 1) (st []) (fun t => getF t MST_STAT_PHASE 3 0 == 1 && getF t MST_RST_CNT 3 0 == 1 && (getStack t 3).resetFrom.isSome &&
      ends (.stackWatchdog 3) t (fun u => getF u MST_RST_CNT 3 0 == 1) &&
      ends (.stackDrainLimit 3) { t with time := ⟨2, 0, 0, 2⟩ } (fun u => getF u MST_STAT_PHASE 3 0 == 2)) = true := by decide +kernel

theorem test_stack_reset_done : (let a := fun ok => putStack (st [(MST_STAT_PHASE, 3, 0, 5)]) 3 { Stack.init with resetFrom := some 0, exitOk := ok }
    govHas (a false) (fun g => g == .stack 3) = false ∧ stackFailed (a true) 3 = false ∧
    ends (.stackResetDone 3) (a true) (fun t => getF t MST_STAT_PHASE 3 0 == 6 && (getStack t 3).resetFrom.isNone) = true ∧
    ends (.stackResetDone 3) (a false) (fun t => t.gov.queue.map (·.kind) == [.stack 3]) = true) := by decide +kernel

/-- Stack 3 in service. -/
def sSt : State := st [(MST_CTRL_SCRUB_EN, 3, 0, 1), (MST_CAP_MIB, 3, 0, 64), (MST_STAT_SPARE_FOR, 3, 0, 15), (MCH_VIA_MAP_S0_FOR, 384, 0, 31), (MST_STAT_PHASE, 3, 0, 0),
  (MCH_WIDTH_MODE_MODE, 384, 0, 0)]

theorem test_stack_repairs : stackServes sSt 3 = true ∧ isUe sSt (physStack 3 64) = false ∧ gives (.scrubRead 3 1 .clean) sSt sSt = true ∧
    ends (.scrubRead 3 1 .corrected) sSt (fun t => getF t MCH_ECC_CE 385 0 == 1) = true ∧
    ends (.refreshCommand 384 0) sSt (fun t => SMap.get (getStack t 3).refreshed 0 0 == 1) = true ∧
    ends (.laneFailure 384 0) sSt (fun t => getF t MCH_VIA_FAIL 384 0 == 1 && getF t MCH_VIA_MAP_S0_FOR 384 0 == 0) = true ∧
    ends (.layerFailure 3 4) sSt (fun t => getF t MST_STAT_SPARE_FOR 3 0 == 4 &&
      ends (.layerFailure 3 5) t (fun u => getF u MST_STAT_PHASE 3 0 == 7 && getF u MST_CAP_MIB 3 0 == 0)) = true := by decide +kernel

theorem test_evac : ends (.evacDone ⟨3, 0, .clean⟩) (putStack sSt 3 { Stack.init with evacs := [⟨3, 1, 0, 1, 0⟩] }) (fun t => (getStack t 3).evacs.isEmpty &&
    getF t MCH_WIDTH_MODE_RELIEVED 385 0 == 1) = true := by decide +kernel

/-! ## Packets and links -/

/-- Every site belongs to partition 0, and the module is node 0. -/
def sP : State := st [(MGT_PART_MAP, 0, 0, 0x8888888888888888), (FAB_NODE_NODE, 0, 0, 0)]

/-- A packet for a site, from site 1, with 8 bytes, or with `n` units of 64. -/
def arr (site : Fin 16) (op ctr ofs w : Nat) : Arrival :=
  ⟨site, .canvas 1 ⟨0, 0⟩ none, false, .clean, { pkt0 with op := op, dst := site * 2 ^ 46 + ofs, ctr := ctr, srcSite := 1, payload := bytesLE 8 w }⟩
def arrD (site : Fin 16) (op ctr ofs n : Nat) : Arrival :=
  let a := arr site op ctr ofs 0
  { a with pkt := { a.pkt with data := true, len := n, payload := List.replicate (64 * n) 1 } }

/-- The state that RequestPackets names. -/
def served (a : Arrival) (s : State) : State :=
  match performReq (received s a) a.site (viaIngress a.site a.via) a.pkt a.ecc with
  | .ok t st v => released (drainSub (answer t a.site a.pkt st v (if st = .targetResetting then retryAfter t a.site else 0)) a.pkt.epoch) a
  | .wait => s

/-- Every request of a compute site meets the hypotheses of RequestPackets. -/
def reqs : List (Arrival × Instr) :=
  let r := fun (a : Arrival) (c : Arrival → Instr) => (a, c a)
  [r (arr 0 opLOAD 3 0x10000000 0) .load, r (arr 0 opSYNC_ADD 3 0 7) .syncAdd, r (arr 0 opSYNC_SET 3 0 7) .syncSet,
    r (arr 0 opSYNC_READ 3 0 0) .syncRead, r (arr 0 opFENCE 0 0 0) .pktFence, r (arr 0 opSTORE 3 0x10000000 9) .store,
    r (arr 0 opATOMIC 0 0x10000000 9) .atomic, r (arrD 0 opWRITE 0 0x10000000 1) .write, r (arrD 0 opREAD_DATA 0 0x10000000 1) .readData,
    r (arrD 0 opATOMIC_CAS 0 0x10000000 1) .atomicCas, r (arrD 0 opACCUM_F32 0 0x10000000 1) .accumF32]

theorem test_requests_fresh : reqs.all (fun p => let a := p.1
    !a.fec && seqAccepted (getRx sP (arrLink a)) a.pkt.seq && !pktMalformed a.pkt && !epochLate sP a.pkt.epoch && isHere sP a.pkt.dst &&
    gaSite a.pkt.dst == a.site.val && !siteResetting sP a.site && (hotQueue (received sP a) (hotKey (received sP a) a.site a.pkt)).isEmpty &&
    !isPaced (received sP a) a.site a.pkt && a.wf) = true := by decide +kernel

theorem test_requests : reqs.all (fun p => gives p.2 sP (served p.1 sP)) = true := by decide +kernel

theorem test_sync_packet : ends (.syncAdd (arr 0 opSYNC_ADD 3 0 7)) sP (fun t => (getSync t 3).val == 7 && getF t PRT_PKT_RX 0 0 == 1) = true := by
  decide +kernel

theorem test_read_packet : (let a := { arr 0 opREAD_REQ 1 0x10000000 0 with pkt := { (arr 0 opREAD_REQ 1 0x10000000 0).pkt with len := 1 } }
    !pktMalformed a.pkt = true ∧ gives (.readReq a) sP (match performRead (received sP a) 0 none a.pkt .clean with
      | some u => released (drainSub u 0) a
      | none => sP) = true ∧ (performRead (received sP a) 0 none a.pkt .clean).isSome = true) := by decide +kernel

/-- A store for a line of stack 1. -/
def aPaced : Arrival := arr 3 opSTORE 3 0x40 9

theorem test_paced : (let s := sP
    let r := cmapAdd (received s aPaced) (hotCount 3 0 0 1) (pktCells aPaced.pkt)
    let key := hotKey r 3 aPaced.pkt
    isPaced (received s aPaced) 3 aPaced.pkt = true ∧ hotQueue r key = [] ∧ lineFree r key = true ∧
    ends (.store aPaced) s (fun t => !lineFree t key && (hotQueue t key).isEmpty) = true ∧
    ends (.store aPaced) { s with hotAt := [(key, 4)] } (fun t => (hotQueue t key).length == 1 &&
      gives (.hotLineOperation key) t t && ends (.hotLineOperation key) { t with time := ⟨0, 0, 4, 0⟩ } fun u => (hotQueue u key).isEmpty) = true) := by
  decide +kernel

theorem test_answer : (let p := { pkt0 with op := opSYNC_READ, tag := 5, srcSite := 0 }
    let s := { sP with tags := [(5, ⟨5, 0, p, .moveSync 0, 0, 10, 0, false⟩)] }
    let a : Arrival := ⟨0, .canvas 1 ⟨0, 0⟩ none, false, .clean, { pkt0 with op := opCOMP, dst := 0, tag := 5, srcSite := 1 }⟩
    (findTag s 0 5).isSome = true ∧ ends (.comp a) s (fun t => (findTag t 0 5).isNone) = true ∧
    ends (.compData { a with pkt := { a.pkt with op := opCOMP_DATA } }) s (fun t => (findTag t 0 5).isNone) = true ∧
    ends (.requestTimeout (.tag 0 5)) { s with time := ⟨10, 0, 0, 10⟩ } (fun t => (findTag t 0 5).isNone) = true ∧
    gives (.requestTimeout (.tag 0 5)) s s = true ∧ gives (.requestRetry 0 6) s s = true) := by decide +kernel

theorem test_fill_timeout : (let s := { sP with fills := [⟨0, 3, false, [], none, none, false, true, 10⟩] }
    (findFill s 0 3).isSome = true ∧ gives (.requestTimeout (.fill 0 3)) s s = true) := by decide +kernel

/-- A link message for site 0 from site 1. -/
def aLink (op w : Nat) : Arrival := arr 0 op 0 0 w

theorem test_link_messages : [opCREDIT, opNAK, opNOTICE, opTHROTTLE].all (fun op => let a := aLink op 0
      !a.fec && seqAccepted (getRx sP (arrLink a)) a.pkt.seq && !pktMalformed a.pkt && !epochLate sP a.pkt.epoch) = true ∧
    ends (.credit (aLink opCREDIT (1 + 3 * 2 ^ 16))) (putTx sP (backLink (arrLink (aLink opCREDIT 0))) { TxLink.init with unacked := [⟨⟨pkt0, true, none, 0⟩, 0, 0, 0, false⟩] })
      (fun t => (getTx t (backLink (arrLink (aLink opCREDIT 0)))).unacked.isEmpty) = true ∧
    ends (.nak (aLink opNAK 0)) sP (fun t => getF t PRT_PKT_RX 0 0 == 1) = true ∧
    ends (.notice { aLink opNOTICE 77 with via := .veryen 0 }) sP (fun t => getF t VLK_PEER_RESET 0 0 == 77) = true ∧
    ends (.throttle (aLink opTHROTTLE (9 + 3 * 2 ^ 18))) sP (fun t => (SMap.get t.throttles [] 0).map (·.node) == [9]) = true := by decide +kernel

/-- A circuit from site 0 to site 1 and a packet that waits for it. -/
def sTx : State := { putTx sP (linkCanvas 0 1) { TxLink.init with queue := [⟨pkt0, true, none, 0⟩] } with
  circs := [(circKey 3 5, { Circ.init with lastSent := 0 })] }

theorem test_link_idle : (getTx sP (linkIdx (.canvas 0 1))).queue = [] ∧ gives (.packetStart (.canvas 0 1)) sP sP = true ∧
    gives (.creditReturn (.canvas 0 1)) sP sP = true ∧ gives (.throttleExpire 0) sP sP = true ∧
    ends (.packetCrcFail 0 (.canvas 1 ⟨0, 0⟩ none)) sP (fun t => (getTx t (linkCanvas 0 1)).queue.map (·.pkt.op) == [opNAK]) = true := by decide +kernel

/-- A Veryen link with one wavelength and a packet that waits. -/
def sVl : State := putTx (st [(MGT_PART_MAP, 0, 0, 0x8888888888888888), (FAB_NODE_NODE, 0, 0, 0), (VLK_STAT_STATE, 0, 0, 5), (VLK_LMAP_TX, 0, 0, 1)])
  (linkPort 0) { TxLink.init with queue := [⟨pkt0, true, none, 0⟩], seq := 65535 }

theorem test_packet_start : linkLive sVl (linkPort 0) = true ∧ (nextStart sVl (linkPort 0) (linkCircs sVl (linkPort 0))).isSome = true ∧
    ends (.packetStart (.veryen 0)) sVl (fun t => (getTx t (linkPort 0)).seq == 0 && (getTx t (linkPort 0)).queue.isEmpty &&
      (getTx t (linkPort 0)).unacked.map (fun u => (u.q.pkt.seq, u.q.pkt.hop)) == [(65535, 1)] &&
      ends (.replayTimeout (.veryen 0)) { t with time := ⟨10, 0, 0, 10⟩ } (fun u => (getTx u (linkPort 0)).unacked.map (·.at_) == [1000])) = true := by
  decide +kernel

/-! ## Coherence, copies, multicast -/

/-- Stack 0, at site 1, in service, beside the compute site 0, whose cluster 0 has its cache on. -/
def sCoh : State := st [(MGT_PART_MAP, 0, 0, 0x8888888888888888), (FAB_NODE_NODE, 0, 0, 0), (MST_STAT_PHASE, 0, 0, 0), (MST_CAP_MIB, 0, 0, 64),
  (CLU_LC_STAT_STATE, 0, 0, 2), (CLU_LC_STAT_SIZE, 0, 0, 1)]

/-- A coherence message of cluster 0 for the first line of stack 0: to its home, or from it. -/
def aCoh (op : Nat) (atHome : Bool) (w : Nat) : Arrival :=
  let p := { pkt0 with op := op, dst := 2 ^ 46, ctr := if atHome then 0 else 1, srcSite := if atHome then 0 else 1, payload := bytesLE 8 w }
  ⟨if atHome then 1 else 0, .canvas (if atHome then 0 else 1) ⟨0, 0⟩ none, false, .clean,
    if opWRITE ≤ op then { p with data := true, len := 2, payload := List.replicate 128 7, complete := 2 } else p⟩

/-- The hypotheses of CohArrival. -/
def cohOk (s : State) (a : Arrival) (atHome : Bool) : Bool :=
  !a.fec && seqAccepted (getRx s (arrLink a)) a.pkt.seq && !pktMalformed a.pkt && !epochLate s a.pkt.epoch && decide (arrLink a < 256) &&
    !siteResetting s a.site && decide (cluAt (if atHome then a.pkt.srcSite else a.site) a.pkt.tag = some 0) &&
    decide (pktLine s a.pkt = some 0) && decide (lineHome 0 = 1)

theorem test_coherence_arrivals :
    ([(opGET_S, true), (opGET_M, true), (opLINE_PUT_M, true), (opPUT_E, true), (opINVAL, false), (opRECALL_S, false), (opRECALL_I, false),
      (opCOH_ACK, true), (opGRANT_M, false), (opLINE_GRANT, false), (opLINE_RETURN, true)] : List (Nat × Bool)).all
      (fun p => cohOk sCoh (aCoh p.1 p.2 0) p.2) = true ∧ (match placeOf sCoh 1 (lineOfs 0) with
        | .stack k x => (placeStatus sCoh 1 (.stack k x)).isNone
        | _ => false) = true := by decide +kernel

/-- A GET_S makes its sender the owner; the home has sent the line to it. -/
theorem test_get_s : ends (.getS (aCoh opGET_S true 0)) sCoh (fun t => (getDir t 0).state == 2 && (getDir t 0).owner == 0 &&
    (getTx t (linkCanvas 1 0)).queue.map (fun q => (q.pkt.op, q.pkt.complete)) == [(opLINE_GRANT, 2)]) = true := by decide +kernel

theorem test_get_m : ends (.getM (aCoh opGET_M true 0)) sCoh (fun t => (getDir t 0).state == 2 && (getDir t 0).owner == 0) = true := by decide +kernel

/-- The cache of cluster 0 waits for the line, or holds it. -/
def sFill : State := { sCoh with fills := [⟨0, 0, false, [], none, none, false, true, 99⟩] }
def sLine (m : Nat) : State := { sCoh with lines := [(0, ⟨m, List.replicate 128 3, false, 0, none⟩)] }

theorem test_line_grant : (findFill sFill 0 0).isSome = true ∧
    ends (.lineGrant (aCoh opLINE_GRANT false 0)) sFill (fun t => (findLine t 0 0).map (fun x => (x.state, x.data.take 1)) == some (2, [7]) && t.fills.isEmpty) = true ∧
    (findLine (sLine 1) 0 0).isSome = true ∧ ends (.inval (aCoh opINVAL false 0)) (sLine 1) (fun t => (findLine t 0 0).isNone &&
      (getTx t (linkCanvas 0 1)).queue.map (·.pkt.op) == [opCOH_ACK]) = true ∧
    ends (.recallI (aCoh opRECALL_I false 0)) (sLine 3) (fun t => (findLine t 0 0).isNone &&
      (getTx t (linkCanvas 0 1)).queue.map (·.pkt.op) == [opLINE_RETURN]) = true ∧
    ends (.recallS (aCoh opRECALL_S false 0)) (sLine 3) (fun t => (findLine t 0 0).map (·.state) == some 1) = true := by decide +kernel

/-- The home waits for cluster 0, which owns the line. -/
def sBusy : State := putDir sCoh 0 ⟨2, 0, 0, 4, some (⟨1, false, 0⟩, 1), []⟩

theorem test_line_return : (getDir sBusy 0).busy = some (⟨1, false, 0⟩, 1) ∧
    ends (.lineReturn { aCoh opLINE_RETURN true 0 with pkt := { (aCoh opLINE_RETURN true 0).pkt with ctr := 4 } }) sBusy (fun t =>
      (getDir t 0).busy.isNone && (dramLine t 0).take 1 == [7]) = true ∧
    ends (.cohAck { aCoh opCOH_ACK true 0 with pkt := { (aCoh opCOH_ACK true 0).pkt with ctr := 4 } }) sBusy (fun t => (getDir t 0).busy.isNone) = true ∧
    ends (.cohAck (aCoh opCOH_ACK true 1)) sBusy (fun t => (getDir t 0).busy.isSome) = true ∧
    ends (.putE (aCoh opPUT_E true 0)) (putDir sCoh 0 ⟨2, 0, 0, 4, none, []⟩) (fun t => (getDir t 0).state == 0) = true ∧
    ends (.linePutM (aCoh opLINE_PUT_M true 0)) (putDir sCoh 0 ⟨2, 0, 0, 4, none, []⟩) (fun t => (getDir t 0).state == 0 &&
      (dramLine t 0).take 1 == [7]) = true ∧
    ends (.grantM (aCoh opGRANT_M false 0)) { sLine 1 with fills := [⟨0, 0, true, [], none, none, true, true, 99⟩] } (fun t => (findLine t 0 0).map (·.state) == some 3) = true := by
  decide +kernel

theorem test_first_get : (getDir sCoh 0).state = 0 ∧ (getDir sCoh 0).busy = none ∧ (getDir sCoh 0).waiting = [] ∧ homeRefuses sCoh 0 = none ∧
    lineUe sCoh 0 = none := by decide +kernel

/-- A copy whose packets are all answered, and one that still waits. -/
def sCopy (n : Nat) : State := { sP with copies := [⟨9, 0, .table 3, ⟨0, 0, 1, 0, false, false, 0, 0, true, false⟩, 0, n, 0, 0, 0, []⟩] }

theorem test_copy_end : (findCopy (sCopy 0) 9).isSome = true ∧ ends (.copyComplete 9) (sCopy 0) (fun t => t.copies.isEmpty) = true ∧
    gives (.copyComplete 9) (sCopy 1) (sCopy 1) = true := by decide +kernel

/-- A multicast packet with two targets. -/
def sMc (a b : Option Nat) : State := { sCopy 1 with mcs := [⟨0, pkt0, 9, 0, [⟨1, a, false, 0, 0⟩, ⟨2, b, false, 0, 0⟩]⟩] }

theorem test_multicast : gives (.mcComplete 0) (sMc (some 0) none) (sMc (some 0) none) = true ∧
    ends (.mcComplete 0) (sMc (some 0) (some 1)) (fun t => t.mcs.isEmpty) = true ∧
    gives (.mcTargetRetry 0 0) (sMc (some 0) none) (sMc (some 0) none) = true := by decide +kernel

theorem test_small_tables : ends (.dedupExpire 0) (putDedups { sP with time := ⟨5, 0, 0, 5⟩ } 0 [⟨0, 0, 0, 0, 0, 5⟩, ⟨0, 0, 1, 0, 0, 6⟩]) (fun t => (dedupsAt t 0).length == 1) = true ∧
    may (st []) cFAB 0 FAB_MC_INVAL.off 7 ∧ ends (.mcInval .mgmt 7) { st [] with mcCache := [(7, [1]), (4096 + 7, [2]), (4096 + 8, [3])] } (fun t =>
      t.mcCache == [(4096 + 8, [3])]) = true ∧ may (st []) cPRT 0 PRT_CPY_DATA.off 7 ∧
    ends (.copyTableData .mgmt 0 7) (st []) (fun t => SMap.get t.copyLoad 0 0 == 1) = true ∧
    ends (.copyTableData .mgmt 0 7) { st [] with copyLoad := [(0, 7)] } (fun t => SMap.get t.copyLoad 0 0 == 0 && getF t PRT_CPY_IDX 0 0 == 1) = true := by
  decide +kernel

theorem test_shadow : (let s := { sP with shadowMsgs := [(2, 9, 77)], shadows := [(2, [⟨9, 1, 1, 0, 0, false⟩])] }
    (shadowOf s 2 9).isSome = true ∧ ends (.shadowUpdate 2) s (fun t => t.shadowMsgs.isEmpty && (shadowOf t 2 9).map (·.val) == some 77) = true) := by
  decide +kernel

/-! ## Routing, ports -/

theorem test_routes : may (st [(FAB_RT_IDX_VER, 0, 0, 1), (FAB_RT_IDX_NODE, 0, 0, 16383)]) cFAB 0 FAB_RT_DATA.off (2 ^ 18 - 1) ∧
    ends (.rtDataWrite .mgmt (2 ^ 18 - 1)) (st [(FAB_RT_IDX_VER, 0, 0, 1), (FAB_RT_IDX_NODE, 0, 0, 16383)]) (fun t => routeEntry t 1 16383 == 2 ^ 18 - 1) = true ∧
    verState (st []) 0 = vsActive ∧ ends (.rtDataWrite .mgmt 3) (st []) (fun t => routeEntry t 0 0 == 0 && hasBit (getF t (PG_EVT_FLAG cFAB) 0 0) 9) = true ∧
    may (st []) cFAB 0 FAB_CTRL_EPOCH_ARM.off 16 ∧ ends (.rtCopyActive .mgmt 16) (st []) (fun t => verState t 1 == vsCopying &&
      ends (.rtCopyActive .mgmt 16) t fun u => hasBit (getF u (PG_EVT_FLAG cFAB) 0 0) 9) = true := by decide +kernel

theorem test_route_copy : (let s := { st [(FAB_EPOCH_STAT_V1, 0, 0, 3)] with routes := [(5, 77), (16384 + 6, 3)] }
    verState s 1 = vsCopying ∧ SMap.wf (0 : Nat) s.routes = true ∧
    ends .rtCopyDone s (fun t => routeEntry t 1 5 == 77 && routeEntry t 1 6 == 0 && verState t 1 == vsFree) = true) := by decide +kernel

/-- An epoch armed for count 4, and no sooner. -/
theorem test_epoch : may (st [(FAB_EPOCH_AT, 0, 0, 4)]) cFAB 0 FAB_CTRL_EPOCH_ARM.off 1 ∧
    ends (.epochArm .mgmt 1) (st [(FAB_EPOCH_AT, 0, 0, 3)]) (fun t => t.rtArmed.isNone && hasBit (getF t (PG_EVT_FLAG cFAB) 0 0) 10) = true ∧
    ends (.epochArm .mgmt 1) (st [(FAB_EPOCH_AT, 0, 0, 4)]) (fun t => t.rtArmed == some 4 && gives .epochSwitch t t &&
      ends .epochSwitch { t with time := ⟨4, 0, 0, 4⟩ } (fun u => getF u FAB_EPOCH_STAT_CUR 0 0 == 1 && verState u 0 == vsDraining && atBoundary u &&
        ends .versionFree { setF u FAB_EPOCH_HOLD 0 0 2 with time := ⟨6, 0, 0, 6⟩ } fun w => verState w 0 == vsFree)) = true := by decide +kernel

theorem test_node : may (st []) cFAB 0 FAB_NODE_NODE.off 16383 ∧ ends (.nodeWrite .mgmt 16383) (st []) (fun t => getF t FAB_NODE_NODE 0 0 == 16383 &&
      getF t FAB_NODE_NODE_SET 0 0 == 1) = true ∧
    ends (.nodeWrite .mgmt 9) (st [(VLK_STAT_STATE, 15, 0, 3)]) (fun t => getF t FAB_NODE_NODE_SET 0 0 == 0) = true ∧
    may (st [(SYN_IDX, 127, 0, 511)]) cSYN 127 SYN_ADD.off 6 ∧ SMap.get (st []).hold 0 (pairKey .mgmt cSYN 127 SYN_ADD.off) = 0 ∧
    ends (.synAddWrite .mgmt 127 6) (st [(SYN_IDX, 127, 0, 511)]) (fun t => (getSync t 65535).val == 6) = true := by decide +kernel

theorem test_maps : ends .cmapGather (st []) (fun t => t.mapAt == 1 && t.mapRecs.length == 16) = true ∧ gives .cmapGather { st [] with mapAt := 1 } { st [] with mapAt := 1 } = true ∧
    gives .cmapGather { st [] with time := ⟨1, 0, 0, 1⟩ } { st [] with time := ⟨1, 0, 0, 1⟩ } = true ∧
    (let s := { st [(FAB_CTRL_CMAP_COPY_EN, 0, 0, 1), (FAB_CMAP_ADDR, 0, 0, 4096), (FAB_CMAP_SEQ, 0, 0, 1)] with mapAt := 1, mapRecs := [[1]] }
     ends .mapCopy s (fun u => u.mapCopied && getF u FAB_CMAP_SEQ 0 0 == 2 && u.mem == [(2 ^ 53 + 8192, 1)]) = true) ∧
    ends .fmDemandAction { st [(FAB_CTRL_THROTTLE_EN, 0, 0, 1)] with mapAt := 1, mapRecs := [[1]] } (fun u => u.mapActed) = true := by
  and_intros <;> decide +kernel

/-- The low bits of a number. -/
def fin (n v : Nat) : Fin (2 ^ n) := ⟨v % 2 ^ n, Nat.mod_lt _ (Nat.two_pow_pos n)⟩

/-- Bring-up step 4 is done, the module has its node number, and port 0 is in a state. -/
def sPort (state : Nat) (l : List (Field × Nat × Nat × Nat)) : State :=
  st ([(MGT_BOOT_STAT_DONE, 0, 0, 31), (FAB_NODE_NODE_SET, 0, 0, 1), (FAB_NODE_NODE, 0, 0, 5), (VLK_STAT_STATE, 0, 0, state)] ++ l)

theorem test_port_control : may (sPort 0 []) cVLK 0 VLK_CTRL_EN.off 1 ∧
    ends (.portEnable .mgmt 0 1) (sPort 0 []) (fun t => t.gov.queue.map (·.kind) == [.port 0] &&
      ends (.portEnable .mgmt 0 0) t (fun u => u.gov.queue.isEmpty)) = true ∧
    ends (.portEnable .mgmt 0 0) (sPort 7 []) (fun t => portState t 0 == vpFailed) = true ∧
    ends (.portEnable .mgmt 0 0) (sPort 5 []) (fun t => portState t 0 == vpOff && hasBit (getF t (PG_EVT_FLAG cVLK) 0 0) 1) = true ∧
    ends (.portEnable .mgmt 0 0) (sPort 4 []) (fun t => portState t 0 == vpOff) = true ∧ may (sPort 4 []) cVLK 0 VLK_CTRL_EN.off 5 ∧
    ends (.portAccept .mgmt 0 5) (sPort 4 []) (fun t => portState t 0 == vpActive && getF t VLK_ATTACH_CNT 0 0 == 1 && (getTx t (linkPort 0)).queue.map (·.pkt.op) == [opCREDIT]) = true := by decide +kernel

theorem test_port_control_more :
    ends (.portAccept .mgmt 0 5) (sPort 3 []) (fun t => portState t 0 == vpDiscover) = true ∧ may (sPort 5 []) cVLK 0 VLK_CTRL_EN.off 9 ∧
    ends (.portRetrain .mgmt 0 9) (sPort 5 []) (fun t => portState t 0 == vpDetect && (getPort t 0).notBefore == 0) = true ∧ may (sPort 5 []) cVLK 0 VLK_CTRL_EN.off 17 ∧
    (getTx (sPort 5 []) (linkPort 0)).queue = [] ∧
    ends (.portDown .mgmt 0 17) (sPort 5 []) (fun t => portState t 0 == vpDetect && (getPort t 0).notBefore == 1000) = true := by decide +kernel

theorem test_notice : may (sPort 5 [(FAB_RST_AT, 0, 0, 200)]) cFAB 0 FAB_RST_CTRL_NOTICE.off 1 ∧ may (sPort 5 []) cFAB 0 FAB_RST_CTRL_NOTICE.off 2 ∧
    ends (.resetNotice .mgmt 1) (sPort 5 [(FAB_RST_AT, 0, 0, 200)]) (fun t => t.rstAt == some 200 && (getTx t (linkPort 0)).queue.map (·.pkt.op) == [opNOTICE] &&
      beatsSince t 200 < 0 && gives .noticeRepeat t t && ends .noticeRepeat { t with time := ⟨100, 0, 0, 100⟩ } (fun u => (getTx u (linkPort 0)).queue.length == 2) &&
      ends (.resetCancel .mgmt 2) t (fun u => u.rstAt.isNone && (getTx u (linkPort 0)).queue.length == 2) &&
      ends .portsDrain { t with time := ⟨200, 0, 0, 200⟩ } (fun u => portState u 0 == vpDraining)) = true := by decide +kernel

theorem test_notice_more :
    ends (.resetCancel .mgmt 2) (sPort 5 []) (fun t => (getTx t (linkPort 0)).queue.isEmpty) = true ∧
    (sPort 5 []).rstAt = none ∧ gives .portsDrain (sPort 5 []) (sPort 5 []) = true := by decide +kernel

theorem test_ports_dark : (let s := { sPort 6 [(FAB_RST_CTRL_ARMED, 0, 0, 1)] with rstAt := some 5, time := ⟨25, 0, 0, 25⟩ }
    atBoundary s = true ∧ beatsSince s 5 = 2000 ∧ s.modRst = 0 ∧ ((List.range 16).all fun m => (getTx s (linkPort m)).queue.isEmpty) = true ∧
    ends .portsDark s (fun t => portState t 0 == vpOff && t.rstAt.isNone) = true ∧
    ends .portsDark { s with modRst := 2 } (fun t => t.rstAt.isNone) = true) := by
  intro s
  and_intros <;> decide +kernel

theorem test_port_detect : ends (.portDetect 0 127) (sPort 1 []) (fun t => (getPort t 0).notBefore == 1000 && portState t 0 == vpDetect) = true ∧
    popCount 18 255 = 8 ∧ ends (.portDetect 0 255) (sPort 1 []) (fun t => portState t 0 == vpTrain && t.out.length == 18) = true := by decide +kernel

theorem test_port_train : (let a := sPort 2 []
    let b := putPort a 0 { PortSt.init with locked := 255 }
    portWordOk (portWord 3 17) = true ∧ bitsOf (portWord 3 17) 24 20 = 17 ∧
    ends (.portTrainingWord 0 17 (fin 64 (portWord 3 17))) a (fun t => (getPort t 0).locked == 2 ^ 17 && (getPort t 0).trainPort == some 3) = true ∧
    ends (.portTrainingWord 0 16 (fin 64 (portWord 3 17))) a (fun t => (getPort t 0).locked == 0) = true ∧
    gives (.portTrainDone 0 255) a a = true ∧ gives (.portTrainDone 0 127) b b = true ∧
    ends (.portTrainDone 0 255) b (fun t => portState t 0 == vpDiscover && (getPort t 0).rxGood == 255) = true ∧
    gives (.portTrainTimeout 0) a a = true ∧
    ends (.portTrainTimeout 0) { a with time := ⟨400, 0, 0, 400⟩ } (fun t => portState t 0 == vpDetect) = true) := by decide +kernel

/-- The IDENT frame of port 2 of a module of node 9, with NODE_SET and 18 wavelengths. -/
def frame0 : Fin (2 ^ 256) := fin 256 11408087682631992982287052153894662339537914107454387749687099371502441078078

theorem test_ident : identOk frame0 = true ∧ bitsOf frame0 21 18 = 2 := by decide +kernel

theorem test_ident_states : (let a := sPort 3 [(VLK_CTRL_AUTO, 0, 0, 1)]
    let one := fun l => putPort (sPort 3 ((VLK_CTRL_AUTO, 0, 0, 1) :: l)) 0 { PortSt.init with idents := 1 }
    bitsOf frame0 17 16 = 0 ∧ hasBit frame0 36 = true ∧ bitsOf frame0 35 22 = 9 ∧
    ends (.identFrame 0 frame0) a (fun t => (getPort t 0).idents == 1 && portState t 0 == vpDiscover && getF t VLK_PEER_NODE 0 0 == 9) = true ∧
    ends (.identFrame 0 frame0) (one []) (fun t => portState t 0 == vpActive && getF t VLK_STAT_TX_LAMBDAS 0 0 == 16) = true ∧
    ends (.identFrame 0 frame0) (one [(FAB_NODE_NODE, 0, 0, 9)]) (fun t => portState t 0 == vpHeld && hasBit (getF t (PG_EVT_FLAG cVLK) 0 0) 2) = true ∧
    identOk 0 = false ∧ ends (.identFrame 0 0) (one []) (fun t => (getPort t 0).idents == 0) = true ∧
    ends (.identFrame 0 frame0) (sPort 5 [(VLK_PEER_SERIAL, 0, 0, 4)]) (fun t => portState t 0 == vpDiscover) = true ∧
    ends (.identSend 0) a (fun t => t.out.length == 1 && (getPort t 0).identAt == 0) = true ∧
    gives (.identSend 0) (putPort a 0 { PortSt.init with identAt := 5 }) (putPort a 0 { PortSt.init with identAt := 5 }) = true) := by
  intro a one
  and_intros <;> decide +kernel

def sPort5 : State := putPort (sPort 5 []) 0 { PortSt.init with rxGood := 262143, peerMap := 3 }

theorem test_port_failures :
    ends (.linkFailure 0 true) sPort5 (fun t => portState t 0 == vpDetect) = true ∧
    ends (.linkFailure 0 false) (sPort 5 [(VLK_CFG_MIN_LAMBDA, 0, 0, 1)]) (fun t => portState t 0 == vpDetect) = true ∧
    ends (.linkFailure 0 true) (sPort 4 []) (fun t => portState t 0 == vpDetect) = true ∧
    ends (.wavelengthFailure 0 17) sPort5 (fun t => (getPort t 0).rxGood == 2 ^ 17 - 1 && hasBit (getF t VLK_LFAIL 0 0) 17 && portState t 0 == vpActive) = true ∧
    gives (.wavelengthFailure 0 0) (sPort 5 []) (sPort 5 []) = true ∧
    ends (.portLaserFailure 0) sPort5 (fun t => portState t 0 == vpFailed) = true ∧ ends (.portLaserFailure 0) (sPort 3 []) (fun t => portState t 0 == vpFailed) = true := by
  and_intros <;> decide +kernel

/-! ## Resets, partitions, capacity -/

/-- Every site belongs to partition 0, and bring-up is done. -/
def sUp : State := st [(MGT_BOOT_STAT_DONE, 0, 0, 31), (MGT_PART_MAP, 0, 0, 0x8888888888888888)]

/-- No site is assigned. -/
def sNo : State := st [(MGT_PART_MAP, 0, 0, 0)]

theorem test_cluster_reset : may sNo cMGT 0 MGT_RST_CTRL_GO.off (8 * 2 ^ 28 + 31) ∧ partOf sNo (cluSite 31) = none ∧
    ends (.clusterReset .mgmt (BitVec.ofNat 32 (8 * 2 ^ 28 + 31))) sNo (fun t => getF t MGT_RST_STAT_LAST 0 0 == 2 &&
      hasBit (getF t (PG_EVT_FLAG cMGT) 0 0) 20) = true ∧
    partOf sUp (cluSite 31) = some 0 ∧ siteResetting sUp (cluSite 31) = false ∧
    ends (.clusterReset .mgmt (BitVec.ofNat 32 (8 * 2 ^ 28 + 31))) { sUp with cluResets := [(31, 0)] } (fun t => getF t MGT_RST_STAT_LAST 0 0 == 3) = true := by
  decide +kernel

/-- Cluster 31 with no core powered: its reset is over at once. -/
theorem test_cluster_reset_begins : ends (.clusterReset .mgmt (BitVec.ofNat 32 (8 * 2 ^ 28 + 31))) sUp (fun t => t.cluResets.isEmpty) = true := by
  decide +kernel

theorem test_partition_reset : (let v := fun n => BitVec.ofNat 32 (9 * 2 ^ 28 + n)
    may (st []) cMGT 0 MGT_RST_CTRL_GO.off (9 * 2 ^ 28 + 8) ∧
    ends (.partitionReset .mgmt (v 8)) sUp (fun t => getF t MGT_RST_STAT_LAST 0 0 == 2) = true ∧ widerReset (st []) = true ∧
    ends (.partitionReset .mgmt (v 7)) (st []) (fun t => getF t MGT_RST_STAT_LAST 0 0 == 3) = true ∧ widerReset sUp = false ∧ sitesOf sUp 7 = [] ∧
    ends (.partitionReset .mgmt (v 7)) sUp (fun t => getF t MGT_RST_STAT_LAST 0 0 == 1) = true ∧
    ends (.partitionReset .mgmt (v (7 + 2 ^ 27))) sUp (fun t => (SMap.find t.resets 7).isSome) = true ∧ sitesOf sUp 0 ≠ [] ∧
    ends (.partitionReset .mgmt (v 0)) { sUp with time := ⟨0, 1, 0, 0⟩ } (fun t => SMap.find t.resets 0 == some ⟨none, false, false, false, false⟩) = true) := by
  decide +kernel

theorem test_module_reset : (let v := BitVec.ofNat 32 (10 * 2 ^ 28)
    may (st []) cMGT 0 MGT_RST_CTRL_GO.off (10 * 2 ^ 28) ∧ inputReady sUp = true ∧
    inputReady { sUp with therm := { ThermSt.init with estop := some 0 } } = false ∧
    ends (.moduleReset .mgmt v) { sUp with therm := { ThermSt.init with estop := some 0 } } (fun t => getF t MGT_RST_STAT_LAST 0 0 == 2) = true ∧
    ends (.moduleReset .mgmt v) { sUp with modRst := 2 } (fun t => getF t MGT_RST_STAT_LAST 0 0 == 3) = true ∧
    ends (.moduleReset .mgmt v) sUp (fun t => t.modRst == 1) = true) := by decide +kernel

/-- Partition 3, which owns nothing, held in reset, or before its steps are over. -/
def sHeldIn (r : ResetRec) : State := { sUp with resets := [(3, r)], time := ⟨5, 0, 0, 5⟩ }

theorem test_release : (let a := sHeldIn ⟨none, true, false, true, false⟩
    may a cMGT 0 MGT_RST_CTRL_GO.off (2 ^ 30 + 3) ∧ (SMap.find a.resets 3).map (·.done) = some true ∧ a.therm.estop = none ∧ atBoundary a = true ∧
    ends (.partitionRelease .mgmt (BitVec.ofNat 32 (2 ^ 30 + 3))) a (fun t => (SMap.find t.resets 3).map (·.release) == some true &&
      ends (.partitionResetDone 3) t fun u => (SMap.find u.resets 3).isNone) = true ∧
    gives (.partitionResetDone 3) a a = true ∧ gives (.partitionResetDone 4) a a = true ∧
    ends (.partitionRelease .mgmt (BitVec.ofNat 32 (2 ^ 30 + 4))) a (fun t => t.resets == a.resets) = true) := by
  intro a
  and_intros <;> decide +kernel

theorem test_reset_ends : (let a := fun hold : Bool => sHeldIn ⟨some 4, hold, false, false, false⟩
    stacksBusy (a true) (resetSites (a true) 3) = false ∧
    ends (.partitionResetDone 3) (a true) (fun t => (SMap.find t.resets 3).map (·.done) == some true) = true ∧
    ends (.partitionResetDone 3) (a false) (fun t => (SMap.find t.resets 3).isNone && getF t MGT_RST_STAT_LAST 0 0 == 1) = true) := by
  intro a
  and_intros <;> decide +kernel

theorem test_rail : siteFailed sUp 15 = false ∧ siteFailed { sUp with railDown := 2 ^ 15 } 15 = true ∧
    gives (.siteRailFailure 15) { sUp with railDown := 2 ^ 15 } { sUp with railDown := 2 ^ 15 } = true := by decide +kernel

theorem test_retire : may sUp cMGT 0 MGT_RETIRE_GO.off (2 ^ 31 + 5) ∧
    ends (.retire .mgmt (BitVec.ofNat 32 (2 ^ 31 + 5))) (st [(CLU_ROW_MAP_SPARE_FOR, 0, 0, 15), (CLU_ROW_MAP_SPARE_OK, 0, 0, 1), (COR_STAT_STATE, 5, 0, csHalted)])
      (fun t => coreState t 5 == csFailed) = true := by and_intros <;> decide +kernel

theorem test_partition_map : (let a := { sHeldIn ⟨none, true, false, false, true⟩ with resets := [(3, ⟨none, true, false, true, false⟩), (4, ⟨none, true, false, true, false⟩)] }
    let m := setF a MGT_PART_MAP 0 0 (0x888888888888888B)
    may m cMGT 0 MGT_PART_MAP.off 0x8888888C ∧ mapOk m 0x888888888888888B 0x888888888888888C = true ∧ mapOk m 0x888888888888888B 0x888888888888889B = false ∧
    ends (.partMapWrite .mgmt 0x8888888C) m (fun t => t.mapNext == some 0x888888888888888C && atBoundary t &&
      ends .partMapApply t fun u => getF u MGT_PART_MAP 0 0 == 0x888888888888888C && u.mapNext.isNone) = true ∧
    ends (.partMapWrite .mgmt 0x8888889B) m (fun t => t.mapNext.isNone && hasBit (getF t (PG_EVT_FLAG cMGT) 0 0) 23) = true) := by
  intro a m
  and_intros <;> decide +kernel

theorem test_capacity : atBoundary (st [(MST_CAP_MIB, 7, 0, 9)]) = true ∧ getF (st [(MST_CAP_MIB, 7, 0, 9), (MGT_BOOT_STAT_DONE, 0, 0, 4)]) DEV_CAP_MEM 0 0 ≠ 9 ∧
    ends .capacityPublish (st [(MST_CAP_MIB, 7, 0, 9), (MGT_BOOT_STAT_DONE, 0, 0, 4)]) (fun t => getF t DEV_CAP_MEM 0 0 == 9 && getF t DEV_CAP_GEN 0 0 == 1) = true ∧
    gives .capacityPublish { sUp with time := ⟨5, 1, 0, 5⟩ } { sUp with time := ⟨5, 1, 0, 5⟩ } = true := by decide +kernel

/-! ## The Canvas -/

/-- Lane 0, wavelength 5, from site 0 to site 1. -/
def d05 : Nat := 5 * 2 ^ 6 + 2 ^ 16

theorem test_firmware_grant : (let s := st [(PRT_GRANT_DESC, 0, 0, d05)]
    may s cPRT 0 PRT_GRANT_CTRL_GRANT.off 1 ∧ may s cPRT 0 PRT_GRANT_CTRL_GRANT.off 2 ∧
    ends (.firmwareGrant .mgmt 0 1) s (fun t => occState t 0 5 == ocPending && getF t PRT_GRANT_STAT_BUSY 0 0 == 1 &&
      (getCirc t (circKey 0 5)).cur.map (fun c => (c.e, c.txRing)) == some (3, 0) &&
      (getTx t (linkCanvas 0 1)).queue.map (·.pkt.op) == [opGRANT_MSG] &&
      ends (.firmwareGrant .mgmt 0 1) t (fun u => (getTx u (linkCanvas 0 1)).queue.length == 1)) = true ∧
    ends (.firmwareRelease .mgmt 0 2) s (fun t => getF t PRT_GRANT_STAT_BUSY 0 0 == 0 && getF t PRT_GRANT_STAT_RESULT 0 0 == 10) = true) := by
  intro s
  and_intros <;> decide +kernel

theorem test_grant_refused : floorPlace 0 58 = true ∧ bitsOf (d05 + 2 ^ 29) 15 12 = 0 ∧
    getF (issueGrant (st []) 2 0 0 (d05 + 2 ^ 29)) PRT_GRANT_STAT_RESULT 0 0 = 7 ∧ getF (issueGrant (st []) 2 0 0 (58 * 2 ^ 6 + 2 ^ 16)) PRT_GRANT_STAT_RESULT 0 0 = 7 ∧
    getF (issueGrant (st []) 2 9 0 d05) PRT_GRANT_STAT_RESULT 9 0 = 5 ∧ endShut { st [] with railDown := 2 } 1 = true ∧
    getF (issueGrant { st [] with railDown := 2 } 2 0 0 d05) PRT_GRANT_STAT_RESULT 0 0 = 9 := by and_intros <;> decide +kernel

/-- A claim of site 0 for that circuit, with the transmit ring, and the entry that holds it. -/
def cl0 : Claim := ⟨2, 0, 0, false, 0, 1, 3, 0, 4, some 10, none, none, none, 0, false, 0, false⟩
def cl1 : Claim := { cl0 with rxRing := 1, rxLock := some 20, txSeen := some 30, rxSeen := some 81 }
def sCl (c : Claim) (occ : Nat) (x : Circ) : State :=
  { st [(LAN_OCC_STATE, 0, 5, occ), (LAN_OCC_SRC, 0, 5, 0), (LAN_OCC_DST, 0, 5, 1), (LAN_STAT_LIT, 0, 0, 1)] with circs := [(circKey 0 5, { x with cur := some c })] }

/-- A message about it for site 1, or for its issuer. -/
def aGr (op ctr : Nat) (site : Fin 16) (w : Nat) : Arrival :=
  ⟨site, .canvas (if site.val = 0 then 1 else 0) ⟨0, 0⟩ none, false, .clean, { pkt0 with op := op, dst := site * 2 ^ 46, ctr := ctr, srcSite := 1 - site.val, payload := bytesLE 8 w }⟩

theorem test_grant_messages : [opGRANT_MSG, opGRANT_REFUSE, opGRANT_READY, opRELEASE_MSG].all (fun op => let a := aGr op (5 * 64) 1 d05
      let s := sCl cl0 ocPending Circ.init
      !a.fec && seqAccepted (getRx s (arrLink a)) a.pkt.seq && !pktMalformed a.pkt && !epochLate s a.pkt.epoch && a.wf) = true ∧
    ends (.grantMsg (aGr opGRANT_MSG 0 1 d05)) (sCl cl0 ocPending Circ.init) (fun t => (getCirc t (circKey 0 5)).cur.map (·.rxRing) == some 0 &&
      getF t PRT_RING_RX_STATE 1 0 == rgClaimed) = true ∧
    ends (.grantMsg (aGr opGRANT_MSG 0 1 (d05 + 1))) (sCl cl0 ocPending Circ.init) (fun t => t.circs == (sCl cl0 ocPending Circ.init).circs) = true ∧
    ends (.grantMsg (aGr opGRANT_MSG 0 1 d05)) ([0, 1, 2, 3].foldl (fun s r => setF s PRT_RING_RX_STATE 1 r rgFailed) (sCl cl0 ocPending Circ.init))
      (fun t => (getTx t (linkCanvas 1 0)).queue.map (fun q => (q.pkt.op, q.pkt.ctr)) == [(opGRANT_REFUSE, 4)]) = true ∧
    ends (.grantRefuse (aGr opGRANT_REFUSE 4 0 d05)) (sCl { cl0 with txRing := 4 } ocPending Circ.init) (fun t => occState t 0 5 == ocFree && getF t PRT_GRANT_STAT_RESULT 0 0 == 4) = true := by
  and_intros <;> decide +kernel

theorem test_ready_release : ends (.grantReady (aGr opGRANT_READY (5 * 64) 0 0)) (sCl cl0 ocPending Circ.init) (fun t =>
      (getCirc t (circKey 0 5)).cur.map (fun c => c.rxSeen.isSome) == some true) = true ∧
    ends (.releaseMsg (aGr opRELEASE_MSG 0 1 (d05 + 2 ^ 20))) (sCl cl1 ocDemand Circ.init) (fun t => (getCirc t (circKey 0 5)).relAt == some 1) = true := by
  and_intros <;> decide +kernel

theorem test_effect : (let s := { sCl cl1 ocPending Circ.init with time := ⟨3, 0, 0, 3⟩ }
    cl1.effectAt = some 3 ∧ atBoundary s = true ∧ endShut s 0 = false ∧ endShut s 1 = false ∧
    ends (.circuitEffect 0 5) s (fun t => occState t 0 5 == ocDemand && getF t PRT_RING_TX_STATE 0 0 == rgActive && getF t LAN_OCC_EFFECT 0 5 == 3) = true ∧
    gives (.circuitEffect 0 5) { s with time := ⟨2, 0, 0, 2⟩ } { s with time := ⟨2, 0, 0, 2⟩ } = true ∧
    ends (.circuitEffect 0 5) { sCl cl1 ocDemand { Circ.init with held := true, backAt := some 3 } with time := ⟨3, 0, 0, 3⟩ } (fun t =>
      !(getCirc t (circKey 0 5)).held) = true) := by
  intro s
  and_intros <;> decide +kernel

theorem test_release_effect : (let s := fun n b => { sCl { cl1 with txRing := 4, rxRing := 4 } ocDemand { Circ.init with relAt := some 4, relBy := 3 } with time := ⟨n, b, 0, n⟩ }
    gives (.releaseCutoff 0 5) (s 3 88) (s 3 88) = true ∧ ends (.releaseCutoff 0 5) (s 3 89) (fun t => (getCirc t (circKey 0 5)).cut) = true ∧
    gives (.releaseEffect 0 5) (s 3 89) (s 3 89) = true ∧ atBoundary (s 4 0) = true ∧
    ends (.releaseEffect 0 5) (s 4 0) (fun t => occState t 0 5 == ocFree && (getCirc t (circKey 0 5)).cur.isNone) = true ∧
    gives (.releaseEffect 0 6) (s 4 0) (s 4 0) = true) := by
  intro s
  and_intros <;> decide +kernel

theorem test_ring_lock : (let c := { cl0 with txLock := none }
    let s := fun n => { setF (sCl c ocPending Circ.init) PRT_RING_TX_STATE 0 0 rgClaimed with time := ⟨n, 0, 0, n⟩ }
    tuningClaim (s 0) 0 5 0 = some c ∧ getF (s 0) (ringSt 0) (c.ring 0).1 (c.ring 0).2 = rgClaimed ∧
    gives (.tuneResweep 0 5 false) (s 4) (s 4) = true ∧ getF (s 5) LAN_STAT_LIT 0 0 ≠ 0 ∧
    ends (.tuneFail 0 5 false) { setF (sCl { c with resweep := true } ocPending Circ.init) PRT_RING_TX_STATE 0 0 rgSweep with time := ⟨13, 0, 0, 13⟩ }
      (fun u => occState u 0 5 == ocFree && getF u PRT_GRANT_STAT_RESULT 0 0 == 8) = true ∧
    gives (.ringLock 0 6 false 999) (s 0) (s 0) = true) := by
  intro c s
  and_intros <;> decide +kernel

/-- The word that site 0 sends on lane 0, wavelength 5, in effect at 3, and what its receiver makes of it. -/
def w05 : Nat := 7205759614267212634
def sTr : State := setF (setF (sCl cl1 ocDemand Circ.init) LAN_OCC_EFFECT 0 5 3) PRT_RING_RX_STATE 1 1 rgActive

theorem test_training : (trainCirc sTr 0 5).out.head?.map (fun o => match o with
      | .training a b w => a == 0 && b == 5 && w == w05
      | _ => false) = some true ∧ wordOk w05 = true := by and_intros <;> decide +kernel

theorem test_training_words : getF sTr LAN_OCC_DST 0 5 = 1 ∧ wordMatches sTr 0 5 w05 = true ∧ occServes (occState sTr 0 5) = true ∧
    ends (.trainingWord 0 5 (fin 64 w05)) sTr (fun t => (getCirc t (circKey 0 5)).words == 1) = true ∧ wordOk 0 = false ∧
    ends (.trainingWord 0 5 0) (putCirc sTr (circKey 0 5) { Circ.init with cur := some cl1, words := 3 }) (fun t => (getCirc t (circKey 0 5)).words == 0) = true ∧
    wordMatches (setF sTr LAN_OCC_SRC 0 5 2) 0 5 w05 = false := by
  and_intros <;> decide +kernel

/-- The circuit in service, with its receiving ring coupled and a window of `w`. -/
def sMis (w : Nat) : State := setF (setF (sCl cl1 ocDemand Circ.init) PRT_RING_RX_STATE 1 1 rgActive) PRT_WINDOW 1 0 w

theorem test_mislock : (let s := sMis 0
    let swept := setF (sCl cl1 ocDemand { Circ.init with held := true }) PRT_RING_RX_STATE 1 1 rgSweep
    (cl1.ring 1).2 < 4 ∧ ringCoupled s 1 1 1 = true ∧ s.calSlots = [] ∧ ringGet s 1 1 1 0 = 0 ∧ occServes (occState s 0 5) = true ∧
    ringCoupled swept 1 1 1 = false ∧ gives (.mislock 0 5 true 9 false 0) swept swept = true ∧
    sweeping swept 0 5 1 = some (cl1, 1, 1) ∧ occState swept 0 5 ≠ ocPending ∧
    gives (.sweepTimeout 0 5 true) (ringPut swept 1 1 1 1 5) (ringPut swept 1 1 1 1 5) = true ∧
    sweeping s 0 5 1 = none ∧ gives (.sweepLock 0 5 true 9) s s = true) := by
  intro s swept
  and_intros <;> decide +kernel

/-- With a window of 0, of any two heater codes at least one is outside it, whatever code the ring's sets give. -/
theorem test_mislock_window : ∃ code : Fin 65536, let u := setHeater (sMis 0) 1 1 1 code
    getF u PRT_WINDOW 1 0 < gap (heaterOf u 1 1 1) (expectCode u 1 1 1 5) := by
  have h : ∀ code < 2, getF (setHeater (sMis 0) 1 1 1 code) PRT_WINDOW 1 0 = 0 ∧ heaterOf (setHeater (sMis 0) 1 1 1 code) 1 1 1 = code := by
    decide +kernel
  rcases Nat.eq_zero_or_pos (expectCode (sMis 0) 1 1 1 5) with e | e
  · exact ⟨1, by simp only [Fin.val_one, expectCode_setHeater, (h 1 (by decide)).1, (h 1 (by decide)).2, e]; decide⟩
  · exact ⟨0, by simp only [Fin.val_zero, expectCode_setHeater, (h 0 (by decide)).1, (h 0 (by decide)).2, gap]; omega⟩

/-- With the widest window, no code is outside it. -/
theorem test_mislock_inside (s : State) (dir site n l a : Nat) (h : a < 65536) : ¬ 65535 < gap a (expectCode s dir site n l) := by
  have : expectCode s dir site n l < 65536 := Nat.mod_lt _ (by decide)
  simp only [gap]; omega

theorem test_mislock_identity : wordOk w05 = true ∧ wordMatches (setF (sMis 65535) LAN_OCC_SRC 0 5 2) 0 5 w05 = false ∧
    heaterOf (setHeater (sMis 65535) 1 1 1 9) 1 1 1 = 9 ∧ getF (setHeater (sMis 65535) 1 1 1 9) PRT_WINDOW 1 0 = 65535 := by
  and_intros <;> decide +kernel

/-- Source 0 feeds group 1 and source 4 stands by. -/
def sLit : State := st [(LSR_STAT_STATE, 0, 0, 3), (LSR_STAT_FEED, 0, 0, 1), (LSR_STAT_STATE, 4, 0, 2), (LAN_STAT_SOURCE, 31, 0, 0), (LAN_STAT_LIT, 31, 0, 1)]

theorem test_light : groupSource sLit 1 = some 0 ∧ standby sLit = some 4 ∧ groupSource sLit 2 = none ∧ gives (.lightLoss 2) sLit sLit = true ∧
    ends (.lightLoss 1) sLit (fun t => getF t LSR_STAT_STATE 0 0 == 4 && getF t LSR_STAT_FEED 4 0 == 1 && getF t LAN_STAT_LIT 31 0 == 0 &&
      getF t LAN_STAT_SOURCE 31 0 == 4) = true ∧ atBoundary sLit = true ∧
    ends (.groupResume 1) (setF sLit LAN_STAT_LIT 31 0 0) (fun u => getF u LAN_STAT_LIT 31 0 == 1) = true := by
  and_intros <;> decide +kernel

theorem test_planned_switch : may sLit cLSR 4 LSR_CTRL_EN.off (1 + 2 ^ 4 + 2 ^ 7) ∧
    ends (.plannedSwitchArm .mgmt 4 (1 + 2 ^ 4 + 2 ^ 7)) sLit (fun t => hasBit t.lsrArmed 4 && atBoundary t && gives (.plannedSwitch 3) t t &&
      ends (.plannedSwitch 4) t fun u => getF u LSR_STAT_STATE 4 0 == 3 && getF u LSR_STAT_FEED 4 0 == 1 && getF u LSR_STAT_FEED 0 0 == 7 &&
        getF u LAN_STAT_SOURCE 31 0 == 4) = true ∧
    ends (.sourceWarmupDone 5) (st [(LSR_STAT_STATE, 5, 0, 1)]) (fun t => getF t LSR_STAT_STATE 5 0 == 2 && hasBit (getF t (PG_EVT_FLAG cLSR) 5 0) 4) = true := by
  and_intros <;> decide +kernel

theorem test_waveguide : (let s := st ((List.range 64).map fun l => (LAN_OCC_STATE, 63, l, ocOut))
    laneDead s 63 = true ∧ gives (.waveguideFailure 63) s s = true) ∧
    getF (st [(PRT_RING_RX_STATE, 3, 255, rgActive)]) (ringSt 1) 3 255 = rgActive := by and_intros <;> decide +kernel

theorem test_wires : freeSpare (st []) = some 1792 ∧ wireState (st []) 1791 = 0 ∧
    ends (.wireFailure 1791 9 9 true) (st []) (fun t => wireState t 1791 == 1 && wirePeer t 1791 == some 1792 && wireState t 1792 == 3) = true ∧
    SMap.get (st []).seamErrs 0 1024 + 9 < getF (st [(SEA_THR, 0, 0, 10)]) SEA_THR 0 0 ∧
    ends (.wireFailure 1024 9 9 false) (st [(SEA_THR, 0, 0, 10)]) (fun t => SMap.get t.seamErrs 0 1024 == 9) = true := by and_intros <;> decide +kernel

/-! ## The Tempo -/

/-- The Tempo unit in a role and a state, at a count. -/
def sTmp (role state n : Nat) : State := { st [(TMP_STAT_STATE, 0, 0, state), (TMP_CTRL_ROLE, 0, 0, role), (TMP_CTRL_FRAMED, 0, 0, 1)] with
  tempo := { TempoSt.init with role := role }, time := ⟨n, 0, 0, n⟩ }

theorem test_role : may (sTmp 0 2 0) cTMP 0 TMP_CTRL_ROLE.off (3 + 2 ^ 6) ∧
    ends (.roleWrite .mgmt (3 + 2 ^ 6)) (sTmp 0 2 0) (fun t => getF t TMP_CTRL_ROLE 0 0 == 3 && atBoundary t &&
      ends .roleApply t (fun u => u.tempo.role == roleLocal && tmpState u == tmAcquiring)) = true ∧
    ends (.roleWrite .mgmt (3 + 2 ^ 6)) (setF (sTmp 0 2 0) MOV_STAT_STATE 15 0 mvRunning) (fun t => getF t TMP_CTRL_ROLE 0 0 == 0 &&
      hasBit (getF t (PG_EVT_FLAG cTMP) 0 0) 10) = true ∧
    gives (.roleWrite .mgmt (2 ^ 6)) (sTmp 0 2 0) (sTmp 0 2 0) = true ∧ gives .roleApply (sTmp 0 2 0) (sTmp 0 2 0) = true ∧
    ends .roleApply (setF (setF (sTmp 0 2 0) TMP_CTRL_ROLE 0 0 3) MOV_STAT_STATE 15 0 mvRunning) (fun u => u.tempo.role == 3 && tmpState u == tmAcquiring) = true := by
  and_intros <;> decide +kernel

theorem test_epoch_set : may (setF (sTmp 3 5 0) TMP_EPOCH_SET 0 0 256) cTMP 0 TMP_CTRL_ROLE.off (3 + 2 ^ 6 + 2 ^ 7) ∧
    ends (.applyEpoch .mgmt (3 + 2 ^ 6 + 2 ^ 7)) (setF (sTmp 3 5 0) TMP_EPOCH_SET 0 0 256) (fun t => t.tempo.epochNext == some (256, 3) && atBoundary t &&
      ends .epochApply t (fun u => u.time.count == 256 && u.tempo.epochNext.isNone)) = true ∧
    ends (.applyEpoch .mgmt (3 + 2 ^ 6 + 2 ^ 7)) (setF (sTmp 3 5 0) TMP_EPOCH_SET 0 0 255) (fun t => t.tempo.epochNext.isNone && hasBit (getF t (PG_EVT_FLAG cTMP) 0 0) 8) = true ∧
    gives .epochApply (sTmp 3 5 0) (sTmp 3 5 0) = true := by and_intros <;> decide +kernel

/-- The frame of count 128, and the same with NEW_EPOCH. -/
def fr0 : Nat := 260944070922526297299428623521293587124
def fr1 : Nat := 227027987842579221081506650757177332404

theorem test_frame_valid : frameValid fr0 = true ∧ frameValid fr1 = true ∧ frameValid (fr0 + 2 ^ 90) = false ∧ bitsOf fr0 79 16 = 128 := by
  and_intros <;> decide +kernel

/-- LOCKED, with 128 bits received. -/
def sF (f : Nat) (flock : Bool) (last : Option Nat) : State :=
  { sTmp 0 2 300 with tempo := { TempoSt.init with rxBits := f, rxSince := 128, flock := flock, lastFrame := last } }

theorem test_frames : framedRole (sF fr0 true none) = true ∧ gives .frameReceived (sTmp 0 2 0) (sTmp 0 2 0) = true ∧
    ends .frameReceived (sF (fr0 + 2 ^ 90) true none) (fun t => t.tempo.badFrames == 1 && t.tempo.flock) = true ∧
    ends .frameReceived (sF fr0 false (some 5)) (fun t => !t.tempo.flock && t.tempo.lastFrame == some 128) = true ∧
    ends .frameReceived (sF fr0 false (some 0)) (fun t => t.tempo.flock && t.tempo.rxCount == some 255) = true ∧
    ends .frameReceived { sF fr0 true none with time := ⟨255, 3, 0, 9⟩ } (fun t => t.time == ⟨255, 3, 0, 9⟩ && t.tempo.rxCount == some 255) = true ∧
    ends .frameReceived (sF fr0 true none) (fun t => t.time.count == 300 && t.tempo.differs) = true ∧
    ends .frameReceived (sF fr1 true none) (fun t => t.time.count == 255 && hasBit (getF t (PG_EVT_FLAG cTMP) 0 0) 4) = true := by
  and_intros <;> decide +kernel

theorem test_suspend : gives .suspendFollow (sTmp 0 2 0) (sTmp 0 2 0) = true ∧
    ends .suspendFollow { setF (sTmp 0 2 0) MOV_STAT_STATE 15 0 mvRunning with tempo := { TempoSt.init with suspendDue := true } } (fun t =>
      seqState t 15 == mvSuspended && !t.tempo.suspendDue) = true := by and_intros <;> decide +kernel

theorem test_lock : ends .referenceLock { sTmp 0 1 9 with tempo := { TempoSt.init with flock := true, rxCount := some 9 } } (fun t => tmpState t == tmLocked) = true ∧
    ends .referenceLock (sTmp 3 1 9) (fun t => tmpState t == tmLocal) = true ∧ gives .referenceLock (sTmp 0 2 9) (sTmp 0 2 9) = true ∧
    ends (.tempoLost false) (setF (sTmp 0 2 9) TMP_HOLD_ELAPSED 0 0 4) (fun t => tmpState t == tmHoldover && getF t TMP_HOLD_ELAPSED 0 0 == 0) = true ∧
    gives (.tempoLost true) (sTmp 0 2 9) (sTmp 0 2 9) = true ∧
    ends .holdoverLimit (setF (setF (setF (sTmp 0 3 9) TMP_HOLD_LIMIT 0 0 5) TMP_HOLD_ELAPSED 0 0 5) MOV_STAT_STATE 0 0 mvRunning) (fun t => tmpState t == tmSuspended &&
      seqState t 0 == mvSuspended) = true ∧
    gives .holdoverLimit (setF (sTmp 0 3 9) TMP_HOLD_LIMIT 0 0 5) (setF (sTmp 0 3 9) TMP_HOLD_LIMIT 0 0 5) = true := by and_intros <;> decide +kernel

theorem test_return : (let s := { sTmp 0 3 9 with tempo := { TempoSt.init with flock := true, rxCount := some 9 } }
    let m := { s with time := ⟨10, 5, 3, 70⟩ }
    framedRole s = true ∧ ends (.tempoReturn (-10000) 7) s (fun t => t.tempo.slewing && tmpState t == tmHoldover && t.time == s.time) = true ∧
    ends (.tempoReturn 10001 7) s (fun t => t.time == ⟨9, 7, 0, 9⟩ && tmpState t == tmLocked) = true ∧
    ends (.tempoReturn 0 7) m (fun t => t.time == ⟨9, 7, 0, 70⟩ && tmpState t == tmLocked) = true ∧
    ends (.holdoverExit 99) { s with tempo := { s.tempo with slewing := true } } (fun t => tmpState t == tmLocked) = true ∧
    gives (.holdoverExit 100) { s with tempo := { s.tempo with slewing := true } } { s with tempo := { s.tempo with slewing := true } } = true) := by
  intro s m
  and_intros <;> decide +kernel

theorem test_advance : (let t := tempoAdvance { sTmp 3 5 0 with time := ⟨2 ^ 64 - 1, 99, 15, 7⟩ } none
    let marked := { sTmp 0 2 0 with time := ⟨9, 98, 0, 9⟩ }
    t.time = ⟨0, 0, 0, 8⟩ ∧ tmpState t = tmLocal ∧ markedRole marked = true ∧ tmpState marked = tmLocked ∧ framedRole marked = true ∧
    marked.tempo.rxBits < 2 ^ 128 ∧ markSets (sTmp 0 2 0) = false ∧ markSets { sTmp 0 2 0 with time := ⟨9, 98, 0, 9⟩ } = true ∧
    gives (.tempoMark true) (sTmp 3 5 0) (sTmp 3 5 0) = true) := by
  intro t marked
  and_intros <;> decide +kernel

/-! ## Samplers and gambit contexts -/

/-- A set of one sampler, its slice of no token, its logits at its own site. -/
def sS (d : Nat) (l : List (Field × Nat × Nat × Nat)) : State :=
  st ([(FAB_NODE_NODE, 0, 0, 0), (MGT_BOOT_STAT_DONE, 0, 0, 31), (SMP_CTRL_SET, d, 0, 2 ^ d), (SMP_LOGIT, d, 0, dieSite d * 2 ^ 46), (SMP_RES, d, 0, dieSite d * 2 ^ 46)] ++ l)

/-- What is written with the set of sampler 7. -/
def set7 : Nat := 2 ^ 19

theorem test_smp_arm : may (sS 7 []) cSMP 7 SMP_CTRL_ARM.off (1 + set7) ∧ pgState (sS 7 []) cSMP 7 = pgReady ∧
    ends (.samplerArm .mgmt 7 (BitVec.ofNat 32 (1 + set7))) (sS 7 []) (fun t => getF t SMP_STAT_STATE 7 0 == 1 && smpMembers t 7 == [7] &&
      ends (.samplerDisarm .mgmt 7 (BitVec.ofNat 32 (2 + set7))) t (fun u => getF u SMP_STAT_STATE 7 0 == 0)) = true ∧
    ends (.samplerArm .mgmt 7 (BitVec.ofNat 32 (1 + set7))) (sS 7 [(SMP_STAT_STATE, 7, 0, 2)]) (fun t => getF t SMP_STAT_STATE 7 0 == 2) = true ∧
    ends (.samplerArm .mgmt 6 (BitVec.ofNat 32 (1 + set7))) (sS 7 []) (fun t => hasBit (getF t (PG_EVT_FLAG cSMP) 6 0) 4) = true ∧
    ends (.samplerArm .mgmt 7 (BitVec.ofNat 32 (1 + set7))) (sS 7 [(GMB_CTX_CTRL_EN, 0, 3, 1), (GMB_CTX_CTRL_LEAD, 0, 3, 7)]) (fun t =>
      getF t SMP_STAT_STATE 7 0 == 0 && hasBit (getF t (PG_EVT_FLAG cSMP) 7 0) 4) = true := by and_intros <;> decide +kernel

/-- A run of sampler 7 in progress. -/
def sRun (rows : List (List (Nat × Nat))) (status : Nat) (l : List (Field × Nat × Nat × Nat)) : State :=
  { sS 7 ((SMP_STAT_STATE, 7, 0, 2) :: (SMP_TEMP, 7, 0, 0) :: l) with smpRuns := [(7, ⟨0, 0, rows, status⟩)] }

theorem test_smp_stop : may (sRun [] 0 []) cSMP 7 SMP_CTRL_ARM.off (4 + set7) ∧
    ends (.samplerDisarm .mgmt 7 (BitVec.ofNat 32 (2 + set7))) (sRun [] 0 []) (fun t => SMap.get t.smpDisarm false 7) = true ∧
    ends (.samplerAbort .mgmt 7 (BitVec.ofNat 32 (4 + set7))) (sRun [] 0 []) (fun t => (SMap.find t.smpRuns 7).isNone &&
      getF t SMP_STAT_LAST 7 0 == Status.cancelled.code) = true ∧
    ends (.samplerAbort .mgmt 7 (BitVec.ofNat 32 (4 + set7))) (sS 7 [(SMP_STAT_STATE, 7, 0, 1)]) (fun t => getF t SMP_STAT_STATE 7 0 == 1) = true := by
  and_intros <;> decide +kernel

theorem test_run_start : (let s := sS 7 [(SMP_STAT_STATE, 7, 0, 1), (SMP_START_STRIDE, 7, 0, 0)]
    smpLead s 7 = 7 ∧ smpHeld s 7 = false ∧ reached 0 0 = true ∧ (match runRows s 7 with
      | .ok t k => decide (t = s) && k == 1
      | _ => false) = true ∧ (match smpRows s 7 1 with
      | .ok _ rows => rows == [[]]
      | _ => false) = true ∧ ends (.samplerRunStart 7) s (fun t => getF t SMP_STAT_STATE 7 0 == 2 && (SMap.find t.smpRuns 7).map (·.rows) == some [[]]) = true ∧
    (match smpRows (setF s SMP_LOGIT 7 0 0) 7 1 with
      | .fail _ e => e == .addressInvalid
      | _ => false) = true ∧ gives (.samplerRunStart 7) (sS 7 []) (sS 7 []) = true) := by
  intro s
  and_intros <;> decide +kernel

/-- Logits 2.0 and 1.0 at IDs 9 and 4. -/
def row2 : List (Nat × Nat) := [(0x40000000, 9), (0x3F800000, 4)]

theorem test_run_done : rowAlive row2 = true ∧ rowAlive [(0xFF800000, 1)] = false ∧ setStatus (sRun [row2] 0 []) (smpMembers (sRun [row2] 0 []) 7) = none ∧
    smpGreedy (sRun [row2] 0 []) 7 = true ∧
    ends (.samplerRunDone 7) (sRun [row2] 0 []) (fun t => getF t SMP_LAST 7 0 == 9 && getF t SMP_STAT_STATE 7 0 == 1 && getF t SMP_STAT_LAST 7 0 == 0) = true ∧
    ends (.samplerRunDone 7) (sRun [row2] 5 []) (fun t => getF t SMP_STAT_LAST 7 0 == 5) = true ∧
    ends (.samplerRunDone 7) (sRun [[(0xFF800000, 1)]] 0 []) (fun t => getF t SMP_STAT_LAST 7 0 == Status.uncorrectable.code) = true ∧
    gives (.samplerRunDone 7) (sS 7 []) (sS 7 []) = true ∧
    setStatus { sRun [row2] 0 [] with railDown := 2 ^ 15 } (smpMembers (sRun [row2] 0 []) 7) = some .uncorrectable := by and_intros <;> decide +kernel

/-- A draw of 0 takes the first candidate, and the greatest the last. -/
theorem test_choose : (let cs : List Cand := [⟨9, 0, 0x3F000000⟩, ⟨4, 0, 0x3F000000⟩]
    (choose cs 0).map (·.id) = some 9 ∧ (choose cs (2 ^ 24 - 1)).map (·.id) = some 4) := by decide +kernel

/-- Blocks of one score in a ring of sampler 2's own stack site. -/
def sScan (n : Nat) (scores : Nat) : State :=
  { sS 2 [(SMP_STAT_STATE, 2, 0, 2), (SMP_CTRL_MODE, 2, 0, 2), (SMP_SCAN_BLK_ENTRIES, 2, 0, 1), (SMP_SCAN_TOTAL, 2, 0, 2), (SMP_TOPK, 2, 0, 1), (SMP_SCAN_RING, 2, 0, 2 ^ 50)] with
    scans := [(2, ⟨0, 0, scores, scores, [(5, 6)], 0⟩)], syncs := [(0, { SyncObj.init with val := n })] }

theorem test_scan : scanOver (sScan 1 0) 2 = false ∧ reached ((getSync (sScan 1 0) 0).visible (sScan 1 0)) 1 = true ∧ siteStatus (sScan 1 0) (dieSite 2) = none ∧
    (match devRead (setSmpState (sScan 1 0) 2 2) (dieSite 2) (2 ^ 50) 4 with
      | .ok _ bs => bs.length == 4
      | _ => false) = true ∧ gives (.scanBlockRead 2) (sScan 0 0) (sScan 0 0) = true ∧ scanOver (sScan 2 2) 2 = true ∧
    ends (.scanDone 2) (sScan 2 2) (fun t => (SMap.find t.scans 2).isNone && getF t SMP_STAT_STATE 2 0 == 0 && getF t SMP_STAT_LAST 2 0 == 0) = true ∧
    gives (.scanDone 2) (sScan 1 0) (sScan 1 0) = true := by and_intros <;> decide +kernel

theorem test_gmb_control : may (sS 7 []) cGMB 0 (0x100 + 0x40 * 7) 1 ∧
    ends (.gmbEnable .mgmt 7 1) (sS 7 []) (fun t => getF t GMB_CTX_CTRL_EN 0 7 == 1 && getF t GMB_CTX_STAT_STATE 0 7 == 1) = true ∧
    ends (.gmbAbort .mgmt 7 3) (sS 7 []) (fun t => getF t GMB_CTX_CTRL_EN 0 7 == 1) = true ∧
    ends (.gmbClear .mgmt 7 5) (sS 7 [(GMB_CTX_STAT_STATE, 0, 7, 4)]) (fun t => getF t GMB_CTX_STAT_STATE 0 7 == 1) = true ∧
    ctxMeet (sS 7 [(GMB_CTX_KV_GEOM_STACKS, 0, 7, 1), (GMB_CTX_KV_GEOM_STACKS, 0, 6, 1), (GMB_CTX_CTRL_EN, 0, 6, 1)]) 7 6 = true ∧
    may (sS 7 []) cGMB 0 GMB_RNG_CTRL.off 1 ∧
    ends (.reseed .mgmt 1) (sS 7 [(GMB_RNG_STAT_ENTROPY_OK, 0, 0, 0)]) (fun t => getF t GMB_RNG_STAT_FAILS 0 0 == 1) = true ∧
    ends (.reseed .mgmt 1) (sS 7 [(GMB_RNG_STAT_ENTROPY_OK, 0, 0, 1)]) (fun t => getF t GMB_RNG_RESEEDS 0 0 == 1) = true ∧
    ends (.autoReseed false) (sS 7 []) (fun t => getF t GMB_RNG_STAT_ENTROPY_OK 0 0 == 0) = true ∧
    ends .entropyFail (sS 7 []) (fun t => hasBit (getF t (PG_EVT_FLAG cGMB) 0 0) 4) = true := by and_intros <;> decide +kernel

/-- Context 3 enabled, led by sampler 7, its descriptor in another module: a read of it is a free value. -/
def sGmb (l : List (Field × Nat × Nat × Nat)) : State := sS 7 ([(GMB_CTX_CTRL_EN, 0, 3, 1), (GMB_CTX_CTRL_LEAD, 0, 3, 7), (GMB_CTX_STAT_STATE, 0, 3, 1), (GMB_CTX_RES, 0, 3, 2 ^ 50),
  (GMB_CTX_DESC, 0, 3, 2 ^ 50)] ++ l)

theorem test_round_start : gmbLead (sGmb []) 3 = 7 ∧ SMap.find (sGmb []).gmbRuns 3 = none ∧ (smpMembers (sGmb []) 7).all (fun d => getF (sGmb []) SMP_STAT_STATE d 0 < 2) = true ∧
    (match devRead (sGmb []) (dieSite 7) (2 ^ 50) 128 with
      | .ok _ bs => bs.length == 128
      | _ => false) = true ∧ gives (.roundStart 3) (sGmb [(GMB_CTX_START_STRIDE, 0, 3, 1)]) (sGmb [(GMB_CTX_START_STRIDE, 0, 3, 1)]) = true ∧
    descBad 0 true = true ∧ descBad (2 ^ 32 + 2 ^ 40) true = false ∧ ctxFull (sGmb [(GMB_CTX_KV_GEOM_SEG_PAGES, 0, 3, 0)]) 3 = true ∧ ctxFull (sGmb [(GMB_CTX_KV_GEOM_SEG_PAGES, 0, 3, 1)]) 3 = false := by
  and_intros <;> decide +kernel

/-- One branch with one draft, token 9. -/
def desc1 : Nat := 2 ^ 32 + 2 ^ 40 + 9 * 2 ^ 256
def sRound (chosen : Option (Nat × Nat × List Nat)) (status : Nat) : State :=
  { sGmb [(GMB_CTX_KV_GEOM_SEG_PAGES, 0, 3, 1), (SMP_TEMP, 7, 0, 0)] with gmbRuns := [(3, ⟨0, 0, desc1, [row2, [(0x40000000, 4)]], status, chosen⟩)] }

theorem test_round_end : smpGreedy (sRound none 0) 7 = true ∧ acceptGreedy desc1 [row2, [(0x40000000, 4)]] = (0, 1, [9, 4]) ∧ dNb desc1 = 1 ∧ dLen desc1 0 = 1 ∧
    ends (.roundEnd 3) (sRound none 6) (fun t => (SMap.find t.gmbRuns 3).isNone && getF t GMB_CTX_STAT_LAST 0 3 == 6) = true ∧
    ends (.roundEnd 3) (sRound none 0) (fun t => getF t GMB_CTX_STAT_A 0 3 == 1 || (SMap.find t.gmbRuns 3).map (·.chosen) == some (some (0, 1, [9, 4]))) = true ∧
    gives (.roundEnd 2) (sRound none 0) (sRound none 0) = true := by and_intros <;> decide +kernel

/-! ## Power-on, bring-up, fuses -/

theorem test_power_on : (let s := { coreSt kA [] with fuseBank := [3], testRec := some ⟨5, 6, true, false, 10, 0⟩, time := ⟨9, 5, 0, 9⟩ }
    ends (.powerOnReset 2 true) s (fun t => decide (t.time = State.reset.time) && t.fuseBank == [3] && t.testRec.map (·.age) == some (19 + 2 * dayTempos) && (getCore t 0).s 1 == 0) = true) := by decide +kernel

theorem test_fuses : (let s := st [(FUS_ADD, 0, 0, 1 + 2 ^ 12)]
    may s cFUS 0 FUS_CTRL.off 1 ∧ fuseKind 1 = true ∧
    ends (.fuseAdd .mgmt 1) s (fun t => t.fuseQueue == [1 + 2 ^ 12 + fuseCheck (1 + 2 ^ 12) * 2 ^ 56] &&
      ends .fuseBlowDone t (fun u => u.fuseBank == t.fuseQueue && u.fuseQueue.isEmpty)) = true ∧
    ends (.fuseAdd .mgmt 1) (st [(FUS_ADD, 0, 0, 2 ^ 44 + 1)]) (fun t => t.fuseQueue.isEmpty && hasBit (getF t (PG_EVT_FLAG cFUS) 0 0) 3) = true ∧
    gives .fuseBlowDone s s = true) := by
  intro s
  and_intros <;> decide +kernel

theorem test_bringup : (let s := st [(MGT_BOOT_STAT_DONE, 0, 0, 1), (MGT_BOOT_STAT_STEP, 0, 0, 2)]
    bootDone s 1 = true ∧ bootDone s 2 = false ∧
    ends (.bringupStepDone 2 9 [] 0 false false) s (fun t => bootDone t 2 && getF t MGT_BOOT_MS 0 1 == 9) = true ∧
    gives (.bringupStepDone 3 9 [] 0 false false) s s = true ∧
    ends (.bringupStepDone 2 9 [] 3 false false) s (fun t => getF t MGT_BOOT_STAT_STEP 0 0 == 15 && getF t MGT_BOOT_FAIL_CODE 0 0 == 3) = true ∧
    (bootImage (st []) false false).2 = false ∧
    ends (.bringupStepDone 1 9 [] 0 false false) (st [(MGT_BOOT_STAT_STEP, 0, 0, 1)]) (fun t => getF t MGT_BOOT_FAIL_CODE 0 0 == 1) = true) := by
  intro s
  and_intros <;> decide +kernel

/-! ## Twins -/

def sTw (a b : Nat) (l : List (Field × Nat × Nat × Nat)) : State :=
  st ([(ARB_PAIR_STAT_STATE, 0, 0, a), (ARB_PAIR_STAT_STATE, 0, 1, b), (ARB_PAIR_STAT_A_OK, 0, 0, 1), (ARB_PAIR_STAT_B_OK, 0, 0, 1), (ARB_PAIR_STAT_A_OK, 0, 1, 1),
    (ARB_PAIR_STAT_B_OK, 0, 1, 1)] ++ l)

theorem test_reports : pairSt (sTw 0 0 []) 0 = twPaired ∧ ends (.arbiterReport 1 false 0 1) (sTw 0 0 []) (fun t => pairActive t 1 == 0 && pairSt t 1 == twResync) = true ∧
    ends (.arbiterReport 1 true 0 0) (sTw 0 0 []) (fun t => pairSt t 1 == twResync && getF t ARB_DIVERGE 0 0 == 1) = true ∧
    ends (.arbiterReport 1 false 1 1) (sTw 0 0 []) (fun t => pairSt t 1 == twRestart) = true ∧
    gives (.arbiterReport 1 false 1 1) (sTw 0 4 []) (sTw 0 4 []) = true := by and_intros <;> decide +kernel

theorem test_restart : ends (.heartbeatWrite 1) { sTw 0 0 [] with time := ⟨7, 0, 0, 7⟩ } (fun t => (getTwin t 1).beat == 7) = true ∧
    gives (.heartbeatTimeout 1) (sTw 0 0 [(ARB_HB_PERIOD, 0, 0, 5)]) (sTw 0 0 [(ARB_HB_PERIOD, 0, 0, 5)]) = true ∧
    ends (.heartbeatTimeout 1) { sTw 0 0 [(ARB_HB_PERIOD, 0, 0, 5)] with time := ⟨5, 0, 0, 5⟩ } (fun t => pairSt t 1 == twRestart) = true ∧
    ends (.managementRestart 0) (sTw 2 0 []) (fun t => pairSt t 0 == twRestart) = true ∧ gives (.managementRestart 0) (sTw 6 0 []) (sTw 6 0 []) = true ∧
    may (sTw 0 0 []) cARB 0 ARB_CTRL_CASTLE.off 1 ∧ ends (.arbCastle .mgmt 1) (sTw 2 0 []) (fun t => pairActive t 0 == 0 && hasBit (getF t (PG_EVT_FLAG cARB) 0 0) 10) = true ∧
    ends (.arbRestart .mgmt 2) (sTw 0 0 []) (fun t => pairSt t 0 == twRestart) = true := by and_intros <;> decide +kernel

theorem test_force_pin : ends (.forcePin 999) (sTw 0 0 []) (fun t => getF t ARB_FORCE_STAT_PIN 0 0 == 1 && getF t ARB_FORCE_STAT_PULSES 0 0 == 0) = true ∧
    ends (.forcePin 1000) (sTw 0 0 [(ARB_CFG_FORCE_EN, 0, 0, 0)]) (fun t => getF t ARB_FORCE_STAT_PULSES 0 0 == 0) = true ∧
    ends (.forcePin 1000) (sTw 0 0 [(ARB_CFG_FORCE_EN, 0, 0, 0), (MGT_BOOT_STAT_DONE, 0, 0, 1)]) (fun t => getF t ARB_FORCE_STAT_PULSES 0 0 == 1) = true ∧
    pinTimed (sTw 0 0 [(ARB_CFG_FORCE_EN, 0, 0, 1), (MGT_BOOT_STAT_DONE, 0, 0, 1)]) = true ∧
    ends (.forcePin 10000000) (sTw 2 2 [(ARB_CFG_FORCE_EN, 0, 0, 1), (MGT_BOOT_STAT_DONE, 0, 0, 1)]) (fun t => pairActive t 1 == 0 && hasBit (getF t (PG_EVT_FLAG cARB) 0 0) 10) = true ∧
    ends .forcePinRestart (sTw 0 0 [(ARB_CFG_FORCE_EN, 0, 0, 1), (MGT_BOOT_STAT_DONE, 0, 0, 1)]) (fun t => pairSt t 0 == twRestart) = true := by and_intros <;> decide +kernel

theorem test_resync : ends (.resyncDone 1) (sTw 0 1 []) (fun t => pairSt t 1 == twPaired) = true ∧ gives (.resyncDone 0) (sTw 0 1 []) (sTw 0 1 []) = true ∧
    ends (.resyncAttemptFail 1) (sTw 0 1 [(ARB_CFG_RESYNC_MAX, 0, 0, 1)]) (fun t => pairSt t 1 == twResync && getF t ARB_PAIR_STAT_ATTEMPTS 0 1 == 1) = true ∧
    ends (.resyncAttemptFail 1) (sTw 0 1 [(ARB_CFG_RESYNC_MAX, 0, 0, 0)]) (fun t => pairSt t 1 == twSolo) = true ∧
    ends (.attemptsReset 1) { sTw 0 0 [(ARB_PAIR_STAT_ATTEMPTS, 0, 1, 3)] with time := ⟨0, 0, 0, dayTempos⟩ } (fun t => getF t ARB_PAIR_STAT_ATTEMPTS 0 1 == 0) = true ∧
    gives (.restartDone 0 true false false) (sTw 0 0 []) (sTw 0 0 []) = true ∧
    ends (.restartDone 0 true false false) (sTw 4 0 []) (fun t => pairSt t 0 == twFailed) = true := by and_intros <;> decide +kernel

/-- An update of the management pair in a phase. -/
def sUpd (phase n : Nat) : State := { sTw 3 0 [(ARB_UPD_STAT_PHASE, 0, 0, phase), (ARB_UPD_AT, 0, 0, 9), (ARB_UPD_TMO, 0, 0, 1)] with update := some ⟨0, 1, 0⟩, time := ⟨n, 0, 0, n⟩ }

theorem test_update : may (sTw 0 0 [(SEC_IMG_STAT_RES0, 0, 0, 1), (ARB_UPD_AT, 0, 0, 20000)]) cARB 0 ARB_UPD_CTRL_START.off 1 ∧
    ends (.updateStart .mgmt 1) (sTw 0 0 [(SEC_IMG_STAT_RES0, 0, 0, 1), (ARB_UPD_AT, 0, 0, 1000000)]) (fun t => t.update.isSome && pairSt t 0 == twUpdating &&
      ends (.updateAbort .mgmt 2) t (fun u => u.update.isNone && pairSt u 0 == twResync)) = true ∧
    ends (.updateStart .mgmt 1) (sTw 0 0 [(SEC_IMG_STAT_RES0, 0, 0, 1), (ARB_UPD_AT, 0, 0, 999999)]) (fun t => t.update.isNone && getF t ARB_UPD_STAT_REASON 0 0 == 7) = true ∧
    gives .updateReady (sTw 0 0 []) (sTw 0 0 []) = true ∧ ends .updateReady (sUpd 2 0) (fun t => getF t ARB_UPD_STAT_PHASE 0 0 == 3) = true ∧
    gives .updateCastle (sUpd 3 8) (sUpd 3 8) = true ∧ atBoundary (sUpd 3 9) = true ∧ beatsSince (sUpd 3 9) 9 = 0 ∧
    ends .updateCastle (sUpd 2 9) (fun t => pairActive t 0 == 0 && getF t ARB_UPD_STAT_REASON 0 0 == 2) = true ∧
    ends .journalOverflow (sUpd 2 0) (fun t => t.update.isNone && getF t ARB_UPD_STAT_REASON 0 0 == 4) = true ∧
    gives .updateTimeout (sUpd 2 999) (sUpd 2 999) = true ∧ ends .updateTimeout (sUpd 2 1000) (fun t => getF t ARB_UPD_STAT_REASON 0 0 == 3) = true := by
  and_intros <;> decide +kernel

/-! ## Power, heat, calibration -/

theorem test_input : ends (.inputRange 35999) (st []) (fun t => t.gov.inputBad && getF t PWR_IN_FAULT 0 0 == 1 && gives (.inputRange 34000) t t &&
      ends .inputBackInRange { t with time := ⟨7, 0, 0, 7⟩ } (fun u => !u.gov.inputBad && u.gov.backAt == 7)) = true ∧
    gives (.inputRange 36000) (st []) (st []) = true ∧ gives (.inputRange 33999) (st []) (st []) = true ∧ gives .inputBackInRange (st []) (st []) = true ∧
    gives (.moduleEstop 4) { st [] with therm := { ThermSt.init with estop := some 0 } } { st [] with therm := { ThermSt.init with estop := some 0 } } = true ∧
    may (st []) cPWR 0 PWR_ESTOP_GO.off 1 ∧ (st []).therm.estop = none := by and_intros <;> decide +kernel

theorem test_estop : ends (.moduleEstop 4) (st []) (fun t => t.therm.estop == some 0 && getF t PWR_ESTOP_CAUSE 0 0 == 4) = true := by decide +kernel

/-- The head of a queue is admitted while its step fits, and the next waits. -/
theorem test_take_head : gives (.governorAdmit 40000 0 0) { st [] with time := ⟨0, 1, 0, 0⟩ } { st [] with time := ⟨0, 1, 0, 0⟩ } = true ∧
    (let s := { st [] with gov := { GovSt.init with inputBad := true, queue := [⟨.port 3, 0⟩] } }
     s.gov.atSource = [] ∧ atBoundary s = true ∧ s.gov.lastAt ≠ s.time.tempoNo + 1 ∧
     ends (.governorAdmit 40000 5 6) s (fun t => t.gov.queue == [⟨.port 3, 0⟩] && getF t PWR_IN_V 0 0 == 40000 && t.gov.lastAt == 1) = true) := by
  and_intros <;> decide +kernel

theorem test_ratios : gives (.capReached 7) { st [] with gov := { GovSt.init with overCap := 1 } } { st [] with gov := { GovSt.init with overCap := 1 } } = true ∧
    ends (.capReached 7) { st [] with gov := { GovSt.init with overCap := 2 } } (fun t => t.gov.overCap == 0 && SMap.get t.ratios 0 15 == 1) = true ∧
    may (st []) cPWR 0 PWR_DIE_CLK.off (2 ^ 14) ∧
    ends (.ratioRequest .mgmt (2 ^ 14)) (st []) (fun t => dieWant t 7 == 1 && getF t CDI_CLK_RATIO 7 0 == 0 &&
      ends (.ratioRequest .mgmt 0) (setF t CDI_CLK_RATIO 7 0 1) (fun u => u.gov.queue.map (·.kind) == [.dieRatio 7])) = true ∧
    may (st []) cPWR 0 PWR_HALF_CLK_WEST_REQ.off 0 ∧ ends (.halfRatioRequest .mgmt 0) (st []) (fun t => t.gov.queue.isEmpty) = true := by
  and_intros <;> decide +kernel

theorem test_half : (let s := st [(PWR_HALF_CLK_WEST_REQ, 0, 0, 2)]
    halfWant s 0 = 2 ∧ getF (followHalf s 0) PWR_HALF_CLK_WEST 0 0 = 2 ∧ halfWant (setF s PWR_HALF_CLK_EAST 0 0 2) 1 = 0 ∧
    (followHalf (setF s PWR_HALF_CLK_EAST 0 0 2) 1).gov.queue.map (·.kind) = [.halfRatio 1]) := by
  intro s
  and_intros <;> decide +kernel

theorem test_rounds : gives (.housekeepingRound false [] [] []) { st [] with time := ⟨0, 1, 0, 0⟩ } { st [] with time := ⟨0, 1, 0, 0⟩ } = true ∧
    ends (.housekeepingRound true [] [] []) (st []) (fun t => hasBit (getF t (PG_EVT_FLAG cTHM) 0 0) 7) = true ∧
    gives (.housekeepingRound false [] [] []) { st [] with therm := { ThermSt.init with lastRound := 1 } } { st [] with therm := { ThermSt.init with lastRound := 1 } } = true ∧
    gives .thermalFastCheck { st [] with therm := { ThermSt.init with fastAt := 1 } } { st [] with therm := { ThermSt.init with fastAt := 1 } } = true ∧
    (atBoundary (st []) = true ∧ getF (st []) ARB_PAIR_STAT_STATE 0 0 ≠ 4 ∧ (st []).therm.lastRound ≠ (st []).time.tempoNo + 1) := by and_intros <;> decide +kernel

theorem test_level : levelOf (applyLevel { st [] with therm := { ThermSt.init with slow := [(15, 2)] } } 15) 15 = 2 ∧
    getF (st []) THM_LEVEL 0 0 < 2 ^ 32 := by and_intros <;> decide +kernel

/-- A site that is to stop, 9 tempos after its tempo 0, and one that is stopped. -/
def sStop (parked : Bool) (n : Nat) (l : List (Field × Nat × Nat × Nat)) : State :=
  { st l with stops := [(3, ⟨0, 9, parked, false⟩)], time := ⟨n, 0, 0, n⟩ }

theorem test_stops : gives (.stopDrainLimit 3) (sStop false 8 []) (sStop false 8 []) = true ∧ gives (.stopDrainLimit 2) (sStop false 9 []) (sStop false 9 []) = true ∧
    atBoundary (sStop false 9 []) = true ∧
    may (sStop true 9 []) cTHM 0 THM_STOP_CLR.off 8 ∧ siteFenced (sStop true 9 []) 3 = true ∧
    ends (.stopClear .mgmt 4) (sStop true 9 []) (fun t => (SMap.find t.stops 3).isSome) = true ∧
    ends (.stopClear .mgmt 8) (sStop true 9 []) (fun t => (SMap.find t.stops 3).isSome && hasBit (getF t (PG_EVT_FLAG cTHM) 0 0) 8) = true := by
  and_intros <;> decide +kernel

theorem test_windows : ends .calWindowOpen (st [(CAL_CTRL_STANDING, 0, 0, 1), (CAL_WIN_PERIOD, 0, 0, 100), (CAL_WIN_OFS, 0, 0, 0), (CAL_CTRL_CLASSES, 0, 0, 8), (CAL_WIN_LEN, 0, 0, 5)])
      (fun t => !(SMap.get t.calWin 0 (15 * 4 + 3) == 0)) = true := by
  decide +kernel

theorem test_slot :
    (let s := { st [(CAL_CTRL_EN, 0, 0, 1)] with calWin := [(0 * 4 + 3, 100)] }
     let t := { s with calSlots := [⟨3, 0, 1000, 0, none, none, false⟩] }
     calItem s 3 0 1000 = true ∧ slotRoom s 3 0 1000 = true ∧
     ends (.calSlotStart 3 0 1000) s (fun u => u.calSlots == t.calSlots) = true ∧ gives (.calSlotStart 3 1 1000) s s = true ∧
     gives (.calSlotDone 3 0 1000 ⟨[0, 0], [0, 0], 0⟩ ⟨[], [], 0⟩) t t = true ∧ gives (.calSlotDone 3 0 999 ⟨[0, 0], [0, 0], 0⟩ ⟨[], [], 0⟩) t t = true ∧
     ends (.calSlotDone 3 0 1000 ⟨[4, 5], [4, 5], 0⟩ ⟨[], [], 0⟩) { t with time := ⟨1, 0, 0, 1⟩ } (fun u => u.calSlots.isEmpty &&
       hasBit (getF u (PG_EVT_FLAG cCAL) 0 0) 0) = true) := by
  intro s t
  and_intros <;> decide +kernel

/-- Two passes that repeat give the mean; two that do not, of which one alone is plausible, give that one. -/
theorem test_judge : judge (st []) 3 0 1000 ⟨[4, 10], [29, 60], 0⟩ = ([16, 35], 1) ∧
    repeats 3 0 4 29 = true ∧ repeats 3 0 4 30 = false := by and_intros <;> decide +kernel

theorem test_stale : calItem (st []) 0 3 (256 + 5) = true ∧ gives (.calStale 3 true 5) (st []) (st []) = true ∧
    (let s := { st [(PRT_CAL_CTRL_MAX_AGE, 3, 0, 1)] with time := ⟨1001, 0, 0, 1001⟩ }
     calLimit s 0 3 < calAge s 0 3 (256 + 5) ∧ ends (.calStale 3 true 5) s (fun t => SMap.get t.calStale false (calKey 0 3 (256 + 5))) = true) ∧
    (let s := { st [(CAL_MAX_AGE, 0, 0, 1)] with time := ⟨1001, 0, 0, 1001⟩ }
     ends (.calItemStale 3 0 1000 0) s (fun t => getF t CAL_STAT_STALE 0 0 == 1 && gives (.calItemStale 3 0 1000 0) t t) = true) := by
  and_intros <;> decide +kernel

/-! ## The host port -/

/-- Partition 7 has every site and its window's base names site 5; the host link is up. -/
def sHost (l : List (Field × Nat × Nat × Nat)) : State :=
  st ([(MGT_PART_MAP, 0, 0, 0xFFFFFFFFFFFFFFFF), (FAB_NODE_NODE, 0, 0, 0), (HST_W2_BASE, 0, 7, 5 * 2 ^ 46), (HST_LINK_STATE, 0, 0, 2), (MGT_BOOT_STAT_DONE, 0, 0, 31), (SEC_PROT, 0, 0, 2 ^ 32 - 1), (SEC_PROT, 0, 1, 2 ^ 32 - 1),
    (SEC_PROT, 0, 2, 2 ^ 32 - 1), (SEC_PROT, 0, 3, 2 ^ 32 - 1)] ++ l)

theorem test_bar2 : bar2Window (.vf 7) (2 ^ 25) = none ∧ bar2Window (.vf 7) (2 ^ 25 - 8) = some (7, 2 ^ 25 - 8) ∧ bar2Window .pf (7 * 2 ^ 25 + 64) = some (7, 64) ∧
    gives (.bar2Access (.vf 7) ⟨2 ^ 25, by decide⟩ 8 true none) (sHost []) (sHost []) = true ∧
    bar2Size false (2 ^ 25 - 8) 8 = true ∧ bar2Size false 64 64 = false ∧ bar2Size true 64 64 = true ∧ bar2Base (sHost []) 7 = true ∧
    bar2Base (sHost [(HST_W2_BASE, 0, 7, 5 * 2 ^ 46 + 4096)]) 7 = false := by and_intros <;> decide +kernel

theorem test_bar2_access : ends (.bar2Access (.vf 7) ⟨64, by decide⟩ 64 false none) (sHost []) (fun t => t.out == [.bar2 8 (2 ^ 512 - 1) .ok]) = true ∧
    ends (.bar2Access .pf ⟨7 * 2 ^ 25 + 64, by decide⟩ 8 false none) { sHost [] with modRst := 2 } (fun t => t.out == [.bar2 0 (2 ^ 64 - 1) .ok]) = true := by
  and_intros <;> decide +kernel

/-- An area of partition 7: an entry with phase 1 and operation NOP, and one with phase 0. -/
def sArea (a : HostArea) (l : List (Field × Nat × Nat × Nat)) : State := { sHost ((HST_SQ_STAT_STATE, 0, 7, 1) :: (HST_SQ_STAT_PHASE, 0, 7, 1) :: l) with areas := [(7, a)] }

theorem test_scan_read : (let s := sArea { HostArea.init with scan := some (0, 0, 2) } [(HST_SQ_CFG_SIZE, 0, 7, 4)]
    ends (.scanReadDone 7 [2 ^ 8, 0]) s (fun t => (getArea t 7).items.length == 1 && getF t HST_SQ_STAT_HEAD 0 7 == 1 && nextItem t 7 == some ⟨0, 0, 0, false, 0, 0, true, false⟩) = true ∧
    ends (.scanReadTimeout 7 true) s (fun t => getF t HST_SCAN_FAILED 0 7 == 1) = true ∧ gives (.scanReadTimeout 7 false) s s = true ∧
    ends (.scanReadTimeout 7 false) { s with time := ⟨10, 0, 0, 10⟩ } (fun t => getF t HST_SCAN_FAILED 0 7 == 1) = true ∧
    gives (.scanReadDone 6 []) s s = true) := by
  intro s
  and_intros <;> decide +kernel

theorem test_host_scan : (let s := { sArea HostArea.init [(HST_SQ_CFG_SIZE, 0, 7, 4), (HST_SQ_CFG_BATCH, 0, 7, 4)] with time := ⟨0, 70, 0, 0⟩ }
    scanInstant s 7 = true ∧ scanInstant s 6 = false ∧ gives (.hostScan 6) s s = true ∧
    ends (.hostScan 7) s (fun t => (getArea t 7).scan.isSome && t.out.length == 1 && gives (.hostScan 7) t t) = true) := by
  intro s
  and_intros <;> decide +kernel

/-- An area with items in flight, the first begun or not. -/
def sItem (l : List HostItem) : State := sArea { HostArea.init with items := l } [(HST_CQ_CFG, 0, 7, 4)]

theorem test_host_items : nextItem (sItem [⟨0, 0, 9, true, 0, 0, true, false⟩]) 7 = some ⟨0, 0, 9, true, 0, 0, true, false⟩ ∧
    ends (.hostNop 7) (sItem [⟨0, 0, 9, true, 0, 0, true, false⟩]) (fun t => (getArea t 7).items.isEmpty && getF t HST_CQ_TAIL_CNT 0 7 == 1) = true ∧
    gives (.hostNop 7) (sItem [⟨0, 1, 9, true, 0, 0, true, false⟩]) (sItem [⟨0, 1, 9, true, 0, 0, true, false⟩]) = true ∧
    gives (.hostNop 7) (sItem []) (sItem []) = true ∧ gives (.hostFence 7) (sItem []) (sItem []) = true ∧ partOf (sItem []) (syncSite 65535) = some 7 ∧
    ends (.hostSyncAdd 7) (sItem [⟨0, 1, 9, true, 65535, 5, true, false⟩]) (fun t => (getSync t 65535).val == 5 && (getArea t 7).items.all (·.begun)) = true ∧
    ends (.hostSyncSet 7) (sItem [⟨0, 2, 9, true, 65535, 5, true, false⟩]) (fun t => (getSync t 65535).val == 5) = true := by and_intros <;> decide +kernel

theorem test_host_more : ends (.hostFence 7) (sItem [⟨0, 1, 9, true, 65535, 5, true, true⟩, ⟨1, 6, 9, true, 0, 0, true, false⟩]) (fun t => (getArea t 7).items.length == 2) = true ∧
    ends (.hostFence 7) (sItem [⟨1, 6, 9, true, 0, 0, true, false⟩]) (fun t => (getArea t 7).items.isEmpty) = true ∧
    ends (.hostRegWrite 7) (sItem [⟨1, 4, 9, true, regOfs cTMP 0 TMP_EPOCH_SET.off, 5, true, false⟩]) (fun t => (getArea t 7).items.isEmpty) = true ∧
    ends (.hostRegRead 7) (sItem [⟨1, 5, 9, true, regOfs cTMP 0 TMP_COUNT.off, 5, true, false⟩]) (fun t => (getArea t 7).items.isEmpty) = true ∧
    partOf (sItem []) 3 = some 7 ∧ nextItem (sItem [⟨1, 4, 9, true, 0, 5, true, false⟩]) 7 = some ⟨1, 4, 9, true, 0, 5, true, false⟩ := by and_intros <;> decide +kernel

theorem test_host_control : may (sHost []) cHST 0 (0x108 + 0x40 * 7) (2 ^ 31) ∧
    ends (.sqEnable .mgmt 7 (BitVec.ofNat 32 (2 ^ 31))) (sArea HostArea.init [(HST_SQ_STAT_HEAD, 0, 7, 3)]) (fun t => getF t HST_SQ_STAT_HEAD 0 7 == 0 && areaState t 7 == saActive) = true ∧
    may (sHost []) cHST 0 (0x11C + 0x40 * 7) 3 ∧ ends (.cqHeadWrite .mgmt 7 3) (sItem []) (fun t => getF t HST_CQ_HEAD 0 7 == 3) = true ∧
    may (sHost []) cHST 0 (0x12C + 0x40 * 7) (2 ^ 31) ∧
    ends (.mailboxEnable .mgmt 7 (BitVec.ofNat 32 (2 ^ 31))) { sHost [] with syncs := [(0, { SyncObj.init with val := 9 })] } (fun t => (getArea t 7).mbxBase == 9) = true := by
  and_intros <;> decide +kernel

theorem test_host_link : ends .linkDown (sItem []) (fun t => getF t HST_LINK_STATE 0 0 == 0 && areaState t 7 == saPaused && gives .linkDown t t && gives (.perst true) t t) = true ∧
    ends (.linkUp 4 6 0x80) (sHost [(HST_LINK_STATE, 0, 0, 0)]) (fun t => vfEnabled t 7 && !vfEnabled t 6 && getF t HST_LINK_WIDTH 0 0 == 4) = true ∧
    gives (.linkUp 3 0 0) (sHost []) (sHost []) = true ∧ (List.range 8).all (fun p => areaOwner (sHost []) p != 8) = true ∧
    ends (.flr 8) { sHost [] with hold := [(pairKey (.vf 7) cSYN 0 SYN_ADD.off, 5)] } (fun t => t.hold.isEmpty) = true ∧
    ends (.msixSend 8 31 false) { sHost [] with msix := ⟨[], [287], []⟩ } (fun t => t.out == [.msix 8 31] && t.msix.ready.isEmpty &&
      gives (.msixSend 8 31 false) t t) = true ∧ gives (.msixSend 0 0 true) (sHost []) (sHost []) = true := by and_intros <;> decide +kernel

/-! ## Security -/

theorem test_verify : may (st []) cSEC 0 SEC_IMG_CTRL_VERIFY.off 3 ∧
    ends (.imageVerify .mgmt 3) (st []) (fun t => t.verify == some 1 && ends (.imageVerify .mgmt 1) t (fun u => u.verify == some 1) &&
      ends (.imageVerifyDone true) t (fun u => u.verify.isNone && getF u SEC_IMG_STAT_RES1 0 0 == 8)) = true ∧
    gives (.imageVerifyDone true) (st []) (st []) = true ∧ (st []).update = none ∧
    ends (.svnCommit .mgmt 4) (sHost [(SEC_SVN_RUNNING, 0, 0, 5), (SEC_SVN_FLOOR, 0, 0, 4)]) (fun t => getF t SEC_SVN_FLOOR 0 0 == 4) = true ∧
    Allowed (sHost [(SEC_SVN_RUNNING, 0, 0, 5), (SEC_SVN_FLOOR, 0, 0, 4)]) .pf cSEC 0 SEC_IMG_CTRL_VERIFY.off 4 := by
  and_intros <;> decide +kernel

theorem test_image_update : ends (.pldmFwUpdate false (List.replicate 4 7) [1] false) (st []) (fun t => t.image1 == some ⟨[7, 7, 7, 7], [1]⟩ && t.image0.isNone &&
    getF t SEC_IMG_STAT_RES1 0 0 == 7) = true := by decide +kernel

theorem test_debug : ends (.debugUnlock false 5) (st [(SEC_PROV_DEBUG, 0, 0, 0)]) (fun t => t.out.length == 1) = true ∧
    getF (st [(SEC_PROV_DEBUG, 0, 0, 1)]) SEC_PROV_DEBUG 0 0 = 1 ∧ unlockGood (st [(SEC_PROV_KEY_VALID, 0, 0, 0), (DEV_SERIAL, 0, 0, 9)]) 5 = false := by
  and_intros <;> decide +kernel

theorem test_attestation : ends (.getVersion true) (st []) (fun t => getF t MGT_SB_MSGS 0 0 == 1 && t.out == [.message "VERSION" [0x12, 0x11]]) = true ∧
    ends (.negotiateAlgorithms false true false) (st []) (fun t => t.out == [.message "ERROR" []]) = true ∧
    ends (.getMeasurements false 7 0) (st []) (fun t => t.out == [.message "ERROR" []]) = true ∧
    ends (.challenge false 1 0) (st []) (fun t => t.out == [.message "ERROR" []]) = true ∧
    ends (.eidAssign 9) (st []) (fun t => getF t MGT_SB_EID 0 0 == 9) = true ∧
    ends (.pldmPlatform false 0 1023) (st []) (fun t => t.out.length == 1) = true ∧ 15 < (classRow cCOR).count := by and_intros <;> decide +kernel

/-! ## The error log and the events of a page -/

def rep (n : Nat) (part : Option Nat) : Report := ⟨n, 1, 2, 3, none, part, 4, 5, 6, 0, 0, 0, false, 0⟩

/-- A log whose first entry is filled and whose ring is full, and one report that waits. -/
def sLog : State := { st [] with log := { (st []).log with first := some (rep 1 none), ring := (List.range 255).map (fun i => rep (256 - i) none), intake := [rep 257 (some 7)] } }

theorem test_log_write : gives .logWrite (st []) (st []) = true ∧ sLog.log.ring.length = 255 ∧ sLog.log.ring.getLast?.map (·.seq) = some 2 ∧
    ends .logWrite sLog (fun t => t.log.ring.length == 255 && getF t ERR_STAT_LOST_DETAIL 0 0 == 1 && getF t ERR_OVF 0 1 == 1 && t.log.intake.isEmpty) = true ∧
    ends .logWrite { sLog with log := { sLog.log with first := none, ring := [] } } (fun t => t.log.first == some (rep 257 (some 7))) = true := by
  and_intros <;> decide +kernel

theorem test_log_clear : may sLog cERR 0 ERR_CTRL_CLEAR.off 1 ∧
    ends (.logClear .mgmt 1) sLog (fun t => t.log.first.isNone && t.log.ring.isEmpty && t.log.intake.length == 1) = true ∧
    ends (.logClearCnt .mgmt 2) (setF sLog ERR_CNT 0 15 9) (fun t => getF t ERR_CNT 0 15 == 0 && t.log.ring.length == 255) = true := by and_intros <;> decide +kernel

theorem test_log_read : may sLog cERR 0 ERR_RD_IDX.off 1 ∧ Allowed sLog (.vf 7) cERR 0 ERR_RD_IDX.off 0 ∧
    ends (.logReadLatch .mgmt 255) sLog (fun t => viewF t .mgmt ERR_RD_DATA 0 0 == (rep 2 none).word 0 && viewF t .pf ERR_RD_DATA 0 0 == 0) = true ∧
    ends (.logReadLatch (.vf 7) 0) sLog (fun t => viewF t (.vf 7) ERR_RD_DATA 0 0 == 0) = true ∧
    may (st []) cERR 0 ERR_FIND_CLASS.off (cSYN * 2 ^ 27 + 2 ^ 16) ∧
    ends (.errFindSearch .mgmt (BitVec.ofNat 32 (cSYN * 2 ^ 27 + 2 ^ 16))) (st [(PG_EVT_FLAG cSYN, 0, 0, 1), (PG_EVT_FLAG cSYN, 127, 0, 1), (PG_EVT_MASK cSYN, 0, 0, 0), (PG_EVT_MASK cSYN, 127, 0, 0)])
      (fun t => viewF t .mgmt ERR_FIND_FOUND 0 0 == 1 && viewF t .mgmt ERR_FIND_INST 0 0 == 127) = true := by and_intros <;> decide +kernel

theorem test_force_event : may (st []) cTMP 0 0x1C (2 ^ 10) ∧ 2 ^ 11 &&& evtBits cTMP = 0 ∧ 2 ^ 10 &&& evtBits cTMP = 2 ^ 10 ∧ hasBit (raisedNow (st []) cTMP 0) 10 = false ∧
    gives (.eventForce .mgmt 4 0 0) (st []) (replied (st []) .mgmt 4 0 0x1C) = true ∧
    ends (.eventForce .mgmt ⟨cTMP, by decide⟩ 0 (2 ^ 10)) (st [(PG_EVT_MASK cTMP, 0, 0, 0), (PG_EVT_CNT_SEL_BIT cTMP, 0, 0, 10)]) (fun t => getF t (PG_EVT_FLAG cTMP) 0 0 == 2 ^ 10 &&
      getF t (PG_EVT_CNT cTMP) 0 0 == 1 && getF t (PG_ERR_SUM_FORCED cTMP) 0 0 == 1 && getF t ERR_SEQ 0 0 == 1 && t.msix.pend == [cTMP]) = true := by
  and_intros <;> decide +kernel

theorem test_event_registers : may (st []) cTMP 0 0x14 3 ∧ may (st []) cTMP 0 0x18 0 ∧ may (st []) cTMP 0 0x20 10 ∧ may (st []) cTMP 0 0x08 1 ∧
    ends (.eventFlagClear .mgmt ⟨cTMP, by decide⟩ 0 3) { st [(PG_EVT_FLAG cTMP, 0, 0, 7)] with raised := [] } (fun t => getF t (PG_EVT_FLAG cTMP) 0 0 == 4) = true ∧
    ends (.eventMaskWrite .mgmt ⟨cTMP, by decide⟩ 0 0) (st [(PG_EVT_FLAG cTMP, 0, 0, 1), (PG_EVT_MASK cTMP, 0, 0, 1)]) (fun t => getF t ERR_SEQ 0 0 == 1) = true ∧
    ends (.evtCntSelWrite .mgmt ⟨cTMP, by decide⟩ 0 10) (st [(PG_EVT_CNT cTMP, 0, 0, 9)]) (fun t => getF t (PG_EVT_CNT cTMP) 0 0 == 0 && getF t (PG_EVT_CNT_SEL_BIT cTMP) 0 0 == 10) = true ∧
    ends (.sumClear .mgmt ⟨cTMP, by decide⟩ 0 1) (st [(PG_ERR_SUM_VIOL cTMP, 0, 0, 9)]) (fun t => getF t (PG_ERR_SUM_VIOL cTMP) 0 0 == 0) = true := by and_intros <;> decide +kernel

theorem test_owner : ends (.ownerWrite .mgmt ⟨cTMP, by decide⟩ 0 (BitVec.ofNat 32 (2 ^ 31 + 2 ^ 18))) (st []) (fun t => getF t (PG_OWNER_EXCL cTMP) 0 0 == 1 && getF t (PG_OWNER_KIND cTMP) 0 0 == 1) = true ∧
    admitted (sHost []) .pf cTMP 0 0x30 (some 1) = true ∧
    ends (.ownerWrite .pf ⟨cTMP, by decide⟩ 0 1) (sHost []) (fun t => getF t (PG_ERR_SUM_REASON cTMP) 0 0 == 3 && getF t SEC_DENY 0 0 == 1) = true ∧
    ends (.ownerWrite .mgmt ⟨cTMP, by decide⟩ 0 1) (sHost [(PG_SEAL_OWNER cTMP, 0, 0, 1)]) (fun t => getF t (PG_ERR_SUM_REASON cTMP) 0 0 == 1) = true ∧
    ends (.sealWrite .pf ⟨cTMP, by decide⟩ 0 3) (sHost []) (fun t => getF t (PG_SEAL_OWNER cTMP) 0 0 == 1 && getF t (PG_SEAL_RWS cTMP) 0 0 == 1) = true ∧
    ends (.sealWrite (.vf 0) ⟨cTMP, by decide⟩ 0 3) (sHost []) (fun t => getF t (PG_SEAL_OWNER cTMP) 0 0 == 0 && getF t (PG_ERR_SUM_REASON cTMP) 0 0 == 3) = true := by
  and_intros <;> decide +kernel

/-! ## Register accesses -/

theorem test_checks : (let o := regOfs cTMP 0 TMP_COUNT.off
    (regCheck (st []) .mgmt false (o + 2) 4 none).2 = some .accessDenied ∧ (regCheck (st []) .mgmt false o 8 none).2 = some .accessDenied ∧
    (regCheck (st []) .mgmt false (regOfs cTMP 1 0x40) 4 none).2 = some .addressInvalid ∧
    (regCheck { st [] with railDown := 1 } .mgmt false (regOfs cCDI 0 0x40) 4 none).2 = some .fenced ∧
    (regCheck { sHost [] with modRst := 2 } .pf false (regOfs cMOV 0 0x40) 4 none).2 = some .targetResetting ∧
    (regCheck (sHost [(SEC_PROT, 0, 0, 0)]) .pf false o 4 none).2 = some .accessDenied ∧
    (regCheck (sHost []) (.vf 6) false (regOfs cMOV 15 0x40) 4 none).2 = some .accessDenied ∧
    (regCheck (st []) .mgmt false o 4 none).2 = none ∧ hostBar .pf false = true ∧ hostBar .mgmt false = false) := by
  intro o
  and_intros <;> decide +kernel

theorem test_refused : ends (.readLoLatch .mgmt ⟨regOfs cTMP 0 TMP_COUNT.off, by decide⟩ 8) (st []) (fun t => t.out == [.answer .mgmt (regOfs cTMP 0 TMP_COUNT.off) (2 ^ 64 - 1) .accessDenied]) = true ∧
    ends (.registerWrite .mgmt ⟨regOfs cTMP 1 0x40, by decide⟩ 4 false 5) (st []) (fun t => t.out == [.answer .mgmt (regOfs cTMP 1 0x40) 0 .addressInvalid]) = true := by
  and_intros <;> decide +kernel

/-- `CAL_MAX_AGE` and a page with no action. -/
theorem test_write : loAt cCAL CAL_MAX_AGE.off = none ∧ hiAt cCAL CAL_MAX_AGE.off = none ∧ regCheck (st []) .mgmt false (regOfs cCAL 0 CAL_MAX_AGE.off) 4 (some 9) = (st [], none) ∧
    ends (.registerWrite .mgmt ⟨regOfs cCAL 0 CAL_MAX_AGE.off, by decide⟩ 4 false 9) (st []) (fun t => getF t CAL_MAX_AGE 0 0 == 9) = true ∧
    ends (.readLoLatch .mgmt ⟨regOfs cCAL 0 CAL_MAX_AGE.off, by decide⟩ 4) (st [(CAL_MAX_AGE, 0, 0, 9)]) (fun t => t.out.length == 1 && t.regs == (st [(CAL_MAX_AGE, 0, 0, 9)]).regs) = true := by
  and_intros <;> decide +kernel

theorem test_pairs : (let o : Fin (2 ^ 28) := ⟨regOfs cSMP 7 SMP_LOGIT.off, by decide⟩
    let h : Fin (2 ^ 28) := ⟨regOfs cSMP 7 SMP_LOGIT.off + 4, by decide⟩
    let s := st [(SMP_LOGIT, 7, 0, 2 ^ 40 + 7)]
    loAt cSMP SMP_LOGIT.off = some (SMP_LOGIT, 0) ∧ hiAt cSMP (SMP_LOGIT.off + 4) = some (SMP_LOGIT, 0) ∧ loAt cSMP (SMP_LOGIT.off + 4) = none ∧
    ends (.readLoLatch .mgmt o 4) s (fun t => t.out == [.answer .mgmt o 7 .ok] &&
      ends (.readLoLatch .mgmt h 4) (setF t SMP_LOGIT 7 0 5) (fun u => u.out.head? == some (.answer .mgmt h 256 .ok))) = true ∧
    ends (.writeHiHold .mgmt h 3) s (fun t => getF t SMP_LOGIT 7 0 == 2 ^ 40 + 7 &&
      ends (.writeLoCommit .mgmt o 64) t (fun u => getF u SMP_LOGIT 7 0 == 3 * 2 ^ 32 + 64 && u.hold.isEmpty)) = true ∧
    ends (.writeLoCommit .mgmt o 64) s (fun u => getF u SMP_LOGIT 7 0 == 2 ^ 40 + 64) = true) := by
  intro o h s
  and_intros <;> decide +kernel

theorem test_count_read : (let s := { st [] with time := ⟨2 ^ 33 + 9, 99, 15, 0⟩ }
    regCheck s .mgmt false (regOfs cTMP 0 TMP_COUNT.off) 4 none = (s, none) ∧
    ends (.countLoRead .mgmt) s (fun t => t.out == [.answer .mgmt (regOfs cTMP 0 TMP_COUNT.off) 9 .ok] && viewF t .mgmt TMP_BEAT_BEAT 0 0 == 99 &&
      readHi { t with time := ⟨0, 0, 0, 0⟩ } .mgmt TMP_COUNT 0 0 == 2) = true) := by
  intro s
  and_intros <;> decide +kernel

/-! ## The block as a whole -/

/-- Does a step answer a next state with a property. -/
def steps (s : State) (p : State → Bool) : Bool :=
  match step s with
  | .next t => p t
  | _ => false

theorem test_step : steps { sA with pending := [.movi 0 0 ⟨3, 0, 0, 0, 5⟩, .halt 0 0 ⟨0, 0, 0, 0, 0⟩] } (fun t => t.pending == [.halt 0 0 ⟨0, 0, 0, 0, 0⟩] && (getCore t 0).s 3 == 5) = true := by decide +kernel

theorem test_idle : steps (st []) (fun t => t.time == ⟨0, 0, 1, 0⟩ && t.pending.isEmpty) = true ∧
    steps { st [] with time := ⟨7, 3, 15, 9⟩ } (fun t => t.time == ⟨7, 4, 0, 9⟩) = true ∧
    steps { st [] with time := ⟨7, 99, 15, 9⟩ } (fun t => t.time == ⟨7, 99, 15, 9⟩) = true := by and_intros <;> decide +kernel

theorem test_table_words : decodeTableWord 8 0 = none ∧ (st []).withFetchWord 8 0 = st [] := by and_intros <;> rfl

/-! ## Further hypotheses of the statements -/

/-- Queues that are full. -/
def sFull : State := coreSt { kQ with
  vecQ := List.replicate 16 ⟨.add, fv 1 2 0 0, 0, 0, .clean, 0⟩
  fabQ := List.replicate 8 ⟨.sset 0 0, 0⟩
  dmaQ := List.replicate 16 ⟨⟨0, 0, 0, 0, false, false, 0, 0, true, true⟩, 0, 0, 0, .clean, 0, 0⟩ } []

theorem test_queues_full : 16 ≤ (getCore sFull 0).vecQ.length ∧ UnusedZero (fv 1 2 0 0) false true true true false ∧
    gives (.vadd 0 (fv 1 2 0 0)) sFull sFull = true ∧ 8 ≤ (getCore sFull 0).fabQ.length ∧ gives (.gld 0 3 ⟨7, 2, 0, 0, 0⟩) sFull sFull = true ∧
    16 ≤ (getCore sFull 0).dmaQ.length ∧ gives (.dcopy 0 ⟨⟨false, false, 0, 2, 3, 5, 0, false, false, 0, 0⟩, .clean, 0⟩) sFull sFull = true := by
  and_intros <;> decide +kernel

/-- At the head of an idle queue an operand that breaks a rule faults the core. -/
theorem test_queue_faults : (getCore sQ 0).fabQ = [] ∧ (getCore sQ 0).wait = none ∧ (getCore sQ 0).dmaQ = [] ∧ (getCore sQ 0).dmaLive < 16 ∧
    (let s := coreSt { kQ with regs := kQ.regs ++ [(6, 2 ^ 40)] } []
    ([(.gld 0 3 ⟨7, 2, 0, 0, 4⟩, fcMisaligned), (.gst 0 3 ⟨0, 2, 3, 0, 4⟩, fcMisaligned), (.atomCas64 0 ⟨7, 2, 3, 0, 4⟩, fcMisaligned),
      (.dcopy 0 ⟨⟨false, false, 0, 2, 3, 4, 0, false, false, 0, 0⟩, .clean, 0⟩, fcOperand),
      (.dcopy 0 ⟨⟨false, false, 0, 2, 5, 5, 0, false, false, 0, 0⟩, .clean, 0⟩, 0),
      (.dcopy 0 ⟨⟨false, false, 0, 6, 3, 5, 0, false, false, 0, 0⟩, .clean, 0⟩, fcLocal)] : List (Instr × Nat)).all
      (fun p => ends p.1 s fun t => getF t COR_FAULT_CODE 0 0 == p.2) = true) ∧
    ends (.dcopy 0 ⟨⟨false, true, 0, 2, 3, 0, 0, false, false, 0, 9⟩, .clean, 0⟩) sQ (fun t => (getSync t 9).val == 1 && getF t COR_RETIRED 0 0 == 1) = true := by
  and_intros <;> decide +kernel

/-- A site in no partition. -/
theorem test_no_partition : partOf (coreSt kA [(MGT_PART_MAP, 0, 0, 0)]) (corSite 0) = none ∧
    ends (.csrRead 0 ⟨3, 0, 0, 0, 2⟩) (coreSt kA [(MGT_PART_MAP, 0, 0, 0)]) (fun t => t.draws == 1) = true := by decide +kernel

/-- A list that is to be suspended at the next beat, and one whose STOP waits. -/
theorem test_suspension : (let s := fun b => { putSeq (st [(MOV_STAT_STATE, 0, 0, mvRunning)]) 0 { Seq.init with suspReq := some 7 } with time := ⟨0, b, 0, 0⟩ }
    limitDue (s 7) = false ∧ ends (.stopApply 0) (s 7) (fun t => seqState t 0 == mvRunning) = true ∧
    ends (.stopApply 0) (s 8) (fun t => seqState t 0 == mvSuspended) = true) := by
  intro s
  and_intros <;> decide +kernel

/-- Data of the site's own: of no request, and of a move-memory load. -/
def aOwn : Arrival := let a := arrD 0 opREAD_DATA 0 0 1; { a with pkt := { a.pkt with srcSite := 0, tag := 5 } }
def sOwn : State := { putSeq sP 0 { Seq.init with dma := some (0, 5, 1) } with
  tags := [(5, ⟨5, 0, pkt0, .copy 9, 0, 10, 0, false⟩)],
  copies := [⟨9, 0, .moveLoad 0, ⟨0, 2 ^ 46, 1, 0, false, false, 0, 0, true, false⟩, 0, 1, 0, 0, 0, []⟩] }

theorem test_own_data : ownCopy (received sP aOwn) 0 aOwn.pkt = none ∧ ownStale (received sP aOwn) 0 aOwn.pkt = true ∧
    ends (.readData aOwn) sP (fun t => getF t FAB_LATE_ANS 0 0 == 1) = true ∧
    (ownCopy (received sOwn aOwn) 0 aOwn.pkt).map (·.kind) = some (.moveLoad 0) ∧
    ownCopy (received sP (arrD 0 opREAD_DATA 0 0x10000000 1)) 0 (arrD 0 opREAD_DATA 0 0x10000000 1).pkt = none ∧
    ownStale (received sP (arrD 0 opREAD_DATA 0 0x10000000 1)) 0 (arrD 0 opREAD_DATA 0 0x10000000 1).pkt = false ∧
    ends (.readData aOwn) sOwn (fun t => moveEntry t 0 5 == ofBytesLE (List.replicate 32 1)) = true := by
  and_intros <;> decide +kernel

/-- A replay that waits goes before the next packet. -/
theorem test_replay : (let s := putTx sVl (linkPort 0) { TxLink.init with queue := [⟨pkt0, true, none, 0⟩], unacked := [⟨⟨pkt0, true, none, 0⟩, 0, 0, 0, true⟩] }
    linkLive s (linkPort 0) = true ∧ linkCircs s (linkPort 0) ≠ [] ∧
    (((getTx s (linkPort 0)).unacked.filter fun u => u.due).findSome? fun u =>
      (idleCirc s (packetCircs s u.q.pkt (linkCircs s (linkPort 0)))).map fun k => (u, k)).isSome = true ∧
    ends (.packetStart (.veryen 0)) s (fun t => (getTx t (linkPort 0)).queue.length == 1 && (getTx t (linkPort 0)).unacked.map (·.due) == [false]) = true) := by
  intro s
  and_intros <;> decide +kernel

/-- An answer that names a line, and a home that refuses it. -/
theorem test_line_answer : compLine pkt0 = none ∧ compLine { pkt0 with dst := compLineOfs } = some 0 ∧ cluAt 0 0 = some 0 ∧
    (Status.ofCode 4).isSome = true ∧ (homeRefuses sP 0).isSome = true ∧ managerDown sP 1 = false := by and_intros <;> decide +kernel

/-- A core ID whose column is 9 is none. -/
theorem test_bad_core : (regCheck (st []) .mgmt false (Sys2Proof.Machine.regOfs cMGT 0 MGT_RETIRE_GO.off) 4 (some (2 ^ 31 + 9))).2 = some .addressInvalid ∧
    admitted (st []) .mgmt cMGT 0 MGT_RETIRE_GO.off (some (2 ^ 31 + 9)) = true ∧ ownRefuses (st []) .mgmt false cMGT 0 MGT_RETIRE_GO.off (2 ^ 31 + 9) = 0 := by
  and_intros <;> decide +kernel

/-! ## Layouts -/

/-- The instruction words of the worked examples (05_core_instructions.md), and words that are none. -/
theorem test_words : instrOf 3 0x41A0254A80000000 = some (.tmma 3 ⟨1, 1, false, true, 0, 1, 5, 9, 10, 0, 0, 0⟩ none ⟨.clean, 0⟩) ∧
    instrOf 3 0xAB15A5BEF0205200 = some (.dcopy 3 ⟨⟨true, true, 0, 21, 20, 22, 15, true, false, 0xF020, 0x5200⟩, .clean, 0⟩) ∧
    wordOf (.tmma 3 ⟨1, 1, false, true, 0, 1, 5, 9, 10, 0, 0, 0⟩ none ⟨.clean, 0⟩) = some 0x41A0254A80000000 ∧
    wordOf (.dcopy 3 ⟨⟨true, true, 0, 21, 20, 22, 15, true, false, 0xF020, 0x5200⟩, .clean, 0⟩) = some 0xAB15A5BEF0205200 ∧
    instrOf 3 (0x0A * 2 ^ 58) = none ∧ instrOf 3 (0x01 * 2 ^ 58 + 0x0E * 2 ^ 36) = none ∧
    instrOf 3 (0x1D * 2 ^ 58 + 2 ^ 32) = none ∧ fnZero (.vsel 3 1 (fv 0 0 0 0)) = false ∧ wordOf .capacityPublish = none := by
  and_intros <;> decide +kernel

/-- The header of the worked example (09_packets_routing.md), its round trip, and a CRC that is wrong. -/
theorem test_packet_bytes : ofBytesLE ((pktBytes (exampleWrite [])).take 24) = 0x0030000002803002 + 0x00024002456789C0 * 2 ^ 64 + 0xA00490101F420A37 * 2 ^ 128 ∧
    (let p := { exampleWrite (List.replicate 64 7) with len := 1 }; p.wf = true ∧ classFits p ∧ readPkt (pktBytes p) = some p) ∧
    pkt0.wf = true ∧ classFits pkt0 ∧ readPkt (pktBytes pkt0) = some pkt0 ∧ readPkt (0 :: (pktBytes pkt0).drop 1) = none := by
  and_intros <;> decide +kernel

end Sys2Proof.Tests
end

section
/-! PROOFS. Register accesses that fail a check: what a refusal books and leaves as it was, and the order of the checks (R11,
R18, R479, R494, R529, R530, R542). -/

namespace Sys2Proof.Machine

/-! ## The key of a register field -/

theorem Field.key_ofs {f : Field} {i n : Nat} (ho : f.off + n * f.stride < 4096) (hl : f.lo < 32) :
    f.key i n / 2 ^ 5 % 2 ^ 12 = f.off + n * f.stride := by unfold Field.key; omega

theorem Field.key_page {f : Field} {i n : Nat} (hi : i < 2048) (ho : f.off + n * f.stride < 4096) (hl : f.lo < 32) :
    f.key i n / 2 ^ 28 = f.cls := by unfold Field.key; omega

/-! ## What a refusal books -/

/-- The parts of the state that hold no account of refusals. -/
def besideAccounts (s : State) :=
  (s.mem, s.cores, s.seqs, s.syncs, s.stackSt, s.circs, s.hold, s.hiLatch, s.time, s.pending)

/-- The key of a register field that no raise, report or refusal writes: `HST_DROP`, which a dropped access alone advances, and
every field outside the pages `SEC`, `HST` and `ERR` but those of `PG_ERR_SUM`. -/
abbrev unbooked (k : Nat) : Prop :=
  k = HST_DROP.key 0 0 ∨ (k / 2 ^ 28 ∉ [cSEC, cHST, cERR] ∧ k / 2 ^ 5 % 2 ^ 12 ≠ 0x38)

/-- `t` is `s` but for the accounts: registers of booked keys, the instants of raises, the log, MSI-X, what was sent out,
and the free values drawn. -/
structure Booked (s t : State) : Prop where
  beside : besideAccounts t = besideAccounts s
  regs : ∀ k, unbooked k → ∀ d, SMap.get t.regs d k = SMap.get s.regs d k

/-- A field of a page of accounts is booked, unless it lies where `HST_DROP` does. -/
theorem not_unbooked_of_page {f : Field} {i n : Nat} (hi : i < 2048) (ho : f.off + n * f.stride < 4096) (hl : f.lo < 32)
    (hc : f.cls ∈ [cSEC, cHST, cERR]) (hd : f.off + n * f.stride ≠ HST_DROP.off) : ¬unbooked (f.key i n) := by
  rintro (h | ⟨h, -⟩)
  · refine hd ?_
    rw [← Field.key_ofs (i := i) ho hl, h]; rfl
  · exact h (Field.key_page hi ho hl ▸ hc)

theorem not_unbooked_fld {c ofs hi lo r : Nat} {a : Acc} (hc : c ∈ [cSEC, cHST, cERR]) (ho : ofs < 4096 := by decide)
    (hl : lo < 32 := by decide) (hd : ofs ≠ HST_DROP.off := by decide) : ¬unbooked ((fld c ofs hi lo a r).key 0 0) :=
  not_unbooked_of_page (by decide) ho hl hc hd

/-- `PG_ERR_SUM` of every page is booked. -/
theorem not_unbooked_errSum (c i hi lo : Nat) (a : Acc) (hl : lo < 32) :
    ¬unbooked ((fld c 0x38 hi lo a 0).key i 0) := by
  have ho : (fld c 0x38 hi lo a 0).key i 0 / 2 ^ 5 % 2 ^ 12 = 0x38 := Field.key_ofs (show 0x38 < 4096 by decide) hl
  rintro (h | ⟨-, h⟩)
  · rw [h] at ho; exact absurd ho (by decide)
  · exact h ho

namespace Booked

theorem refl (s : State) : Booked s s := ⟨rfl, fun _ _ _ => rfl⟩

theorem trans {s t u : State} (h : Booked s t) (g : Booked t u) : Booked s u :=
  ⟨g.beside.trans h.beside, fun k hk d => (g.regs k hk d).trans (h.regs k hk d)⟩

/-- What changes no register, and nothing beside the accounts. -/
theorem of_regs_eq {s t : State} (h : besideAccounts t = besideAccounts s) (hr : t.regs = s.regs) : Booked s t :=
  ⟨h, fun _ _ _ => by rw [hr]⟩

variable {s t : State}

theorem setF (h : Booked s t) (f : Field) (i n v : Nat) (hk : ¬unbooked (f.key i n)) : Booked s (setF t f i n v) :=
  h.trans ⟨rfl, fun _ hu _ => SMap.get_set_other _ _ _ _ fun e => hk (e ▸ hu)⟩

theorem bumpF (h : Booked s t) (f : Field) (i n k : Nat) (hk : ¬unbooked (f.key i n)) : Booked s (bumpF t f i n k) :=
  h.setF f i n _ hk

theorem ite {u : State} {p : Prop} [Decidable p] (h : Booked s t) (g : Booked s u) : Booked s (if p then t else u) := by
  split <;> assumption

/-- `HST_DROP` reads as before. -/
theorem drop_eq (h : Booked s t) : getF t HST_DROP 0 0 = getF s HST_DROP 0 0 := h.regs _ (.inl rfl) _

end Booked

/-- What changes the accounts alone leaves an access without an effect. -/
theorem Unharmed.of_regs {s t : State} (h : besideAccounts t = besideAccounts s)
    (hr : ∀ k, k / 2 ^ 28 ∉ [cSEC, cHST, cERR] → k / 2 ^ 5 % 2 ^ 12 ≠ 0x38 → ∀ d,
      SMap.get t.regs d k = SMap.get s.regs d k) : Unharmed s t := by
  simp only [besideAccounts, Prod.mk.injEq] at h
  obtain ⟨h1, h2, h3, h4, h5, h6, h7, h8, h9, h10⟩ := h
  refine ⟨h1, h2, h3, h4, h5, h6, h7, h8, h9, h10, fun f i n _ hi ho hl hc h38 => hr _ ?_ ?_ _⟩
  · rwa [Field.key_page hi ho hl]
  · rwa [Field.key_ofs ho hl]

theorem Booked.unharmed {s t : State} (h : Booked s t) : Unharmed s t :=
  .of_regs h.beside fun k hc ho => h.regs k (.inr ⟨hc, ho⟩)

theorem Unharmed.trans {s t u : State} (h : Unharmed s t) (g : Unharmed t u) : Unharmed s u := by
  obtain ⟨h1, h2, h3, h4, h5, h6, h7, h8, h9, h10, hf⟩ := h
  obtain ⟨g1, g2, g3, g4, g5, g6, g7, g8, g9, g10, gf⟩ := g
  exact ⟨g1.trans h1, g2.trans h2, g3.trans h3, g4.trans h4, g5.trans h5, g6.trans h6, g7.trans h7, g8.trans h8,
    g9.trans h9, g10.trans h10, fun f i n hf' hi ho hl hc h38 =>
      (gf f i n hf' hi ho hl hc h38).trans (hf f i n hf' hi ho hl hc h38)⟩

/-! ## Raises and reports (R515, R517, R520, R537) -/

theorem msixPend_booked (s : State) (v : Nat) : Booked s (msixPend s v) := by
  unfold msixPend
  split
  · exact .refl s
  · exact .of_regs_eq rfl rfl

theorem foldl_booked {α : Type} (f : State → α → State) (h : ∀ s a, Booked s (f s a)) (l : List α) (s : State) :
    Booked s (l.foldl f s) := by
  induction l generalizing s with
  | nil => exact .refl s
  | cons a l ih => exact (h s a).trans (ih (f s a))

theorem route_booked (s : State) (c i bit : Nat) (b : Belongs) : Booked s (route s c i bit b) := by
  have vf (t : State) (p : Nat) : Booked t (if vfEnabled t p then msixPend t ((p + 1) * 32 + vfVector c) else t) :=
    .ite (msixPend_booked _ _) (.refl t)
  have h := (msixPend_booked s c).trans (foldl_booked _ vf (belongsTo (msixPend s c) c i b) _)
  exact .ite (h.trans (.of_regs_eq rfl rfl)) h

/-- A raise on a page of accounts writes the header of that page. -/
theorem raiseHeader_booked (s : State) {c : Nat} (hc : c ∈ [cSEC, cHST, cERR]) (bit : Nat) :
    Booked s (raiseHeader s c 0 bit).1 := by
  unfold raiseHeader
  dsimp only
  split
  · exact .refl s
  split
  · exact .refl s
  have raised : Booked s { s with raised := SMap.set s.raised 0 ((c * 2048 + 0) * 32 + bit) (nowClk s + 1) } :=
    .of_regs_eq rfl rfl
  have h v w := (raised.setF (PG_EVT_FLAG c) 0 0 v (not_unbooked_fld hc)).setF (PG_EVT_TEMPO c) 0 0 w (not_unbooked_fld hc)
  exact .ite ((h _ _).bumpF (PG_EVT_CNT c) 0 0 1 (not_unbooked_fld hc)) (h _ _)

theorem raiseErr_booked (s : State) (bit : Nat) : Booked s (raiseErr s bit) := by
  have h := raiseHeader_booked s (c := cERR) (by decide) bit
  exact .ite (h.trans (route_booked _ _ _ _ _)) h

/-- The counts of reports by class and by partition are booked. -/
theorem not_unbooked_errCount : ∀ f ∈ [ERR_CNT, ERR_OVF, ERR_PART_CNT_CNT, ERR_PART_CNT_OVF], ∀ n < f.cnt,
    ¬unbooked (f.key 0 n) := by decide

section
variable (s : State) {r : Report} (hr : r.cls < 16) (hp : ∀ p ∈ r.part, p < 8)

include hp in
theorem countPart_booked {f : Field} (hf : f ∈ [ERR_CNT, ERR_OVF, ERR_PART_CNT_CNT, ERR_PART_CNT_OVF]) (h8 : 8 ≤ f.cnt) :
    Booked s (match r.part with
      | some p => bumpF s f 0 p 1
      | none => s) := by
  cases h : r.part with
  | none => exact .refl s
  | some p => exact (Booked.refl s).bumpF f 0 p 1 (not_unbooked_errCount f hf p (Nat.lt_of_lt_of_le (hp p h) h8))

include hr hp

theorem loseDetail_booked : Booked s (loseDetail s r) := by
  have counted := ((Booked.refl s).bumpF ERR_OVF 0 r.cls 1 (not_unbooked_errCount _ (by decide) _ hr)).trans
    (countPart_booked _ hp (f := ERR_PART_CNT_OVF) (by decide) (by decide))
  exact (counted.setF ERR_STAT_LOST_DETAIL 0 0 1 (not_unbooked_fld (by decide))).trans (raiseErr_booked _ 1)

theorem report_booked : Booked s (report s r) := by
  have counted v := (((Booked.refl s).setF ERR_SEQ 0 0 v (not_unbooked_fld (by decide))).bumpF ERR_CNT 0 r.cls 1
    (not_unbooked_errCount _ (by decide) _ hr)).trans (countPart_booked _ hp (f := ERR_PART_CNT_CNT) (by decide) (by decide))
  have logged {t : State} (h : Booked s t) (l : LogSt) : Booked s { t with log := l } := h.trans (.of_regs_eq rfl rfl)
  exact .ite (logged (logged (counted _) _) _)
    (.ite ((logged (counted _) _).trans (loseDetail_booked _ hr hp)) (logged (logged (counted _) _) _))

end

/-- The log class of an event of a page of accounts is one of the sixteen (R518). -/
theorem logClass_lt {c : Nat} (hc : c ∈ [cSEC, cHST, cERR]) (bit : Nat) : logClass c bit < 16 := by
  simp only [List.mem_cons, List.not_mem_nil, or_false] at hc
  rcases hc with rfl | rfl | rfl
  · exact show 0xE < 16 by decide
  · exact show 0xE < 16 by decide
  · exact show 0xF < 16 by decide

/-- An event of a page of accounts that belongs to at most one partition books accounts alone. -/
theorem raiseFor_booked (s : State) {c : Nat} (hc : c ∈ [cSEC, cHST, cERR]) (bit : Nat) {b : Belongs}
    (hb : ∀ t, ∀ p ∈ reportPart t c 0 b, p < 8) : Booked s (raiseFor s c 0 bit b) := by
  have raised := raiseHeader_booked s hc bit
  have routed := raised.trans (route_booked _ c 0 bit b)
  exact .ite (.ite routed (routed.trans (report_booked _ (logClass_lt hc bit) (hb _)))) raised

/-! ## Refusals (R493, R542) and dropped accesses (R479) -/

theorem denyAccess_booked (s : State) (q : Requester) (c i : Nat) : Booked s (denyAccess s q c i) := by
  have counted := (Booked.refl s).bumpF SEC_DENY 0 0 1 (not_unbooked_fld (by decide))
  have recorded k vf := (((counted.setF SEC_DENY_LAST_KIND 0 0 k (not_unbooked_fld (by decide))).setF
    SEC_DENY_LAST_VF 0 0 vf (not_unbooked_fld (by decide))).setF SEC_DENY_LAST_CLASS 0 0 c (not_unbooked_fld (by decide))).setF
    SEC_DENY_LAST_INST 0 0 i (not_unbooked_fld (by decide))
  exact (recorded _ _).trans (raiseFor_booked _ (by decide) 3 fun _ p hp => (Option.some_ne_none p hp.symm).elim)

theorem violate_booked (s : State) (q : Requester) (c i reason : Nat) : Booked s (violate s q c i reason) :=
  (((Booked.refl s).bumpF (PG_ERR_SUM_VIOL c) i 0 1 (not_unbooked_errSum c i 31 24 .ro (by decide))).setF
    (PG_ERR_SUM_REASON c) i 0 reason (not_unbooked_errSum c i 15 12 .ro (by decide))).trans (denyAccess_booked _ q c i)

/-- A dropped access has no effect, and advances `HST_DROP`. -/
theorem barDrop_drops (s : State) {func : Nat} (hf : func ≤ 8) (ofs st : Nat) (bar2 : Bool) :
    Unharmed s (barDrop s func ofs st bar2) ∧
      getF (barDrop s func ofs st bar2) HST_DROP 0 0 = satAdd 32 (getF s HST_DROP 0 0) 1 := by
  have recorded v := ((((Booked.refl s).setF HST_ERR_LAST_STATUS 0 0 st (not_unbooked_fld (by decide))).setF
    HST_ERR_LAST_OFS 0 0 ofs (not_unbooked_fld (by decide))).setF HST_ERR_SRC_BAR2 0 0 v (not_unbooked_fld (by decide))).setF
    HST_ERR_SRC_FUNC 0 0 func (not_unbooked_fld (by decide))
  have counted (t : State) : Unharmed t (bumpF t HST_DROP 0 0 1) := .of_regs rfl fun k hc _ _ =>
    SMap.get_set_other _ _ _ _ fun e => hc (e ▸ by decide)
  have raised (t : State) : Booked t (raiseFor t cHST 0 8 (if func = 0 then .noPart else .part (func - 1))) := by
    refine raiseFor_booked _ (by decide) 8 fun _ p hp => ?_
    split at hp
    · exact (Option.some_ne_none p hp.symm).elim
    · have hp : func - 1 = p := Option.some.inj hp
      omega
  refine ⟨((recorded _).unharmed.trans (counted _)).trans (raised _).unharmed, ?_⟩
  calc getF (barDrop s func ofs st bar2) HST_DROP 0 0
    _ = satAdd 32 (getF _ HST_DROP 0 0) 1 % 2 ^ 32 := (raised _).drop_eq.trans (getF_setF_same _ _ _ _ _)
    _ = satAdd 32 (getF s HST_DROP 0 0) 1 := by
      rw [(recorded _).drop_eq]
      exact Nat.mod_eq_of_lt (by unfold satAdd; omega)

theorem funcNo_le (q : Requester) : funcNo q ≤ 8 := by
  unfold funcNo Requester.part
  cases q with
  | vf n => exact n.isLt
  | _ => decide

/-! ## The checks of an access, in order (R11, R18, R529, R530, R544) -/

section
variable (s : State) (q : Requester) (item : Bool) (ofs bytes : Nat) (w : Option Nat)

/-- The checks that a write alone meets: ownership and seal, then the core ID (R18, R540, R541). -/
def writeCheck (c i o : Nat) : State × Option Status :=
  match w with
  | none => (s, none)
  | some v =>
    if ownRefuses s q item c i o v ≠ 0 then (violate s q c i (ownRefuses s q item c i o v), some .accessDenied)
    else if badCoreId c o v then (s, some .addressInvalid)
    else (s, none)

/-- `MGT_RETIRE` with GO and a column above 8 names no core (R18). -/
theorem writeCheck_badCoreId {c i o v : Nat} (hc : c = cMGT) (ho : o = MGT_RETIRE_GO.off)
    (hown : ownRefuses s q item c i o v = 0) (hgo : hasBit v 31 = true) (hcol : 9 ≤ v % 16) :
    writeCheck s q item (some v) c i o = (s, some .addressInvalid) := by
  have hbad : badCoreId c o v = true := by simp [badCoreId, hc, ho, hgo, hcol]
  simp [writeCheck, hown, hbad]

/-- The rail of the site of a block register is down (R544). -/
def siteDark : Bool :=
  decide (0x40 ≤ ofsReg ofs) && inDie (ofsClass ofs) && (siteOfInst (ofsClass ofs) (ofsInst ofs)).any (railOff s)

theorem siteDark_iff : siteDark s ofs = true ↔ 0x40 ≤ ofsReg ofs ∧ inDie (ofsClass ofs) = true ∧
    ∃ x, siteOfInst (ofsClass ofs) (ofsInst ofs) = some x ∧ railOff s x = true := by
  cases h : siteOfInst (ofsClass ofs) (ofsInst ofs) <;> simp [siteDark, h, and_assoc]

/-- The checks in their order: size and alignment, existence, rail, module reset, admission, and those of a write. -/
theorem regCheck_eq : regCheck s q item ofs bytes w =
    if bytes ≠ 4 ∨ ofs % 4 ≠ 0 then (s, some .accessDenied)
    else if (classRow (ofsClass ofs)).count ≤ ofsInst ofs then (s, some .addressInvalid)
    else if siteDark s ofs then (s, some .fenced)
    else if 2 ≤ s.modRst ∧ hostBar q item = true ∧ servedInReset (ofsClass ofs) = false then (s, some .targetResetting)
    else if admitted s q (ofsClass ofs) (ofsInst ofs) (ofsReg ofs) w = false then
      (denyAccess s q (ofsClass ofs) (ofsInst ofs), some .accessDenied)
    else writeCheck s q item w (ofsClass ofs) (ofsInst ofs) (ofsReg ofs) := by
  cases h : siteOfInst (ofsClass ofs) (ofsInst ofs) <;> cases w <;> simp [regCheck, siteDark, writeCheck, h]

/-- Past the rail, the module reset and the admission decide, and then the checks of a write. -/
theorem regCheck_of_lit (ht : bytes = 4 ∧ ofs % 4 = 0 ∧ ofsInst ofs < (classRow (ofsClass ofs)).count)
    (hd : ¬siteDark s ofs = true) : regCheck s q item ofs bytes w =
      if 2 ≤ s.modRst ∧ hostBar q item = true ∧ servedInReset (ofsClass ofs) = false then (s, some .targetResetting)
      else if admitted s q (ofsClass ofs) (ofsInst ofs) (ofsReg ofs) w = false then
        (denyAccess s q (ofsClass ofs) (ofsInst ofs), some .accessDenied)
      else writeCheck s q item w (ofsClass ofs) (ofsInst ofs) (ofsReg ofs) := by
  obtain ⟨h4, ha, hc⟩ := ht
  rw [regCheck_eq, if_neg (not_or.mpr ⟨not_not_intro h4, not_not_intro ha⟩), if_neg (Nat.not_le.mpr hc), if_neg hd]

/-- What the checks can answer: a status, with the state as it was, or a refusal that is booked. -/
theorem regCheck_cases :
    (∃ r, r ≠ some .ok ∧ regCheck s q item ofs bytes w = (s, r)) ∨
    regCheck s q item ofs bytes w = (denyAccess s q (ofsClass ofs) (ofsInst ofs), some .accessDenied) ∨
    ∃ reason, regCheck s q item ofs bytes w = (violate s q (ofsClass ofs) (ofsInst ofs) reason, some .accessDenied) := by
  rw [regCheck_eq]
  split
  · exact .inl ⟨some .accessDenied, by decide, rfl⟩
  split
  · exact .inl ⟨some .addressInvalid, by decide, rfl⟩
  split
  · exact .inl ⟨some .fenced, by decide, rfl⟩
  split
  · exact .inl ⟨some .targetResetting, by decide, rfl⟩
  split
  · exact .inr (.inl rfl)
  unfold writeCheck
  split
  · exact .inl ⟨none, by decide, rfl⟩
  split
  · exact .inr (.inr ⟨_, rfl⟩)
  split
  · exact .inl ⟨some .addressInvalid, by decide, rfl⟩
  · exact .inl ⟨none, by decide, rfl⟩

/-- The checks book what they refuse, and change nothing else. -/
theorem regCheck_booked : Booked s (regCheck s q item ofs bytes w).1 := by
  rcases regCheck_cases s q item ofs bytes w with ⟨r, -, h⟩ | h | ⟨reason, h⟩ <;> rw [h]
  · exact .refl s
  · exact denyAccess_booked s q _ _
  · exact violate_booked s q _ _ reason

theorem regCheck_ne_ok : (regCheck s q item ofs bytes w).2 ≠ some .ok := by
  rcases regCheck_cases s q item ofs bytes w with ⟨r, hr, h⟩ | h | ⟨reason, h⟩ <;> rw [h]
  · exact hr
  · exact show some Status.accessDenied ≠ some .ok by decide
  · exact show some Status.accessDenied ≠ some .ok by decide

/-- An access that fails no check was admitted. -/
theorem admitted_of_regCheck_none (h : (regCheck s q item ofs bytes w).2 = none) :
    admitted s q (ofsClass ofs) (ofsInst ofs) (ofsReg ofs) w = true := by
  rw [regCheck_eq] at h
  split at h
  · cases h
  split at h
  · cases h
  split at h
  · cases h
  split at h
  · cases h
  split at h
  next => cases h
  next ha => exact eq_true_of_ne_false ha

end

/-- A VF is admitted to the pages of its partition's sites only (R494). -/
theorem partOfInst_of_admitted (s : State) (p : Fin 8) (c i o : Nat) (w : Option Nat) (hs : (classRow c).siteScoped = true)
    (h : admitted s (.vf p) c i o w = true) : partOfInst s c i = some p.val := by
  have hne : c ≠ cERR := by rintro rfl; exact absurd hs (by decide)
  have h : maskAdmits s (.vf p) c w.isSome = true ∧ partOfInst s c i = some p.val := by
    simpa [admitted, hne, vfScope, hs, Requester.part] using h
  exact h.2

/-! ## An access that fails (R11, R479) -/

section
variable {s : State} {q : Requester} {ofs bytes : Nat} {st : Status}

theorem regAccess_fail {item : Bool} {w : Option Nat} (h : (regCheck s q item ofs bytes w).2 = some st) :
    regAccess s q item ofs bytes w = ((regCheck s q item ofs bytes w).1, st, ones64) := by
  have hr : regCheck s q item ofs bytes w = ((regCheck s q item ofs bytes w).1, some st) := Prod.ext rfl h
  rw [regAccess, hr]

/-- What follows a failed access books it, and advances `HST_DROP` for a host function. -/
theorem afterAccess_drops (h : st ≠ .ok) : Unharmed s (afterAccess s q ofs st) ∧
    (hostBar q false = true → getF (afterAccess s q ofs st) HST_DROP 0 0 = satAdd 32 (getF s HST_DROP 0 0) 1) := by
  unfold afterAccess
  by_cases hb : hostBar q false = true
  · obtain ⟨hu, hd⟩ := barDrop_drops s (funcNo_le q) ofs st.code false
    simp [hb, h, hu, hd]
  · simp [hb, (Booked.refl s).unharmed]

/-- A failed write has no effect but for the accounts: the drop of a host function's, the answer of any other. -/
theorem busWrite_fail {v : Nat} (h : (regCheck s q false ofs bytes (some v)).2 = some st) :
    Unharmed s (busWrite s q ofs bytes v) ∧
    (hostBar q false = true → getF (busWrite s q ofs bytes v) HST_DROP 0 0 = satAdd 32 (getF s HST_DROP 0 0) 1) ∧
    (hostBar q false = false → (busWrite s q ofs bytes v).out.head? = some (.answer q ofs 0 st)) := by
  have hok : st ≠ .ok := by rintro rfl; exact regCheck_ne_ok _ _ _ _ _ _ h
  have hck := regCheck_booked s q false ofs bytes (some v)
  obtain ⟨hu, hd⟩ := afterAccess_drops (s := (regCheck s q false ofs bytes (some v)).1) (q := q) (ofs := ofs) hok
  rw [hck.drop_eq] at hd
  have hu := hck.unharmed.trans hu
  simp only [busWrite, regAccess_fail h]
  cases hb : hostBar q false with
  | true => exact ⟨hu, fun _ => hd hb, nofun⟩
  | false => exact ⟨hu.trans (Booked.of_regs_eq rfl rfl).unharmed, nofun, fun _ => rfl⟩

/-- A failed read has no effect but for the accounts, and returns all-ones. -/
theorem busRead_fail (h : (regCheck s q false ofs bytes none).2 = some st) : Unharmed s (busRead s q ofs bytes) ∧
    (busRead s q ofs bytes).out.head? =
      some (.answer q ofs (2 ^ (8 * bytes) - 1) (if hostBar q false then .ok else st)) := by
  have hok : st ≠ .ok := by rintro rfl; exact regCheck_ne_ok _ _ _ _ _ _ h
  have hu := (regCheck_booked s q false ofs bytes none).unharmed.trans (afterAccess_drops (q := q) (ofs := ofs) hok).1
  simp only [busRead, regAccess_fail h]
  exact ⟨hu.trans (Booked.of_regs_eq rfl rfl).unharmed, by simp [emit, hok]⟩

/-- A poisoned write of a host function is dropped. -/
theorem poisonDrop_drops (s : State) (q : Requester) (ofs : Nat) : Unharmed s (poisonDrop s q ofs) ∧
    getF (poisonDrop s q ofs) HST_DROP 0 0 = satAdd 32 (getF s HST_DROP 0 0) 1 := by
  obtain ⟨hu, hd⟩ := barDrop_drops (draw s).2 (funcNo_le q) ofs (draw s).1 false
  exact ⟨(Booked.of_regs_eq (s := s) rfl rfl).unharmed.trans hu, hd⟩

end

theorem exec_readLoLatch (s : State) (q : Requester) (ofs : Fin (2 ^ 28)) (bytes : Fin 65) :
    exec (.readLoLatch q ofs bytes) s = .next (busRead s q ofs bytes) := rfl

theorem exec_registerWrite (s : State) (q : Requester) (ofs : Fin (2 ^ 28)) (bytes : Fin 65) (v : BitVec 32) :
    exec (.registerWrite q ofs bytes false v) s = .next (busWrite s q ofs bytes v.toNat) := rfl

theorem exec_registerWrite_poisoned (s : State) (q : Requester) (ofs : Fin (2 ^ 28)) (bytes : Fin 65) (v : BitVec 32) :
    exec (.registerWrite q ofs bytes true v) s =
      .next (if hostBar q false then poisonDrop s q ofs else busWrite s q ofs bytes v.toNat) := by
  calc exec (.registerWrite q ofs bytes true v) s
    _ = execRegisterWrite q ofs bytes true v s := rfl
    _ = _ := by simp [execRegisterWrite]

/-- Settles O52: the checks in their order are `regCheck_eq`, and what a failed access leaves is `busRead_fail`,
`busWrite_fail` and `poisonDrop_drops`. -/
theorem accessRefusals : Obligations.AccessRefusals := by
  intro s q ofs bytes w fails cls inst there dark barred
  have hdark : siteDark s ofs = true ↔ dark := siteDark_iff s ofs
  have aligned (h4 : bytes.val = 4) (ha : ofs.val % 4 = 0) : ¬(bytes.val ≠ 4 ∨ ofs.val % 4 ≠ 0) :=
    not_or.mpr ⟨not_not_intro h4, not_not_intro ha⟩
  have lit (ht : there) (hn : ¬dark) := regCheck_of_lit s q false ofs bytes w ht (mt hdark.mp hn)
  refine ⟨fun h => ?_, fun h4 ha hc => ?_, fun ht h => ?_, fun ht hn hb => ?_, fun ht hn hb hadm => ?_,
    fun v hw ht hn hb hcls hofs hadm hown hgo hcol => ?_, fun p hq hs hp hnone => ?_, fun st hw h => ?_,
    fun v st hw h => ?_, fun v hq => ?_, fun v hq => ?_⟩
  · rw [show fails = _ from congrArg Prod.snd (regCheck_eq ..), if_pos h]
  · rw [show fails = _ from congrArg Prod.snd (regCheck_eq ..), if_neg (aligned h4 ha), if_pos hc]
  · obtain ⟨h4, ha, hc⟩ := ht
    rw [show fails = _ from congrArg Prod.snd (regCheck_eq ..), if_neg (aligned h4 ha), if_neg (Nat.not_le.mpr hc),
      if_pos (hdark.mpr h)]
  · rw [show fails = _ from congrArg Prod.snd (lit ht hn), if_pos hb]
  · rw [show fails = _ from congrArg Prod.snd (lit ht hn), if_neg hb, if_pos hadm]
  · subst hw
    rw [show fails = _ from congrArg Prod.snd (lit ht hn), if_neg hb, if_neg (ne_false_of_eq_true hadm)]
    exact congrArg Prod.snd (writeCheck_badCoreId s q false hcls hofs hown hgo hcol)
  · subst hq
    exact hp (partOfInst_of_admitted s p _ _ _ w hs (admitted_of_regCheck_none s _ _ _ _ w hnone))
  · subst hw
    exact ⟨_, exec_readLoLatch s q ofs bytes, busRead_fail h⟩
  · subst hw
    exact ⟨_, exec_registerWrite s q ofs bytes v, busWrite_fail h⟩
  · exact ⟨_, exec_registerWrite_poisoned s q ofs bytes v, by simpa [hq] using poisonDrop_drops s q ofs⟩
  · simp [exec_registerWrite, exec_registerWrite_poisoned, hq]

end Sys2Proof.Machine
end

section
/-! PROOFS. Scalar instructions that write one register or none, each as its operation on the state after the fetch (R161 to
R164). -/

namespace Sys2Proof.Machine

/-- No fault where every condition on unused fields holds (R160). -/
theorem resv_none {ok : Bool} (h : ok = true) : resv ok = none := if_pos h

/-- What retires with a register written right after the fetch is a scalar result. -/
theorem putReg_afterFetch (s : State) (c d v : Nat) : putReg (afterFetch s c) c d v = scalarResult s c d v := by
  calc putReg (afterFetch s c) c d v
    _ = retire (putCore s c ((fetched s c).setS d v)) c 1 := by rw [putReg, modCore_fetched]
    _ = scalarResult s c d v := rfl

/-- The fetch leaves the scalar registers as they were. -/
theorem getS_afterFetch (s : State) (c r : Nat) : getS (afterFetch s c) c r = (getCore s c).s r := by
  rw [getS, getCore_putCore, fetched_s]

section
variable {s : State} {c : Fin 1280} {u : List Nat} {ok : Bool}

/-- An instruction that only writes a register gives the value it computes on the state after the fetch. -/
theorem dispatch_putReg (h : Runs s c u) (hok : ok = true) (d : Nat) (value : State → Nat) :
    dispatch s c u (resv ok) (fun t _ => putReg t c d (value t)) = scalarResult s c d (value (afterFetch s c)) := by
  rw [resv_none hok, dispatch_runs s c u _ h, putReg_afterFetch]

/-- Every ALU operation acts on sA and sB + IMM as they were before it (R163). -/
theorem aluOp_runs {f : FmtA} (h : Runs s c [f.a, f.b, f.d]) (hrsv : f.rsv = 0) (op : Nat → Nat → Nat) :
    aluOp s c f op = scalarResult s c f.d
      (op ((getCore s c).s f.a) (((getCore s c).s f.b + (f.imm.signExtend 64).toNat) % 2 ^ 64)) := by
  have hok : (f.rsv == 0) = true := by simp [hrsv]
  rw [aluOp, dispatch_putReg h hok, getS_afterFetch, getS_afterFetch, add64, imm64]

end

section
variable {c : Fin 1280} {f : FmtA} {s : State}

/-- R162: NOP only retires. -/
theorem exec_nop_runs (h : Runs s c []) (hrsv : f.rsv = 0) (hd : f.d = 0) (ha : f.a = 0) (hb : f.b = 0) (himm : f.imm = 0) :
    exec (.nop c 0 f) s = .next (retired s c (fetched s c)) := by
  calc exec (.nop c 0 f) s
    _ = execNop c 0 f s := rfl
    _ = .next (retired s c (fetched s c)) := by
      rw [execNop, resv_none (by simp [hrsv, hd, ha, hb, himm]), dispatch_runs s c [] _ h, retired]

/-- R164: MOVI writes IMM, sign-extended. -/
theorem exec_movi_runs (h : Runs s c [f.d]) (hrsv : f.rsv = 0) (ha : f.a = 0) (hb : f.b = 0) :
    exec (.movi c 0 f) s = .next (scalarResult s c f.d (f.imm.signExtend 64).toNat) := by
  calc exec (.movi c 0 f) s
    _ = execMovi c 0 f s := rfl
    _ = .next (scalarResult s c f.d (f.imm.signExtend 64).toNat) := by
      rw [execMovi, dispatch_putReg h (by simp [hrsv, ha, hb]), imm64]

/-- R164: MOVHI writes IMM over the low half of sA as it was before. -/
theorem exec_movhi_runs (h : Runs s c [f.a, f.d]) (hrsv : f.rsv = 0) (hb : f.b = 0) :
    exec (.movhi c 0 f) s = .next (scalarResult s c f.d ((getCore s c).s f.a % 2 ^ 32 + f.imm.toNat * 2 ^ 32)) := by
  calc exec (.movhi c 0 f) s
    _ = execMovhi c 0 f s := rfl
    _ = .next (scalarResult s c f.d ((getCore s c).s f.a % 2 ^ 32 + f.imm.toNat * 2 ^ 32)) := by
      rw [execMovhi, dispatch_putReg h (by simp [hrsv, hb]), getS_afterFetch]

end

/-- Settles O1: each ALU instruction is `aluOp` with its own operation, and `aluOp_runs` says what that gives. -/
theorem aluResults : Obligations.AluResults := by
  intro c f s hruns hrsv x y
  have result (op : Nat → Nat → Nat) :
      Host.Outcome.next (φ := Fault) (ρ := Refusal) (aluOp s c f op) = .next (scalarResult s c f.d (op x y)) :=
    congrArg _ (aluOp_runs hruns hrsv op)
  and_intros <;> exact result _

/-- Settles O2: one lemma for each of the three instructions. -/
theorem constantResults : Obligations.ConstantResults := by
  intro c f s hrsv hb
  exact ⟨fun h hd ha himm => exec_nop_runs h hrsv hd ha hb himm, fun h ha => exec_movi_runs h hrsv ha hb,
    fun h => exec_movhi_runs h hrsv hb⟩

end Sys2Proof.Machine
end
